-- ==== Sys2Proof/Word.lean ====
section
/-! DEFINITION. Word.lean: the widths the manual counts in (spec/00_scope.md, Time quantities and Conventions). -/

namespace Sys2Proof

/-- One byte of a frame, a record or an image. -/
abbrev Byte := BitVec 8

/-- A 6-byte network address. -/
abbrev Addr := BitVec 48

/-- The elapsed count M, or a deadline kept as an elapsed count: 48 bits (R3). -/
abbrev Elapsed := BitVec 48

/-- A station second: a 32-bit count from 2000-01-01 00:00:00. -/
abbrev Second := BitVec 32

/-- An event counter: 32 bits, wrapping (00, Conventions, Counted). -/
abbrev Count := BitVec 32

end Sys2Proof
end

