-- ==== Sys2Proof/Syntax.lean ====
section
/-! DEFINITION. Syntax.lean: the commands of the part, one constructor per row of spec/opcode_table.json. -/

namespace Sys2Proof

/-- The two network ports (R44). -/
inductive Port where
  | u
  | s
  deriving DecidableEq, Repr

/-- The other port: where a forwarded frame leaves (R52). -/
def Port.other : Port → Port
  | .u => .s
  | .s => .u

/-- A stamp: a reading and the quality class in force at one instant (R21). -/
structure Stamp where
  sec : Second
  ns  : Nat
  cls : Fin 4
  deriving DecidableEq, Repr

/-- What the responder knows of a request beside its code and body (R50, R200): the port it arrived on, the
requester's source address, the frame's arrival stamp and the request tag. -/
structure ReqHead where
  port : Port
  src  : Addr
  stamp : Stamp
  tag  : BitVec 16
  deriving DecidableEq, Repr

/-- The commands: the part's events and the requests the responder takes. Units are numbered from 0 (`Fin 6`, unit
number less 1), groups and lines as the manual numbers them. `body` is the payload after the request code, padding
included (R200). -/
inductive Instr where
  | secondRollover
  | rangeWrap
  | markerEdge
  | beaconStale
  | silenceExpiry
  | holdoverLimit
  | frameStart (port : Port)
  | frameReceived (port : Port) (bytes : List Byte)
  | frameTake
  | classificationDone
  | transmissionStart (port : Port)
  | transmissionComplete (port : Port)
  | tripHoldExpiry (unit : Fin 6)
  | hourlyRequest (unit : Fin 6)
  | settleDeadline (group : Fin 16)
  | overdueExpiry
  | offerLapse
  | driveEnd (line : Fin 8)
  | gapEnd (line : Fin 8)
  | meterThreshold (line : Fin 8)
  | backupEntry (vbackup : Nat)
  | retentionValidCleared
  | supplyOff
  | coldStart
  | warmStart
  | resetAsserted
  | resetReleased
  | commissionChange (asserted : Bool)
  | checkpointProgramStart
  | checkpointProgramComplete
  | imageProgramStart
  | imageProgramComplete
  | commitBankActivated
  | restartTakesEffect
  | readClock (head : ReqHead) (body : List Byte)
  | readStatus (head : ReqHead) (body : List Byte)
  | readCounters (head : ReqHead) (body : List Byte)
  | readFault (head : ReqHead) (body : List Byte)
  | clearFault (head : ReqHead) (body : List Byte)
  | readTrips (head : ReqHead) (body : List Byte)
  | ackGroup (head : ReqHead) (body : List Byte)
  | ackNext (head : ReqHead) (body : List Byte)
  | resetGroup (head : ReqHead) (body : List Byte)
  | pollGroups (head : ReqHead) (body : List Byte)
  | readTally (head : ReqHead) (body : List Byte)
  | readShift (head : ReqHead) (body : List Byte)
  | readShifts (head : ReqHead) (body : List Byte)
  | readLines (head : ReqHead) (body : List Byte)
  | setDial (head : ReqHead) (body : List Byte)
  | loadEntry (head : ReqHead) (body : List Byte)
  | readEntry (head : ReqHead) (body : List Byte)
  | commitBank (head : ReqHead) (body : List Byte)
  | setParam (head : ReqHead) (body : List Byte)
  | setMask (head : ReqHead) (body : List Byte)
  | setTime (head : ReqHead) (body : List Byte)
  | presetTally (head : ReqHead) (body : List Byte)
  | forceHandover (head : ReqHead) (body : List Byte)
  | checkpointNow (head : ReqHead) (body : List Byte)
  | storeConfig (head : ReqHead) (body : List Byte)
  | restart (head : ReqHead) (body : List Byte)
  deriving DecidableEq, Repr

end Sys2Proof
end

