-- ==== Sys2Proof/Decode.lean ====
section
/-! DEFINITION. Decode.lean: the commands that a word of the opcode table spells. -/

namespace Sys2Proof

/-- The rows of spec/opcode_table.json carry no bits, so no word spells a command (log 19). -/
def decodeTableWord (_nbits _w : Nat) : Option Instr := none

end Sys2Proof
end

