-- ==== Sys2Proof/Config.lean ====
section
/-! DEFINITION. Config.lean: what the manual leaves free, as constants without a body, and the capacities it fixes. -/

namespace Sys2Proof

/-- Free value (logs 3, 4, 30): the n-th choice the manual leaves open, that is, which of the events that fall
together is taken first, how many of those that fall together with a rollover are taken before it (log 30), and whether
a classification in progress is done now. -/
opaque Config.choice : Nat → Nat

/-- Frames an ingress queue holds (R47). -/
def Config.ingressCap : Nat := 8
/-- Frames an URGENT egress queue holds (R53). -/
def Config.urgentCap : Nat := 16
/-- Frames a NOTICE egress queue holds (R53). -/
def Config.noticeCap : Nat := 16
/-- Frames a BULK egress queue holds (R53). -/
def Config.bulkCap : Nat := 64
/-- Records the trip list holds (R97). -/
def Config.tripCap : Nat := 512
/-- Closed records the shift list holds (R146). -/
def Config.shiftCap : Nat := 16
/-- Changes that may wait behind a drive (R170). -/
def Config.pendingCap : Nat := 8
/-- The limit of a run time, 3,599,999,999 s 999 ms, in milliseconds (R129). -/
def Config.runLimit : Nat := 3599999999999
/-- The limit of a saturating 32-bit count. -/
def Config.countLimit : Nat := 4294967295

end Sys2Proof
end

