-- ==== Sys2Proof/Machine/Bytes.lean ====
section
/-! DEFINITION. Machine/Bytes.lean: multi-byte values, the encodings of R204, the two cyclic checks (R45, R191) and
the frames the part builds (R55). Nothing here reads State. -/

namespace Sys2Proof.Machine

/-! ### Numbers -/

/-- `n` in `w` bytes, most significant byte first (00, Byte order). -/
def be : Nat → Nat → List Byte
  | 0, _ => []
  | w + 1, n => BitVec.ofNat 8 (n / 256 ^ w) :: be w n

/-- The number that bytes carry, most significant byte first. -/
def ofBe (l : List Byte) : Nat := l.foldl (fun acc b => acc * 256 + b.toNat) 0

/-- A signed number in two's complement (R204). -/
def beInt (w : Nat) (i : Int) : List Byte := be w (i % (256 ^ w : Nat)).toNat

/-- The signed number that one byte carries. -/
def ofByteSigned (b : Byte) : Int := b.toInt

/-! ### R204 items -/

/-- A fact with no listed values: 0 no, 1 yes (log 11). -/
def encYes (b : Bool) : List Byte := [if b then 1 else 0]

/-- An enumeration whose values are listed "set, clear" or "yes, no": numbered from 0 in that order (R204, log 10). -/
def encSet (b : Bool) : List Byte := [if b then 0 else 1]

/-- An optional item of `w` bytes: presence byte, then the field, 0 when absent (R204). -/
def encOpt (w : Nat) : Option (List Byte) → List Byte
  | none => 0 :: List.replicate w 0
  | some b => 1 :: b

/-- A run time or a sum of run times in milliseconds: `w` bytes of seconds and 2 of milliseconds (R204). -/
def encMs (w : Nat) (ms : Nat) : List Byte := be w (ms / 1000) ++ be 2 (ms % 1000)

/-- A port: U 0, S 1 (R212). -/
def encPort : Port → List Byte
  | .u => [0]
  | .s => [1]

/-- A stamp in the BINARY format, 9 bytes (R57, R214). -/
def encStamp (t : Stamp) : List Byte := be 4 t.sec.toNat ++ be 4 t.ns ++ be 1 t.cls.val

/-! ### Cyclic checks -/

/-- One bit of the frame check: the register is kept reflected, so the bits of a byte enter least significant first
and the generator 04C11DB7h reads EDB88320h (R45). -/
def fcsBit (r : BitVec 32) : BitVec 32 :=
  if r.getLsbD 0 then (r >>> 1) ^^^ 0xEDB88320#32 else r >>> 1

/-- Eight bits of one byte. -/
def fcsByte (r : BitVec 32) (b : Byte) : BitVec 32 :=
  fcsBit (fcsBit (fcsBit (fcsBit (fcsBit (fcsBit (fcsBit (fcsBit (r ^^^ b.zeroExtend 32))))))))

/-- The 32-bit check of bytes: register preset to all ones, complemented at the end (R45). -/
def fcsReg (l : List Byte) : BitVec 32 := ~~~ (l.foldl fcsByte 0xFFFFFFFF#32)

/-- The four bytes of the check as they are carried: the coefficient of x^31 in the least significant bit of the
first byte (R45). -/
def fcs (l : List Byte) : List Byte :=
  let c := fcsReg l
  [c.extractLsb' 0 8, c.extractLsb' 8 8, c.extractLsb' 16 8, c.extractLsb' 24 8]

/-- One bit of the record check, generator 1021h (R191). -/
def checkBit (r : BitVec 16) : BitVec 16 :=
  if r.getLsbD 15 then (r <<< 1) ^^^ 0x1021#16 else r <<< 1

/-- Eight bits of one byte, most significant first. -/
def checkByte (r : BitVec 16) (b : Byte) : BitVec 16 :=
  checkBit (checkBit (checkBit (checkBit (checkBit (checkBit (checkBit (checkBit (r ^^^ (b.zeroExtend 16 <<< 8)))))))))

/-- The 16-bit check of a checkpoint record: preset FFFFh, no final complement (R191). -/
def recordCheck (l : List Byte) : BitVec 16 := l.foldl checkByte 0xFFFF#16

/-! ### Frames -/

/-- The destination address of a frame (R44). -/
def frameDst (f : List Byte) : Addr := BitVec.ofNat 48 (ofBe (f.take 6))
/-- The source address of a frame (R44). -/
def frameSrc (f : List Byte) : Addr := BitVec.ofNat 48 (ofBe ((f.drop 6).take 6))
/-- The type field of a frame (R44). -/
def frameType (f : List Byte) : BitVec 16 := BitVec.ofNat 16 (ofBe ((f.drop 12).take 2))
/-- The payload of a frame, L − 18 bytes (R44). -/
def payload (f : List Byte) : List Byte := (f.drop 14).take (f.length - 18)
/-- The frame check sequence carried by a frame (R45). -/
def frameCheck (f : List Byte) : List Byte := f.drop (f.length - 4)
/-- The bytes the frame check sequence covers (R45). -/
def frameCovered (f : List Byte) : List Byte := f.take (f.length - 4)

/-- Whether a frame's length is one the part takes, 64..1,522 bytes (R45). -/
def lengthOk (f : List Byte) : Bool := 64 ≤ f.length && f.length ≤ 1522

/-- Whether a frame's check sequence agrees with its contents (R45). -/
def fcsOk (f : List Byte) : Bool := frameCheck f == fcs (frameCovered f)

/-- Put a new check sequence in the last 4 bytes (R59). -/
def refresh (f : List Byte) : List Byte := frameCovered f ++ fcs (frameCovered f)

/-- A frame the part originates: addresses and type of R55, the payload padded with zero bytes to reach 64 bytes,
and the check sequence the part computes. -/
def buildFrame (dst src : Addr) (type : BitVec 16) (body : List Byte) : List Byte :=
  let covered := be 6 dst.toNat ++ be 6 src.toNat ++ be 2 type.toNat ++ body ++ List.replicate (46 - body.length) 0
  covered ++ fcs covered

/-- The reading of `w` bytes at payload offset `off`; none when they do not all lie within the payload
(00, Payload; R64, R68). -/
def pick (p : List Byte) (off w : Nat) : Option Nat :=
  if off + w ≤ p.length then some (ofBe ((p.drop off).take w)) else none

/-! ### Notices -/

/-- The body of the POWER notice COLD (R199): cause, for each unit the generation it was restored from or none,
CKPT_INVALID_SLOTS, CONFIG_INVALID, clock state and class. -/
def powerColdBody (gens : List (Option Nat)) (invalid : Nat) (configInvalid : Bool) (state cls : Nat) : List Byte :=
  be 1 0 ++ gens.flatMap (fun g => encOpt 4 (g.map (be 4))) ++ be 4 invalid ++ encSet configInvalid ++ be 1 state
    ++ be 1 cls

/-- A notice's payload (R211): number, code, emission stamp, body. -/
def noticePayload (no : BitVec 16) (code : Nat) (t : Stamp) (body : List Byte) : List Byte :=
  be 2 no.toNat ++ be 1 code ++ encStamp t ++ body

end Sys2Proof.Machine
end

