-- ==== Sys2Proof/Machine/State.lean ====
section
/-! DEFINITION. Machine/State.lean: everything the manual says the part holds, as plain data, and the state after
reset: the end of a cold start (R188) of a part whose nonvolatile store was never programmed (log 7). -/

namespace Sys2Proof.Machine

/-! ### Station clock (01) -/

/-- An elapsed instant: M and the accumulator's nanosecond part (R3). -/
structure Instant where
  m  : Elapsed
  ns : Nat
  deriving DecidableEq, Repr

/-- The clock states, in the manual's order. -/
inductive ClockState where
  | unset
  | manual
  | acquire
  | locked
  | holdover
  deriving DecidableEq, Repr

/-- The held label (R6): a BEACON label keeps the instant it was taken, a MANUAL label has no stale expiry. -/
inductive HeldLabel where
  | beacon (value : Second) (taken : Instant)
  | manual (value : Second)
  deriving DecidableEq, Repr

/-- The station clock's own state (01, table of items). `limitTaken` is the model's: the holdover-limit event of R15
has been taken in the present holdover (log 14). -/
structure Clock where
  sec         : Second
  ns          : Nat
  frac        : BitVec 32
  accNs       : Nat
  accFrac     : BitVec 32
  m           : Elapsed
  trim        : Int
  integral    : Int
  state       : ClockState
  lastMarker  : Option Instant
  good        : Nat
  pendingDiff : Option Int
  held        : Option HeldLabel
  limitTaken  : Bool
  deriving DecidableEq, Repr

/-! ### Calendar (02) -/

/-- The local time fields (R27). -/
structure LocalTime where
  year    : Nat
  month   : Nat
  day     : Nat
  hour    : Nat
  minute  : Nat
  second  : Nat
  weekday : Nat
  deriving DecidableEq, Repr

/-- The calendar unit's state beside its settings (02). -/
structure Calendar where
  flag     : Bool
  fields   : LocalTime
  lastDue  : Option Int
  lastWarn : Option Int
  deriving DecidableEq, Repr

/-! ### Frame path (03) -/

/-- A good frame in an ingress queue, with its arrival stamp (R47). -/
structure RxFrame where
  bytes : List Byte
  stamp : Stamp
  deriving DecidableEq, Repr

/-- A frame on its way out. `restart` marks the reply whose transmission lets RESTART take effect (R61). -/
structure TxFrame where
  bytes   : List Byte
  restart : Bool
  deriving DecidableEq, Repr

/-- The three egress classes (R53). -/
inductive EgressClass where
  | urgent
  | notice
  | bulk
  deriving DecidableEq, Repr

/-- A transmission in progress and the instant it began (R54). -/
structure Transmission where
  frame : TxFrame
  since : Instant
  deriving DecidableEq, Repr

/-- One port: receive state, ingress queue, three egress queues, transmitter (03, table of state). -/
structure PortPath where
  rx      : Option Stamp
  ingress : List RxFrame
  urgent  : List TxFrame
  notice  : List TxFrame
  bulk    : List TxFrame
  tx      : Option Transmission
  deriving DecidableEq, Repr

/-! ### Match banks and classifier (04) -/

/-- Port filter of an entry. -/
inductive PortFilter where
  | u
  | s
  | both
  deriving DecidableEq, Repr

/-- Relation of a byte test (R64): EQ or NE. -/
inductive Relation where
  | eq
  | ne
  deriving DecidableEq, Repr

/-- A byte test, its numbers as carried in their layout widths (R80). -/
structure ByteTest where
  offset   : BitVec 16
  width    : Byte
  mask     : BitVec 32
  value    : BitVec 32
  relation : Relation
  deriving DecidableEq, Repr

/-- The two stamp formats (R57, R58). -/
inductive StampFormat where
  | binary
  | bcd
  deriving DecidableEq, Repr

/-- A requested stamp write: offset and format (R56). -/
structure StampWrite where
  offset : BitVec 16
  format : StampFormat
  deriving DecidableEq, Repr

/-- Stamp origin of a TRIP entry (R72). -/
inductive EntryOrigin where
  | arrival
  | embedded
  deriving DecidableEq, Repr

/-- The seven modes of a unit (R123), in the order of R204. -/
inductive Mode where
  | gen
  | pmp
  | cng
  | cnp
  | snl
  | standstill
  | unknown
  deriving DecidableEq, Repr

/-- Parameters of a TRIP entry (R72). The embedded pick is present for origin EMBEDDED only. -/
structure TripParams where
  source       : Byte
  group        : Byte
  unit         : Option Byte
  stateOffset  : BitVec 16
  codeOffset   : BitVec 16
  codeWidth    : Byte
  clearCode    : BitVec 16
  origin       : EntryOrigin
  embedded     : Option (BitVec 16)
  compensation : BitVec 16
  unitStop     : Bool
  write        : Option StampWrite
  deriving DecidableEq, Repr

/-- Parameters of a UNIT entry (R73): the test pick is an offset and a mask. -/
structure UnitParams where
  unit       : Byte
  modeOffset : BitVec 16
  codeMap    : List (Byte × Mode)
  test       : Option (BitVec 16 × Byte)
  deriving DecidableEq, Repr

/-- Action kind with its parameters (R70 to R76). -/
inductive Action where
  | pass
  | drop
  | stamp (write : StampWrite)
  | trip (params : TripParams)
  | unit (params : UnitParams)
  | beacon (offset : BitVec 16)
  | handover (verb crew operator : BitVec 16)
  deriving DecidableEq, Repr

/-- A match entry without its hit count (04, Entries). `urgent` is the class the entry asks for. -/
structure Entry where
  enabled : Bool
  filter  : PortFilter
  source  : Option Addr
  type    : Option (BitVec 16)
  tests   : List ByteTest
  action  : Action
  forward : Bool
  urgent  : Bool
  chain   : Option Byte
  deriving DecidableEq, Repr

/-- The empty entry (R62). -/
def Entry.empty : Entry :=
  { enabled := false, filter := .both, source := none, type := none, tests := [], action := .pass, forward := true,
    urgent := false, chain := none }

/-- Classifier fault kinds (R77). -/
inductive FaultKind where
  | chainLimit
  | pickOutside
  deriving DecidableEq, Repr

/-- The fault capture record (R78). -/
structure FaultRecord where
  kind   : FaultKind
  index  : Nat
  port   : Port
  source : Addr
  stamp  : Stamp
  deriving DecidableEq, Repr

/-- A frame in classification: arrival port, bytes, arrival stamp, and the network identity in force when it was
taken (R50). -/
structure Work where
  port    : Port
  bytes   : List Byte
  stamp   : Stamp
  station : Addr
  mtype   : BitVec 16
  mgmtU   : Bool
  deriving DecidableEq, Repr

/-- The classifier (03, 04): IDLE when `work` is absent. Hit counts belong to the active bank. -/
structure Classifier where
  work    : Option Work
  pointer : Port
  active  : Vector Entry 128
  standby : Vector Entry 128
  hits    : Vector Count 128
  fault   : Option FaultRecord
  deriving DecidableEq, Repr

/-! ### Trip recorder (05) -/

/-- A source slot (R86); `latest` names a record by its sequence number (R97). -/
structure SourceSlot where
  used    : Bool
  lastNo  : BitVec 16
  epoch   : BitVec 8
  latest  : Option (BitVec 32)
  repeats : Count
  stales  : Count
  deriving DecidableEq, Repr

/-- Kind of a trip record. -/
inductive TripKind where
  | trip
  | clear
  deriving DecidableEq, Repr

/-- Origin of a record's stamp (R91, R92). -/
inductive TripOrigin where
  | arrival
  | embedded
  | fallback
  deriving DecidableEq, Repr

/-- A trip record (R93). -/
structure TripRecord where
  seq      : BitVec 32
  kind     : TripKind
  source   : Fin 64
  group    : Fin 16
  unit     : Option (Fin 6)
  code     : BitVec 16
  stateNo  : BitVec 16
  epoch    : BitVec 8
  stamp    : Stamp
  origin   : TripOrigin
  port     : Port
  shiftNo  : Nat
  late     : Bool
  mode     : Option Mode
  firstOut : Bool
  earlier  : Bool
  acked    : Bool
  repeats  : Nat
  restart  : Bool
  deriving DecidableEq, Repr

/-- The trip recorder's retained state (05). -/
structure Recorder where
  slots   : Vector SourceSlot 64
  list    : List TripRecord
  nextSeq : BitVec 32
  deriving DecidableEq, Repr

/-! ### Annunciation (06) -/

/-- Group states. -/
inductive GroupState where
  | quiet
  | settling
  | announced
  | acked
  deriving DecidableEq, Repr

/-- An annunciation group's retained state (06); its mask and window stand in `Settings`. -/
structure Group where
  state    : GroupState
  ref      : Option (BitVec 32)
  deadline : Option Instant
  trips    : Nat
  lost     : Bool
  deriving DecidableEq, Repr

/-! ### Tally unit (07) -/

/-- A unit record (07). Run times are in milliseconds, indexed GEN, PMP, CNG, CNP, SNL, TEST; starts and trip stops
by the five running modes. `hourlyAsked` is the model's: the condition of R134 has asked (log 15). -/
structure UnitRec where
  mode        : Mode
  test        : Bool
  start       : Elapsed
  run         : Vector Nat 6
  saturated   : Vector Bool 6
  starts      : Vector Nat 5
  stops       : Vector Nat 5
  trips       : Nat
  preOutage   : Option Mode
  hold        : Option Elapsed
  lastCkpt    : Elapsed
  hourlyAsked : Bool
  deriving DecidableEq, Repr

/-! ### Shift unit (08) -/

/-- The open shift record (R145). Groups are sets with bit g for group g. -/
structure OpenShift where
  number        : Nat
  crew          : Nat
  opened        : Stamp
  openedElapsed : Elapsed
  incoming      : Option (BitVec 16)
  entry         : Option (Fin 8)
  overdue       : Bool
  inherited     : BitVec 16
  trips         : Nat
  late          : Nat
  firstOut      : BitVec 16
  snaps         : Vector (Vector Int 6) 6
  deriving DecidableEq, Repr

/-- A closed shift record: the open record's fields and those set at close (R145, R159). -/
structure ClosedShift where
  base          : OpenShift
  outgoing      : Option (BitVec 16)
  handedOver    : BitVec 16
  closed        : Stamp
  closedElapsed : Elapsed
  closeVals     : Vector (Vector Int 6) 6
  runSecs       : Vector (Vector Nat 6) 6
  duration      : Nat
  deriving DecidableEq, Repr

/-- The handover states (08), in the manual's order. -/
inductive HandoverState where
  | onShift
  | due
  | window
  | offered
  | acceptHeld
  deriving DecidableEq, Repr

/-- A held accept (R153). -/
structure HeldAccept where
  crew     : Nat
  operator : BitVec 16
  stamp    : Stamp
  deriving DecidableEq, Repr

/-- The shift unit (08). -/
structure ShiftUnit where
  openRec  : OpenShift
  list     : List ClosedShift
  state    : HandoverState
  expected : Option Nat
  window   : Option (Fin 8)
  overdue  : Bool
  warned   : Option (Fin 8 × Nat)
  offer    : Option (BitVec 16)
  accept   : Option HeldAccept
  overdueAt : Option Elapsed
  lapseAt   : Option Elapsed
  deriving DecidableEq, Repr

/-! ### Pulse lines (09) -/

/-- Functions of a line (R169), in the manual's order. -/
inductive LineFunction where
  | off
  | slaveMinute
  | slaveHalf
  | secondMark
  | hourMeter
  deriving DecidableEq, Repr

/-- The two wires of a line; also the polarity of a pulse. -/
inductive Wire where
  | a
  | b
  deriving DecidableEq, Repr

/-- A known dial cycle (R170). -/
inductive Cycle where
  | c720
  | c1440
  deriving DecidableEq, Repr

/-- A meter selection (R169): unit, modes (bit 0 GEN to bit 4 SNL) and test. -/
structure Selection where
  unit  : Fin 6
  modes : BitVec 5
  test  : Bool
  deriving DecidableEq, Repr

/-- A line's configuration (R169). -/
structure LineCfg where
  function : LineFunction
  width    : Nat
  gap      : Nat
  hold     : Nat
  unit     : Fin 6
  modes    : BitVec 5
  test     : Bool
  deriving DecidableEq, Repr

/-- A configuration change or a dial setting (R170, R176). -/
inductive LineChange where
  | function (f : LineFunction)
  | width (n : Nat)
  | gap (n : Nat)
  | hold (n : Nat)
  | unit (u : Fin 6)
  | modes (b : BitVec 5)
  | test (b : Bool)
  | dial (pos : Nat) (pol : Wire)
  deriving DecidableEq, Repr

/-- Pulse state (R171); ends are elapsed counts. -/
inductive Pulse where
  | rest
  | drive (wire : Wire) (ends : Elapsed)
  | gap (ends : Elapsed)
  deriving DecidableEq, Repr

/-- A line's state beside its configuration (09): `cycle` absent is DIAL_UNKNOWN. -/
structure Line where
  pending : List LineChange
  pulse   : Pulse
  target  : Option Nat
  cycle   : Option Cycle
  pos     : Nat
  pol     : Wire
  mark    : Nat
  basis   : Option Selection
  deriving DecidableEq, Repr

/-! ### Nonvolatile store and checkpoint writer (10) -/

/-- Checkpoint reasons (R191), in the manual's order. -/
inductive Reason where
  | modeEnd
  | hourly
  | shiftClose
  | preset
  | warm
  | request
  deriving DecidableEq, Repr

/-- A slot of the checkpoint area: never programmed, left torn (R195), or 88 bytes (R191). -/
inductive Slot where
  | erased
  | torn
  | bytes (b : List Byte)
  deriving DecidableEq, Repr

/-- The configuration image area (R196): never stored, left torn, or the image's bytes. -/
inductive ImageArea where
  | erased
  | torn
  | bytes (b : List Byte)
  deriving DecidableEq, Repr

/-- A request handed to the responder (R50, R200). -/
structure Request where
  head : ReqHead
  code : Byte
  body : List Byte
  deriving DecidableEq, Repr

/-- Engine state (R193, R196): a checkpoint program holds the record it writes, an image program the image captured
at its start and its requester. -/
inductive Engine where
  | idle
  | checkpoint (unit : Fin 6) (slot : Fin 1024) (gen : Nat) (reason : Reason) (record : List Byte) (ends : Instant)
  | image (bytes : List Byte) (requester : Request) (ends : Instant)
  deriving DecidableEq, Repr

/-- The store and the writer (10). `abandoned` is the model's: a program abandoned at the reset line is still to be
counted, after the counters are cleared (R195). `serial` is the factory serial number (R50). -/
structure Store where
  slots         : Vector Slot 1024
  image         : ImageArea
  highestGen    : Nat
  writePos      : Fin 1024
  flags         : Vector (Option Reason) 6
  order         : List (Fin 6)
  engine        : Engine
  waiting       : Option Request
  configInvalid : Bool
  abandoned     : Bool
  serial        : BitVec 32
  deriving DecidableEq, Repr

/-! ### Supply monitor (10) -/

/-- Supply states (R183). -/
inductive SupplyState where
  | run
  | backup
  | off
  deriving DecidableEq, Repr

/-- A start sequence halted by the reset line before its image load (R189). -/
inductive HaltedStart where
  | cold
  | warm
  deriving DecidableEq, Repr

/-- The supply monitor, and the debounced levels of the two input lines. -/
structure Supply where
  state       : SupplyState
  retention   : Bool
  backupEntry : Option Elapsed
  commission  : Bool
  resetLine   : Bool
  halted      : Option HaltedStart
  deriving DecidableEq, Repr

/-! ### Management responder and notice builder (11) -/

/-- Responder states (R203). -/
inductive ResponderState where
  | ready
  | commitWait
  | restartPending
  deriving DecidableEq, Repr

/-- The responder (R203). `handed` are the requests waiting to be taken; `restartDue` says that the reply to RESTART
has been transmitted or dropped (R61). -/
structure Responder where
  state      : ResponderState
  inProgress : Option Request
  handed     : List Request
  noticeNo   : BitVec 16
  restartDue : Bool
  deriving DecidableEq, Repr

/-! ### Settings of every block -/

/-- Station clock settings (R22). -/
structure ClockCfg where
  window    : Nat := 1000000
  step      : Nat := 500000
  lock      : Nat := 1000
  ki        : Nat := 4
  kp        : Nat := 1
  holdLimit : Nat := 3600
  deriving DecidableEq, Repr

/-- A transition of the seasonal rule (R29). -/
structure Transition where
  month   : Nat
  week    : Nat
  weekday : Nat
  hour    : Nat
  deriving DecidableEq, Repr

/-- A schedule entry (R33): weekday mask with bit 0 for Monday, hour absent is ANY. -/
structure ScheduleEntry where
  enabled : Bool := false
  mask    : BitVec 7 := 0
  hour    : Option Nat := some 0
  minute  : Nat := 0
  crew    : Nat := 1
  deriving DecidableEq, Repr

/-- Calendar settings (R32, R33). -/
structure CalCfg where
  offset  : Int := 0
  enabled : Bool := false
  amount  : Nat := 4
  start   : Transition := { month := 3, week := 5, weekday := 7, hour := 2 }
  stop    : Transition := { month := 10, week := 5, weekday := 7, hour := 3 }
  lead    : Nat := 15
  entries : Vector ScheduleEntry 8 := Vector.replicate 8 {}
  deriving DecidableEq, Repr

/-- Network identity settings (R209). -/
structure NetCfg where
  station : Addr
  mtype   : BitVec 16 := 0x9A4C#16
  mgmtU   : Bool := false
  notice  : Addr := 0xFFFFFFFFFFFF#48
  deriving DecidableEq, Repr

/-- The default line configuration (R169). -/
def LineCfg.default : LineCfg :=
  { function := .off, width := 500, gap := 1000, hold := 120, unit := 0, modes := 1, test := false }

/-- All settings, held in the main domain; field defaults are those of R198. Masks have bit g set for group g masked
(R196). -/
structure Settings where
  clock        : ClockCfg := {}
  cal          : CalCfg := {}
  plausibility : Nat := 1000
  windows      : Vector Nat 16 := Vector.replicate 16 5
  masks        : BitVec 16 := 0
  holdLen      : Vector Nat 6 := Vector.replicate 6 10
  totalSel     : Vector (BitVec 6) 6 := Vector.replicate 6 0x1F#6
  overdueLen   : Nat := 15
  lapseLen     : Nat := 5
  initialCrew  : Nat := 1
  lines        : Vector LineCfg 8 := Vector.replicate 8 LineCfg.default
  net          : NetCfg
  deriving DecidableEq, Repr

/-- The station address 02-5A followed by the 32-bit factory serial number (R50). -/
def defaultStation (serial : BitVec 32) : Addr := 0x025A#16 ++ serial

/-- The settings of an invalid image (R198). -/
def Settings.default (serial : BitVec 32) : Settings := { net := { station := defaultStation serial } }

/-! ### Event counters, 32 bits each -/

/-- The station clock's table. -/
structure ClockCnt where
  markerAccepted : Count := 0
  markerGlitch   : Count := 0
  beaconStale    : Count := 0
  labelMismatch  : Count := 0
  relabel        : Count := 0
  step           : Count := 0
  manualSet      : Count := 0
  rangeWrap      : Count := 0
  holdoverEntry  : Count := 0
  holdoverLimit  : Count := 0
  deriving DecidableEq, Repr

/-- The calendar unit's table. -/
structure CalCnt where
  seasonSwitch : Count := 0
  dueFired     : Count := 0
  warningFired : Count := 0
  scheduleSkip : Count := 0
  warningSkip  : Count := 0
  deriving DecidableEq, Repr

/-- The frame path table of one port; `mgmtRefused` is U_MGMT_REFUSED, which port U alone has. -/
structure PortCnt where
  rxGood      : Count := 0
  rxFcs       : Count := 0
  rxLength    : Count := 0
  ingressFull : Count := 0
  mgmtTaken   : Count := 0
  mgmtRefused : Count := 0
  consumed    : Count := 0
  dropUrgent  : Count := 0
  dropNotice  : Count := 0
  dropBulk    : Count := 0
  txFrames    : Count := 0
  stampShort  : Count := 0
  deriving DecidableEq, Repr

/-- The classifier's table. -/
structure ClsCnt where
  noMatchU          : Count := 0
  noMatchS          : Count := 0
  chainLimit        : Count := 0
  pickOutside       : Count := 0
  unitUnmapped      : Count := 0
  handoverMalformed : Count := 0
  deriving DecidableEq, Repr

/-- The trip recorder's eight counters of the main domain. -/
structure RecCnt where
  records   : Count := 0
  repeats   : Count := 0
  stale     : Count := 0
  restart   : Count := 0
  wrap      : Count := 0
  overwrite : Count := 0
  lost      : Count := 0
  fallback  : Count := 0
  deriving DecidableEq, Repr

/-- The annunciation unit's table. -/
structure AnnCnt where
  masked        : Count := 0
  afterDecision : Count := 0
  earlier       : Count := 0
  decided       : Count := 0
  acked         : Count := 0
  reset         : Count := 0
  deriving DecidableEq, Repr

/-- The tally unit's table. -/
structure TallyCnt where
  reports    : Count := 0
  changes    : Count := 0
  same       : Count := 0
  stale      : Count := 0
  stopsTaken : Count := 0
  stopIdle   : Count := 0
  hourly     : Count := 0
  saturated  : Count := 0
  deriving DecidableEq, Repr

/-- The shift unit's table. -/
structure ShiftCnt where
  completed       : Count := 0
  forced          : Count := 0
  held            : Count := 0
  acceptUnoffered : Count := 0
  crewMisfit      : Count := 0
  declined        : Count := 0
  withdrawn       : Count := 0
  lapsed          : Count := 0
  overdue         : Count := 0
  deriving DecidableEq, Repr

/-- The pulse line unit's table. -/
structure LineCnt where
  pulses     : Vector Count 8 := Vector.replicate 8 0
  markMissed : Count := 0
  dialSet    : Count := 0
  realign    : Count := 0
  pulseCut   : Count := 0
  deriving DecidableEq, Repr

/-- The writer's table. -/
structure StoreCnt where
  written      : Count := 0
  coalesced    : Count := 0
  abandoned    : Count := 0
  invalidSlots : Count := 0
  configStored : Count := 0
  deriving DecidableEq, Repr

/-- The responder's table. -/
structure RespCnt where
  taken     : Count := 0
  refused   : Count := 0
  authority : Count := 0
  notices   : Count := 0
  deriving DecidableEq, Repr

/-- All event counters of the main domain. -/
structure Counters where
  clock : ClockCnt := {}
  cal   : CalCnt := {}
  portU : PortCnt := {}
  portS : PortCnt := {}
  cls   : ClsCnt := {}
  recorder : RecCnt := {}
  ann   : AnnCnt := {}
  tally : TallyCnt := {}
  shift : ShiftCnt := {}
  lines : LineCnt := {}
  store : StoreCnt := {}
  resp  : RespCnt := {}
  deriving DecidableEq, Repr

/-! ### The whole state -/

/-- The part's state, block by block. `choices` is the model's own (log 3); `pending` is the queue of commands that
wait, first in first out. -/
structure State where
  clock    : Clock
  cal      : Calendar
  portU    : PortPath
  portS    : PortPath
  cls      : Classifier
  recorder : Recorder
  ann      : Vector Group 16
  tally    : Vector UnitRec 6
  shift    : ShiftUnit
  lines    : Vector Line 8
  store    : Store
  supply   : Supply
  resp     : Responder
  cfg      : Settings
  cnt      : Counters
  choices  : Nat
  pending  : List Instr
  deriving DecidableEq, Repr

/-- Why a step could stop with a fault: never. The manual gives the part no event that stops it; classifier faults
(R77) and refused requests (R201) are effects on State. Safe: there is no constructor to raise. -/
inductive Fault where
  deriving DecidableEq, Repr

/-- Why a step could be refused. -/
inductive Refusal where
  /-- Raised by no meaning: it would stand in the arm of a command without one. Safe. -/
  | notModelled (mnemonic : String)
  deriving DecidableEq, Repr

/-! ### Initial values, block by block -/

/-- The clock after a cold start (R25). -/
def Clock.cold : Clock :=
  { sec := 0, ns := 0, frac := 0, accNs := 0, accFrac := 0, m := 0, trim := 0, integral := 0, state := .unset,
    lastMarker := none, good := 0, pendingDiff := none, held := none, limitTaken := false }

/-- The calendar at S = 0 under the default settings (R27, R42): Saturday 2000-01-01 00:00:00, no season. -/
def Calendar.cold : Calendar :=
  { flag := false, fields := { year := 2000, month := 1, day := 1, hour := 0, minute := 0, second := 0, weekday := 6 },
    lastDue := none, lastWarn := none }

/-- An empty port (R60). -/
def PortPath.empty : PortPath := { rx := none, ingress := [], urgent := [], notice := [], bulk := [], tx := none }

/-- The classifier with empty banks (R60, R62, R78). -/
def Classifier.cold : Classifier :=
  { work := none, pointer := .u, active := Vector.replicate 128 Entry.empty,
    standby := Vector.replicate 128 Entry.empty, hits := Vector.replicate 128 0, fault := none }

/-- An unused source slot (R86). -/
def SourceSlot.cold : SourceSlot :=
  { used := false, lastNo := 0, epoch := 0, latest := none, repeats := 0, stales := 0 }

/-- The recorder after a cold start (R106). -/
def Recorder.cold : Recorder := { slots := Vector.replicate 64 SourceSlot.cold, list := [], nextSeq := 1 }

/-- A group after a cold start (R122). -/
def Group.cold : Group := { state := .quiet, ref := none, deadline := none, trips := 0, lost := false }

/-- A unit record after a cold start with no checkpoint to restore (R144). -/
def UnitRec.cold : UnitRec :=
  { mode := .unknown, test := false, start := 0, run := Vector.replicate 6 0, saturated := Vector.replicate 6 false,
    starts := Vector.replicate 5 0, stops := Vector.replicate 5 0, trips := 0, preOutage := none, hold := none,
    lastCkpt := 0, hourlyAsked := false }

/-- Shift 1 as R168 opens it, with the given snapshots. -/
def OpenShift.first (snaps : Vector (Vector Int 6) 6) : OpenShift :=
  { number := 1, crew := 1, opened := { sec := 0, ns := 0, cls := 3 }, openedElapsed := 0, incoming := none,
    entry := none, overdue := false, inherited := 0, trips := 0, late := 0, firstOut := 0, snaps := snaps }

/-- The shift unit after a cold start (R168). -/
def ShiftUnit.cold (snaps : Vector (Vector Int 6) 6) : ShiftUnit :=
  { openRec := OpenShift.first snaps, list := [], state := .onShift, expected := none, window := none,
    overdue := false, warned := none, offer := none, accept := none, overdueAt := none, lapseAt := none }

/-- A line record after a cold start (R182); the position is not present while the cycle is unknown (log 8). -/
def Line.cold : Line :=
  { pending := [], pulse := .rest, target := none, cycle := none, pos := 0, pol := .a, mark := 0, basis := none }

/-- A store that was never programmed, with the writer idle (R188, R197). -/
def Store.blank (serial : BitVec 32) : Store :=
  { slots := Vector.replicate 1024 .erased, image := .erased, highestGen := 0, writePos := 1023,
    flags := Vector.replicate 6 none, order := [], engine := .idle, waiting := none, configInvalid := true,
    abandoned := false, serial := serial }

/-- The responder after a start (R203). -/
def Responder.cold : Responder :=
  { state := .ready, inProgress := none, handed := [], noticeNo := 0, restartDue := false }

/-- A part with a never-programmed store and no supply yet (R183, OFF). What it holds beside the store is not read
before a cold start sets it (log 9). -/
def State.unpowered (serial : BitVec 32) : State :=
  { clock := Clock.cold, cal := Calendar.cold, portU := PortPath.empty, portS := PortPath.empty,
    cls := Classifier.cold, recorder := Recorder.cold, ann := Vector.replicate 16 Group.cold,
    tally := Vector.replicate 6 UnitRec.cold,
    shift := ShiftUnit.cold (Vector.replicate 6 (Vector.replicate 6 0)),
    lines := Vector.replicate 8 Line.cold, store := Store.blank serial,
    supply := { state := .off, retention := false, backupEntry := none, commission := false, resetLine := false,
                halted := none },
    resp := Responder.cold, cfg := Settings.default serial, cnt := {}, choices := 0, pending := [] }

/-- The machine right after reset: the end of a cold start of a part with a never-programmed store, serial number 0
(logs 7, 8). Every value is the one R25, R42, R60, R62, R106, R122, R144, R168, R182, R188, R198 and R203 give, with
the POWER notice of R188 step 10 in transmission on port S (R54). -/
def State.reset : State :=
  let off := State.unpowered 0
  let net := off.cfg.net
  let body := powerColdBody (List.replicate 6 none) 1024 true 0 3
  let power := buildFrame net.notice net.station net.mtype (noticePayload 1 0x86 ⟨0, 0, 3⟩ body)
  { off with
    portS := { PortPath.empty with tx := some ⟨⟨power, false⟩, ⟨0, 0⟩⟩ }
    supply := { off.supply with state := .run, retention := true }
    resp := { off.resp with noticeNo := 1 }
    cnt := { store := { invalidSlots := 1024 }, resp := { notices := 1 } } }

end Sys2Proof.Machine
end

