-- ==== Sys2Proof/Machine/Codes.lean ====
section
/-! DEFINITION. Machine/Codes.lean: the number each enumerated value takes on the network (R204: from 0 in the order
its rule lists the values), and the bytes of a trip record (R212) and a shift summary (R213). -/

namespace Sys2Proof.Machine

def ClockState.code : ClockState → Nat
  | .unset => 0 | .manual => 1 | .acquire => 2 | .locked => 3 | .holdover => 4

def Mode.code : Mode → Nat
  | .gen => 0 | .pmp => 1 | .cng => 2 | .cnp => 3 | .snl => 4 | .standstill => 5 | .unknown => 6

/-- The mode a code map pair carries: GEN to STANDSTILL (R73). -/
def Mode.ofMapCode : Nat → Option Mode
  | 0 => some .gen | 1 => some .pmp | 2 => some .cng | 3 => some .cnp | 4 => some .snl | 5 => some .standstill
  | _ => none

def GroupState.code : GroupState → Nat
  | .quiet => 0 | .settling => 1 | .announced => 2 | .acked => 3

def HandoverState.code : HandoverState → Nat
  | .onShift => 0 | .due => 1 | .window => 2 | .offered => 3 | .acceptHeld => 4

def LineFunction.code : LineFunction → Nat
  | .off => 0 | .slaveMinute => 1 | .slaveHalf => 2 | .secondMark => 3 | .hourMeter => 4

def LineFunction.ofCode : Nat → Option LineFunction
  | 0 => some .off | 1 => some .slaveMinute | 2 => some .slaveHalf | 3 => some .secondMark | 4 => some .hourMeter
  | _ => none

def Wire.code : Wire → Nat
  | .a => 0 | .b => 1

def SupplyState.code : SupplyState → Nat
  | .run => 0 | .backup => 1 | .off => 2

def Engine.code : Engine → Nat
  | .idle => 0
  | .checkpoint _ _ _ _ _ _ => 1
  | .image _ _ _ => 2

def Reason.code : Reason → Nat
  | .modeEnd => 0 | .hourly => 1 | .shiftClose => 2 | .preset => 3 | .warm => 4 | .request => 5

def FaultKind.code : FaultKind → Nat
  | .chainLimit => 0 | .pickOutside => 1

def TripKind.code : TripKind → Nat
  | .trip => 0 | .clear => 1

def TripOrigin.code : TripOrigin → Nat
  | .arrival => 0 | .embedded => 1 | .fallback => 2

/-- DIAL_UNKNOWN stands last of the three values of the dial cycle (09, table of items). -/
def cycleCode : Option Cycle → Nat
  | some .c720 => 0 | some .c1440 => 1 | none => 2

/-- A unit's number, 1..6. -/
def unitNo (u : Fin 6) : Nat := u.val + 1

/-- The unit a number names, 1..6. -/
def unitOfNo (n : Nat) : Option (Fin 6) :=
  if h : 1 ≤ n ∧ n ≤ 6 then some ⟨n - 1, by omega⟩ else none

/-- A trip record as carried in 32 bytes (R212). -/
def TripRecord.encode (r : TripRecord) : List Byte :=
  be 4 r.seq.toNat ++ be 1 r.kind.code ++ be 1 r.source.val ++ be 1 r.group.val
    ++ be 1 ((r.unit.map unitNo).getD 0) ++ be 2 r.code.toNat ++ be 2 r.stateNo.toNat ++ be 1 r.epoch.toNat
    ++ encStamp r.stamp ++ be 1 r.origin.code ++ encPort r.port ++ be 4 r.shiftNo
    ++ be 1 ((r.mode.map Mode.code).getD 255)
    ++ be 1 ((if r.late then 1 else 0) + (if r.firstOut then 2 else 0) + (if r.earlier then 4 else 0)
        + (if r.acked then 8 else 0) + (if r.restart then 16 else 0))
    ++ be 2 r.repeats

/-- A closed shift record as carried in 203 bytes (R213). -/
def ClosedShift.encode (c : ClosedShift) : List Byte :=
  be 4 c.base.number ++ be 1 c.base.crew ++ be 1 ((c.base.entry.map Fin.val).getD 255)
    ++ be 1 ((if c.base.overdue then 1 else 0) + (if c.outgoing.isSome then 2 else 0)
        + (if c.base.incoming.isSome then 4 else 0))
    ++ be 2 ((c.outgoing.map BitVec.toNat).getD 0) ++ be 2 ((c.base.incoming.map BitVec.toNat).getD 0)
    ++ encStamp c.base.opened ++ encStamp c.closed ++ be 6 c.base.openedElapsed.toNat ++ be 6 c.closedElapsed.toNat
    ++ be 4 (min c.duration Config.countLimit) ++ be 2 c.base.inherited.toNat ++ be 2 c.handedOver.toNat
    ++ be 2 c.base.firstOut.toNat ++ be 4 c.base.trips ++ be 4 c.base.late
    ++ c.runSecs.toList.flatMap (fun v => v.toList.flatMap (be 4))

end Sys2Proof.Machine
end

