-- ==== Sys2Proof/Machine/Flags.lean ====
section
/-! DEFINITION. Machine/Flags.lean: what is derived from State and not stored: elapsed intervals, the holdover age,
the quality class, and the conditions a rule asks of the supply and the reset line. -/

namespace Sys2Proof.Machine

/-! ### Elapsed time (R3) -/

/-- The present elapsed instant. -/
def State.now (s : State) : Instant := ⟨s.clock.m, s.clock.accNs⟩

/-- The span of M in nanoseconds: M counts modulo 2^48 milliseconds (R3). -/
def elapsedSpan : Nat := 2 ^ 48 * 1000000

/-- Elapsed nanoseconds from one instant to another, modulo the span of M. -/
def elapsedNs (a b : Instant) : Nat :=
  ((b.m.toNat * 1000000 + b.ns) + elapsedSpan - (a.m.toNat * 1000000 + a.ns) % elapsedSpan) % elapsedSpan

/-- An elapsed instant some milliseconds later. -/
def Instant.addMs (t : Instant) (ms : Nat) : Instant := { t with m := t.m + BitVec.ofNat 48 ms }

/-- Whether an elapsed count has been reached: it lies less than half the span of M behind (log 13). -/
def reachedM (deadline now : Elapsed) : Bool := (now - deadline).toNat < 2 ^ 47

/-- Whether an elapsed instant has been reached (log 13). -/
def reached (deadline now : Instant) : Bool := elapsedNs deadline now < elapsedSpan / 2

/-- The milliseconds that remain to an elapsed count, 0 when it has been reached. -/
def remaining (deadline now : Elapsed) : Nat := if reachedM deadline now then 0 else (deadline - now).toNat

/-! ### Clock (R15, R16, R21) -/

/-- The holdover age in nanoseconds; 0 in other states than HOLDOVER (R15). -/
def holdoverAge (s : State) : Nat :=
  match s.clock.state, s.clock.lastMarker with
  | .holdover, some t => elapsedNs t s.now
  | _, _ => 0

/-- Whether the holdover age lies at or above a limit in seconds (R15). -/
def ageAtLimit (s : State) (limit : Nat) : Bool :=
  s.clock.state == .holdover && limit * 1000000000 ≤ holdoverAge s

/-- The quality class in force (R16). -/
def qualityClass (s : State) : Fin 4 :=
  match s.clock.state with
  | .locked => 0
  | .holdover => if ageAtLimit s s.cfg.clock.holdLimit then 2 else 1
  | .manual => 2
  | .acquire => 2
  | .unset => 3

/-- A stamp of this instant (R21). -/
def stampNow (s : State) : Stamp := ⟨s.clock.sec, s.clock.ns, qualityClass s⟩

/-! ### Supply and reset line -/

/-- The main domain runs: RUN, and the reset line not asserted (R187, R190). -/
def live (s : State) : Bool := s.supply.state == .run && !s.supply.resetLine

/-- The retained domain runs from the main supply: RUN, the reset line asserted or not (R190). -/
def runs (s : State) : Bool := s.supply.state == .run

/-- The retained domain is kept and its oscillator ticks: RUN, or BACKUP with the flag set (R4, R184; log 9). -/
def ticks (s : State) : Bool :=
  match s.supply.state with
  | .run => true
  | .backup => s.supply.retention
  | .off => false

/-- Whether any group is SETTLING (R118). -/
def anySettling (s : State) : Bool := s.ann.toList.any (fun g => g.state == .settling)

/-- The set of groups in ANNOUNCED (R118), bit g for group g. -/
def announcedSet (s : State) : BitVec 16 :=
  (s.ann.toList.zipIdx).foldl (fun acc p => if p.1.state == .announced then acc ||| (1#16 <<< p.2) else acc) 0#16

/-- The ANNOUNCED group of highest priority (R115, R118). -/
def highestAnnounced (s : State) : Option Nat :=
  ((s.ann.toList.zipIdx).find? (fun p => p.1.state == .announced)).map Prod.snd

/-- Whether a group is masked (R107). -/
def maskedGroup (s : State) (g : Fin 16) : Bool := s.cfg.masks.getLsbD g.val

/-- CHECKPOINT_EXHAUSTED (R193). -/
def exhausted (s : State) : Bool := Config.countLimit ≤ s.store.highestGen

end Sys2Proof.Machine
end

