-- ==== Sys2Proof/Machine/Ops.lean ====
section
/-! DEFINITION. Machine/Ops.lean: the operations several blocks share: counting, ports and egress queues (R53),
notices (R210), checkpoint requests (R192), records of the trip list reached by sequence number (R97). -/

namespace Sys2Proof.Machine

/-! ### Counting, block by block -/

def State.countClock (s : State) (f : ClockCnt → ClockCnt) : State := { s with cnt.clock := f s.cnt.clock }
def State.countCal (s : State) (f : CalCnt → CalCnt) : State := { s with cnt.cal := f s.cnt.cal }
def State.countCls (s : State) (f : ClsCnt → ClsCnt) : State := { s with cnt.cls := f s.cnt.cls }
def State.countRec (s : State) (f : RecCnt → RecCnt) : State := { s with cnt.recorder := f s.cnt.recorder }
def State.countAnn (s : State) (f : AnnCnt → AnnCnt) : State := { s with cnt.ann := f s.cnt.ann }
def State.countTally (s : State) (f : TallyCnt → TallyCnt) : State := { s with cnt.tally := f s.cnt.tally }
def State.countShift (s : State) (f : ShiftCnt → ShiftCnt) : State := { s with cnt.shift := f s.cnt.shift }
def State.countLines (s : State) (f : LineCnt → LineCnt) : State := { s with cnt.lines := f s.cnt.lines }
def State.countStore (s : State) (f : StoreCnt → StoreCnt) : State := { s with cnt.store := f s.cnt.store }
def State.countResp (s : State) (f : RespCnt → RespCnt) : State := { s with cnt.resp := f s.cnt.resp }

/-! ### Ports -/

def State.port (s : State) : Port → PortPath
  | .u => s.portU
  | .s => s.portS

def State.withPort (s : State) (p : Port) (x : PortPath) : State :=
  match p with
  | .u => { s with portU := x }
  | .s => { s with portS := x }

def State.portCnt (s : State) : Port → PortCnt
  | .u => s.cnt.portU
  | .s => s.cnt.portS

def State.countPort (s : State) (p : Port) (f : PortCnt → PortCnt) : State :=
  match p with
  | .u => { s with cnt.portU := f s.cnt.portU }
  | .s => { s with cnt.portS := f s.cnt.portS }

/-- The queue of a class. -/
def PortPath.queue (x : PortPath) : EgressClass → List TxFrame
  | .urgent => x.urgent
  | .notice => x.notice
  | .bulk => x.bulk

def PortPath.withQueue (x : PortPath) (c : EgressClass) (q : List TxFrame) : PortPath :=
  match c with
  | .urgent => { x with urgent := q }
  | .notice => { x with notice := q }
  | .bulk => { x with bulk := q }

/-- The capacity of a class (R53). -/
def egressCap : EgressClass → Nat
  | .urgent => Config.urgentCap
  | .notice => Config.noticeCap
  | .bulk => Config.bulkCap

/-- Whether an egress queue has room (R53). -/
def hasRoom (s : State) (p : Port) (c : EgressClass) : Bool := ((s.port p).queue c).length < egressCap c

/-- One drop, by class (R53). -/
def countDrop (c : EgressClass) (k : PortCnt) : PortCnt :=
  match c with
  | .urgent => { k with dropUrgent := k.dropUrgent + 1 }
  | .notice => { k with dropNotice := k.dropNotice + 1 }
  | .bulk => { k with dropBulk := k.dropBulk + 1 }

/-- Whether a port holds no frame to transmit and none in transmission. -/
def PortPath.quiet (x : PortPath) : Bool := x.tx.isNone && x.urgent.isEmpty && x.notice.isEmpty && x.bulk.isEmpty

/-- Whether a frame placed at a port starts at once: the transmitter is IDLE and no frame waits for the start that
follows a completion (R54, log 5), and no RESTART is about to take effect (R61). -/
def startsAtOnce (s : State) (p : Port) : Bool := (s.port p).quiet && !s.resp.restartDue

/-- Place a frame (R53, R54): at an idle transmitter its transmission starts at once; else it stands at the tail of its
queue, or is dropped and counted when that is full. -/
def place (p : Port) (c : EgressClass) (f : TxFrame) (s : State) : State :=
  if startsAtOnce s p then s.withPort p { s.port p with tx := some ⟨f, s.now⟩ }
  else if hasRoom s p c then
    s.withPort p ((s.port p).withQueue c ((s.port p).queue c ++ [f]))
  else
    s.countPort p (countDrop c)

/-! ### Notices (R210, R211) -/

/-- Build a notice and place it in port S's NOTICE queue. While the part is not in RUN or the reset line holds the
frame path, none is built and no number is used (R20, R210). -/
def notice (code : Nat) (body : List Byte) (s : State) : State :=
  if live s then
    let no := s.resp.noticeNo + 1
    let f := buildFrame s.cfg.net.notice s.cfg.net.station s.cfg.net.mtype (noticePayload no code (stampNow s) body)
    place .s .notice ⟨f, false⟩
      ({ s with resp.noticeNo := no }.countResp (fun c => { c with notices := c.notices + 1 }))
  else s

/-! ### Checkpoint requests (R192) -/

/-- Request a unit's checkpoint: a clear flag is set with the reason and the unit joins the tail of the order; a set
flag stands and the request is counted as coalesced. -/
def requestCheckpoint (u : Fin 6) (why : Reason) (s : State) : State :=
  match s.store.flags[u] with
  | none => { s with store.flags := s.store.flags.set u (some why), store.order := s.store.order ++ [u] }
  | some _ => s.countStore (fun c => { c with coalesced := c.coalesced + 1 })

/-- The six units in unit order. -/
def allUnits : List (Fin 6) := [0, 1, 2, 3, 4, 5]
/-- The eight lines in order. -/
def allLines : List (Fin 8) := [0, 1, 2, 3, 4, 5, 6, 7]
/-- The sixteen groups in order of priority. -/
def allGroups : List (Fin 16) := [0, 1, 2, 3, 4, 5, 6, 7, 8, 9, 10, 11, 12, 13, 14, 15]

/-- Request the checkpoints of units 1..6 in unit order (R192). -/
def requestAllCheckpoints (why : Reason) (s : State) : State :=
  allUnits.foldl (fun s u => requestCheckpoint u why s) s

/-! ### Trip records by sequence number (R97) -/

/-- Change the record with a sequence number, if it is in the list. -/
def updRecord (seq : BitVec 32) (f : TripRecord → TripRecord) (l : List TripRecord) : List TripRecord :=
  l.map (fun r => if r.seq = seq then f r else r)

/-- The record with a sequence number, if it is in the list. -/
def findRecord (seq : BitVec 32) (l : List TripRecord) : Option TripRecord := l.find? (fun r => r.seq = seq)

/-- Readings are compared seconds first, then nanoseconds (R109). -/
def earlierThan (a b : Stamp) : Bool := a.sec.toNat < b.sec.toNat || (a.sec == b.sec && a.ns < b.ns)

/-- A saturating 32-bit count, incremented (00, Conventions). -/
def satInc (n : Nat) : Nat := min (n + 1) Config.countLimit

/-- A number held to a range (00, Conventions, Clamped). -/
def clampNat (lo hi n : Nat) : Nat := max lo (min hi n)

/-- A signed number held to a range. -/
def clampInt (lo hi n : Int) : Int := max lo (min hi n)

end Sys2Proof.Machine
end

