-- ==== Sys2Proof/Machine/Tally.lean ====
section
/-! DEFINITION. Machine/Tally.lean: unit modes, accrual and crediting, starts, trip stops and trip holds, hourly
requests, snapshots (07). -/

namespace Sys2Proof.Machine

/-- The index of a running mode, GEN 0 to SNL 4; none for the non-running modes (R123). -/
def Mode.running : Mode → Option (Fin 5)
  | .gen => some 0
  | .pmp => some 1
  | .cng => some 2
  | .cnp => some 3
  | .snl => some 4
  | .standstill => none
  | .unknown => none

/-- Which run time accrues: the mode's own, or TEST (index 5) while the test flag is set (R127). -/
def UnitRec.accruing (u : UnitRec) : Option (Fin 6) :=
  u.mode.running.map (fun k => if u.test then 5 else k.castSucc)

/-- Elapsed milliseconds since the interval start, modulo 2^48 (R127). -/
def UnitRec.interval (u : UnitRec) (m : Elapsed) : Nat := (m - u.start).toNat

/-- The value of a run time at an elapsed count (R127). -/
def UnitRec.value (u : UnitRec) (m : Elapsed) (k : Fin 6) : Nat :=
  if u.accruing = some k then min (u.run[k] + u.interval m) Config.runLimit else u.run[k]

/-- Crediting (R128): fold the interval into the stored run time, hold it at the limit and set the saturated flag
when it would pass it (R129), and move the interval start. -/
def UnitRec.credit (u : UnitRec) (m : Elapsed) : UnitRec :=
  match u.accruing with
  | none => { u with start := m }
  | some k =>
    if u.run[k] + u.interval m ≤ Config.runLimit then
      { u with start := m, run := u.run.set k (u.run[k] + u.interval m) }
    else
      { u with start := m, run := u.run.set k Config.runLimit, saturated := u.saturated.set k true }

/-- Whether a crediting sets a saturated flag that was clear (R129). -/
def UnitRec.creditSaturates (u : UnitRec) (m : Elapsed) : Bool :=
  match u.accruing with
  | none => false
  | some k => Config.runLimit < u.run[k] + u.interval m && !u.saturated[k]

/-- Store a unit record. -/
def State.withUnit (s : State) (i : Fin 6) (u : UnitRec) : State := { s with tally := s.tally.set i u }

/-- Credit one unit at the present elapsed count (R128), counting a saturation (R129). -/
def creditUnit (i : Fin 6) (s : State) : State :=
  let u := s.tally[i]
  let s' := s.withUnit i (u.credit s.clock.m)
  if u.creditSaturates s.clock.m then s'.countTally (fun c => { c with saturated := c.saturated + 1 }) else s'

/-- Credit all six units (R135). -/
def creditAll (s : State) : State := allUnits.foldl (fun s i => creditUnit i s) s

/-- The 36 run times in milliseconds as they are stored: after `creditAll`, the snapshot of R135. -/
def runSnapshot (s : State) : Vector (Vector Int 6) 6 := s.tally.map (fun u => u.run.map Int.ofNat)

/-- The condition of R134: 3,600,000 ms of elapsed time since the last-checkpoint elapsed. -/
def UnitRec.hourPassed (u : UnitRec) (m : Elapsed) : Bool := 3600000 ≤ (m - u.lastCkpt).toNat

/-- Ask for an HOURLY checkpoint (R134). -/
def askHourly (i : Fin 6) (s : State) : State :=
  requestCheckpoint i .hourly
    ((s.withUnit i { s.tally[i] with hourlyAsked := true }).countTally (fun c => { c with hourly := c.hourly + 1 }))

/-- Whether a unit's hourly request is due: it runs, the hour has passed and it has not asked yet (R134, log 15). -/
def hourlyDue (i : Fin 6) (s : State) : Bool :=
  runs s && s.tally[i].mode.running.isSome && s.tally[i].hourPassed s.clock.m && !s.tally[i].hourlyAsked

/-- The body of a UNIT notice (R141). -/
def unitNoticeBody (i : Fin 6) (before after : UnitRec) (t : Stamp) (credited : Option Nat) (resumed : Bool) :
    List Byte :=
  be 1 (unitNo i) ++ be 1 before.mode.code ++ encSet before.test ++ be 1 after.mode.code ++ encSet after.test
    ++ encStamp t ++ encOpt 6 (credited.map (encMs 4))
    ++ encOpt 4 (after.mode.running.map (fun k => be 4 after.starts[k])) ++ encYes resumed

/-- Whether a change counts a start: into a running mode from another mode, but not from UNKNOWN into the pre-outage
mode (R126). -/
def countsStart (u : UnitRec) (mode : Mode) : Bool :=
  mode.running.isSome && mode != u.mode && !(u.mode == .unknown && u.preOutage == some mode)

/-- The unit record after steps 1 to 5 of a change (R125). -/
def UnitRec.change (u : UnitRec) (m : Elapsed) (mode : Mode) (test : Bool) : UnitRec :=
  let c := u.credit m
  { c with
    mode := mode
    test := test
    start := m
    starts := match mode.running with
      | some k => if countsStart u mode then c.starts.set k (satInc c.starts[k]) else c.starts
      | none => c.starts
    preOutage := if u.mode = .unknown then none else u.preOutage }

/-- A change (R125), and the test of R134 at entry into a running mode from rest, unless the condition has asked already
(log 15): its HOURLY request is made after the MODE_END request of the change, whose reason the flag keeps (log 32). -/
def unitChange (i : Fin 6) (mode : Mode) (test : Bool) (t : Stamp) (s : State) : State :=
  let u := s.tally[i]
  let u' := u.change s.clock.m mode test
  let s := (creditUnit i s).withUnit i u'
  let credited := u.accruing.map (fun k => u'.run[k] - u.run[k])
  let resumed := u.mode == .unknown && u.preOutage == some mode
  let s := notice 0x85 (unitNoticeBody i u u' t credited resumed) s
  let s := requestCheckpoint i .modeEnd s
  let s := s.countTally (fun c => { c with changes := c.changes + 1 })
  if u.mode.running.isNone && mode.running.isSome && u'.hourPassed s.clock.m && !u'.hourlyAsked then askHourly i s else s

/-- A unit report taken by the tally unit (R124). In a non-running mode the test flag is stored clear (R123). -/
def unitReport (i : Fin 6) (mode : Mode) (test : Bool) (t : Stamp) (s : State) : State :=
  let s := s.countTally (fun c => { c with reports := c.reports + 1 })
  let u := s.tally[i]
  let test := test && mode.running.isSome
  if u.hold.isSome then
    if mode.running.isSome then s.countTally (fun c => { c with stale := c.stale + 1 })
    else (s.withUnit i { u with hold := none }).countTally (fun c => { c with same := c.same + 1 })
  else if mode = u.mode ∧ test = u.test then s.countTally (fun c => { c with same := c.same + 1 })
  else unitChange i mode test t s

/-- The unit record after a trip stop of running mode `k` (R131, steps 1 to 4). -/
def UnitRec.tripStop (u : UnitRec) (m : Elapsed) (holdLen : Nat) (k : Fin 5) : UnitRec :=
  let c := u.credit m
  { c with
    stops := c.stops.set k (satInc c.stops[k])
    mode := .standstill
    test := false
    start := m
    hold := if 0 < holdLen then some (m + BitVec.ofNat 48 (holdLen * 1000)) else none }

/-- A trip stop (R131). -/
def tripStop (i : Fin 6) (s : State) : State :=
  let u := s.tally[i]
  match u.mode.running with
  | none => s.countTally (fun c => { c with stopIdle := c.stopIdle + 1 })
  | some k =>
    let s := (creditUnit i s).withUnit i (u.tripStop s.clock.m s.cfg.holdLen[i] k)
    (requestCheckpoint i .modeEnd s).countTally (fun c => { c with stopsTaken := c.stopsTaken + 1 })

/-- A report of kind TRIP that names a unit (R100, R130): the trips count, and the trip stop when the entry asks for
one. -/
def tallyTrip (i : Fin 6) (stop : Bool) (s : State) : State :=
  let s := s.withUnit i { s.tally[i] with trips := satInc s.tally[i].trips }
  if stop then tripStop i s else s

/-- Whether a unit's trip hold deadline has been reached (R132). -/
def tripHoldDue (i : Fin 6) (s : State) : Bool :=
  runs s && match s.tally[i].hold with
    | some d => reachedM d s.clock.m
    | none => false

/-- The end of a trip hold at its deadline (R132). -/
def endTripHold (i : Fin 6) (s : State) : State := s.withUnit i { s.tally[i] with hold := none }

/-- BACKUP entry of one unit (R142). -/
def UnitRec.backupEntry (u : UnitRec) (m : Elapsed) : UnitRec :=
  let c := u.credit m
  { c with
    preOutage := if u.mode = .unknown then u.preOutage else some u.mode
    mode := .unknown
    test := false
    start := m
    hold := none
    hourlyAsked := false }

/-- A unit's snapshot for a checkpoint (R136): credit it and move its last-checkpoint elapsed. -/
def checkpointSnapshot (i : Fin 6) (s : State) : State :=
  let s := creditUnit i s
  s.withUnit i { s.tally[i] with lastCkpt := s.clock.m, hourlyAsked := false }

/-! ### Meanings -/

/-- TRIP_HOLD_EXPIRY (R132). -/
def execTripHoldExpiry (unit : Fin 6) (s : State) : Host.Outcome State Fault Refusal :=
  .next (if tripHoldDue unit s then endTripHold unit s else s)

/-- HOURLY_REQUEST (R134). -/
def execHourlyRequest (unit : Fin 6) (s : State) : Host.Outcome State Fault Refusal :=
  .next (if hourlyDue unit s then askHourly unit s else s)

end Sys2Proof.Machine
end

