-- ==== Sys2Proof/Machine/Shift.lean ====
section
/-! DEFINITION. Machine/Shift.lean: shift records, handover states, timers, completion (08). -/

namespace Sys2Proof.Machine

/-- The handover reports of the classifier (R76). -/
inductive Verb where
  | offer
  | accept
  | decline
  | withdraw
  deriving DecidableEq, Repr

/-- The events a HANDOVER notice names, in the manual's order (R164). -/
inductive HandoverEvent where
  | warning
  | due
  | offered
  | held
  | declined
  | withdrawn
  | lapsed
  | overdue
  | accepted
  | forced
  deriving DecidableEq, Repr

def HandoverEvent.code : HandoverEvent → Nat
  | .warning => 0 | .due => 1 | .offered => 2 | .held => 3 | .declined => 4 | .withdrawn => 5 | .lapsed => 6
  | .overdue => 7 | .accepted => 8 | .forced => 9

/-- The items of a HANDOVER notice up to the report that caused it (R164), and that report or none. An unscheduled
handover's window entry is an optional item that is absent (log 12). -/
def handoverBody (ev : HandoverEvent) (rep : Option HeldAccept) (s : State) : List Byte :=
  be 1 ev.code ++ be 1 s.shift.state.code ++ be 4 s.shift.openRec.number ++ be 1 s.shift.openRec.crew
    ++ encOpt 1 (s.shift.expected.map (be 1)) ++ encOpt 1 (s.shift.window.map (fun e => be 1 e.val))
    ++ encSet s.shift.overdue
    ++ encOpt 12 (rep.map (fun r => be 1 r.crew ++ be 2 r.operator.toNat ++ encStamp r.stamp))

/-- The further items of ACCEPTED and FORCED (R164): the duration in the 6 bytes that its range of R159 needs (R204). -/
def completionBody (c : ClosedShift) (o : OpenShift) : List Byte :=
  be 4 c.base.number ++ encStamp c.closed ++ be 6 c.duration ++ be 4 c.base.trips
    ++ be 2 o.inherited.toNat ++ encOpt 2 (c.outgoing.map (fun x => be 2 x.toNat))
    ++ encOpt 2 (o.incoming.map (fun x => be 2 x.toNat))

/-- Emit a HANDOVER notice (R164). -/
def handoverNotice (ev : HandoverEvent) (rep : Option HeldAccept) (s : State) : State :=
  notice 0x84 (handoverBody ev rep s) s

/-- The present elapsed count plus some minutes. -/
def afterMinutes (s : State) (min : Nat) : Elapsed := s.clock.m + BitVec.ofNat 48 (min * 60000)

/-- A handover warning event (R149). -/
def shiftWarning (e : Fin 8) (crew : Nat) (s : State) : State :=
  if s.shift.state = .onShift then
    handoverNotice .warning none { s with shift.warned := some (e, crew), shift.state := .due }
  else s

/-- The shift unit after a due event that opens a window or makes an unscheduled offer scheduled (R150). -/
def ShiftUnit.opensWindow (u : ShiftUnit) (e : Fin 8) (crew : Nat) (at_ : Elapsed) (st : HandoverState) : ShiftUnit :=
  { u with expected := some crew, window := some e, overdue := false, overdueAt := some at_, state := st }

/-- The shift unit after a due event that replaces the expected crew (R150). -/
def ShiftUnit.replacesCrew (u : ShiftUnit) (e : Fin 8) (crew : Nat) : ShiftUnit :=
  { u with expected := some crew, window := some e }

/-- A handover due event (R150). A handover is scheduled when it has an expected crew. -/
def shiftDue (e : Fin 8) (crew : Nat) (s : State) : State :=
  let at_ := afterMinutes s s.cfg.overdueLen
  match s.shift.state with
  | .onShift => handoverNotice .due none { s with shift := s.shift.opensWindow e crew at_ .window }
  | .due => handoverNotice .due none { s with shift := s.shift.opensWindow e crew at_ .window }
  | .window => handoverNotice .due none { s with shift := s.shift.replacesCrew e crew }
  | .offered =>
    if s.shift.expected.isSome then handoverNotice .due none { s with shift := s.shift.replacesCrew e crew }
    else handoverNotice .due none { s with shift := s.shift.opensWindow e crew at_ .offered }
  | .acceptHeld => s

/-- Return to ON_SHIFT clears every item of the handover in progress (R148). -/
def ShiftUnit.cleared (u : ShiftUnit) : ShiftUnit :=
  { u with
    state := .onShift, expected := none, window := none, overdue := false, warned := none, offer := none,
    accept := none, overdueAt := none, lapseAt := none }

/-- The end of an offer without a handover: WINDOW for a scheduled handover, ON_SHIFT for an unscheduled one
(R154, R156, R166). -/
def ShiftUnit.offerEnds (u : ShiftUnit) : ShiftUnit :=
  if u.expected.isSome then { u with state := .window, offer := none, accept := none, lapseAt := none }
  else u.cleared

/-- An OFFER report (R151). -/
def shiftOffer (r : HeldAccept) (s : State) : State :=
  let taken (u : ShiftUnit) : State :=
    handoverNotice .offered (some r)
      { s with shift := { u with
          offer := some r.operator, lapseAt := some (afterMinutes s s.cfg.lapseLen), state := .offered } }
  let misfit := s.countShift (fun c => { c with crewMisfit := c.crewMisfit + 1 })
  match s.shift.state with
  | .onShift =>
    if r.crew = s.shift.openRec.crew then taken { s.shift with expected := none, window := none } else misfit
  | .due => if r.crew = s.shift.openRec.crew then taken { s.shift with expected := none, window := none } else misfit
  | .window => if r.crew = s.shift.openRec.crew then taken s.shift else misfit
  | .offered => s
  | .acceptHeld => s

/-- Whether an ACCEPT or DECLINE is valid (R152). -/
def incomingValid (u : ShiftUnit) (crew : Nat) : Bool :=
  match u.expected with
  | some c => crew == c
  | none => crew != u.openRec.crew

/-- The closed record (R159). -/
def closeShift (u : ShiftUnit) (closing : Stamp) (m : Elapsed) (handed : BitVec 16)
    (vals : Vector (Vector Int 6) 6) : ClosedShift :=
  { base := u.openRec
    outgoing := u.offer
    handedOver := handed
    closed := closing
    closedElapsed := m
    closeVals := vals
    runSecs := Vector.ofFn (fun i => Vector.ofFn (fun k => ((vals[i][k] - u.openRec.snaps[i][k]).tdiv 1000).toNat))
    duration := (m - u.openRec.openedElapsed).toNat / 1000 }

/-- The new open record (R160). -/
def openShift (u : ShiftUnit) (closing : Stamp) (m : Elapsed) (handed : BitVec 16)
    (vals : Vector (Vector Int 6) 6) (crew : Nat) (incoming : Option (BitVec 16)) : OpenShift :=
  { number := u.openRec.number + 1
    crew := crew
    opened := closing
    openedElapsed := m
    incoming := incoming
    entry := u.window
    overdue := u.overdue
    inherited := handed
    trips := 0
    late := 0
    firstOut := 0
    snaps := vals }

/-- The shift list with a closed record at its tail, the head gone when 16 were held (R146). -/
def pushClosed (l : List ClosedShift) (c : ClosedShift) : List ClosedShift :=
  if l.length < Config.shiftCap then l ++ [c] else l.tail ++ [c]

/-- A completion (R158), at the instant of its taking. -/
def complete (ev : HandoverEvent) (closing : Stamp) (crew : Nat) (incoming : Option (BitVec 16))
    (rep : Option HeldAccept) (s : State) : State :=
  let s := creditAll s
  let vals := runSnapshot s
  let handed := announcedSet s
  let c := closeShift s.shift closing s.clock.m handed vals
  let o := openShift s.shift closing s.clock.m handed vals crew incoming
  let s := { s with shift := { s.shift.cleared with openRec := o, list := pushClosed s.shift.list c } }
  let s := requestAllCheckpoints .shiftClose s
  let s := notice 0x84 (handoverBody ev rep s ++ completionBody c o) s
  s.countShift (fun k => { k with completed := k.completed + 1 })

/-- Complete with an accept (R153, R157). -/
def completeAccept (r : HeldAccept) (s : State) : State :=
  complete .accepted r.stamp r.crew (some r.operator) (some r) s

/-- An ACCEPT report (R153). -/
def shiftAccept (r : HeldAccept) (s : State) : State :=
  match s.shift.state with
  | .offered =>
    if incomingValid s.shift r.crew then
      if anySettling s then
        handoverNotice .held (some r)
          ({ s with shift.accept := some r, shift.lapseAt := none, shift.state := .acceptHeld }.countShift
            (fun c => { c with held := c.held + 1 }))
      else completeAccept r s
    else s.countShift (fun c => { c with crewMisfit := c.crewMisfit + 1 })
  | .acceptHeld => s
  | .onShift => s.countShift (fun c => { c with acceptUnoffered := c.acceptUnoffered + 1 })
  | .due => s.countShift (fun c => { c with acceptUnoffered := c.acceptUnoffered + 1 })
  | .window => s.countShift (fun c => { c with acceptUnoffered := c.acceptUnoffered + 1 })

/-- A DECLINE or WITHDRAW report (R154): `valid` is the crew's test of R152. -/
def endOffer (ev : HandoverEvent) (valid : Bool) (count : ShiftCnt → ShiftCnt) (r : HeldAccept) (s : State) : State :=
  if s.shift.state = .offered ∨ s.shift.state = .acceptHeld then
    if valid then handoverNotice ev (some r) ({ s with shift := s.shift.offerEnds }.countShift count)
    else s.countShift (fun c => { c with crewMisfit := c.crewMisfit + 1 })
  else s

/-- A handover report of the classifier (R76), by its verb. -/
def handoverReport (v : Verb) (r : HeldAccept) (s : State) : State :=
  match v with
  | .offer => shiftOffer r s
  | .accept => shiftAccept r s
  | .decline => endOffer .declined (incomingValid s.shift r.crew) (fun c => { c with declined := c.declined + 1 }) r s
  | .withdraw =>
    endOffer .withdrawn (r.crew == s.shift.openRec.crew) (fun c => { c with withdrawn := c.withdrawn + 1 }) r s

/-- A decision event of the annunciation unit (R147, R157). -/
def shiftDecision (g : Fin 16) (s : State) : State :=
  let s := { s with shift.openRec.firstOut := s.shift.openRec.firstOut ||| (1#16 <<< g.val) }
  match s.shift.state, s.shift.accept with
  | .acceptHeld, some r => if anySettling s then s else completeAccept r s
  | _, _ => s

/-- A TRIP record attributed to a shift (R147): the count of the open record, or of the closed record it names. -/
def countShiftTrip (no : Nat) (late : Bool) (s : State) : State :=
  if no = s.shift.openRec.number then
    { s with shift.openRec.trips := satInc s.shift.openRec.trips }
  else
    { s with shift.list := s.shift.list.map (fun c =>
        if c.base.number = no then
          { c with base.trips := satInc c.base.trips, base.late := if late then satInc c.base.late else c.base.late }
        else c) }

/-- Whether the overdue deadline has been reached (R155). -/
def overdueDue (s : State) : Bool :=
  runs s && match s.shift.overdueAt with
    | some d => reachedM d s.clock.m
    | none => false

/-- The overdue expiry (R155). -/
def overdueExpires (s : State) : State :=
  handoverNotice .overdue none
    ({ s with shift.overdueAt := none, shift.overdue := true }.countShift (fun c => { c with overdue := c.overdue + 1 }))

/-- Whether the lapse deadline has been reached in OFFERED (R156). -/
def lapseDue (s : State) : Bool :=
  runs s && s.shift.state == .offered && match s.shift.lapseAt with
    | some d => reachedM d s.clock.m
    | none => false

/-- The offer lapses (R156). -/
def offerLapses (s : State) : State :=
  handoverNotice .lapsed none
    ({ s with shift := s.shift.offerEnds }.countShift (fun c => { c with lapsed := c.lapsed + 1 }))

/-- BACKUP entry of the shift unit (R166). -/
def ShiftUnit.backupEntry (u : ShiftUnit) : ShiftUnit :=
  let u := if u.state = .offered ∨ u.state = .acceptHeld then u.offerEnds else u
  { u with overdueAt := none, lapseAt := none }

/-- Warm start restarts the timer of a WINDOW whose overdue flag is clear (R167). -/
def restartHandoverTimer (s : State) : State :=
  if s.shift.state = .window ∧ s.shift.overdue = false then
    { s with shift.overdueAt := some (afterMinutes s s.cfg.overdueLen) }
  else s

/-! ### Meanings -/

/-- OVERDUE_EXPIRY (R155). -/
def execOverdueExpiry (s : State) : Host.Outcome State Fault Refusal :=
  .next (if overdueDue s then overdueExpires s else s)

/-- OFFER_LAPSE (R156). -/
def execOfferLapse (s : State) : Host.Outcome State Fault Refusal :=
  .next (if lapseDue s then offerLapses s else s)

end Sys2Proof.Machine
end

