-- ==== Sys2Proof/Machine/Annunciation.lean ====
section
/-! DEFINITION. Machine/Annunciation.lean: groups, candidates, the first-out decision, acknowledgement and reset
(06). -/

namespace Sys2Proof.Machine

/-- Store a group. -/
def State.withGroup (s : State) (g : Fin 16) (x : Group) : State := { s with ann := s.ann.set g x }

/-- The body of a FIRST_OUT notice (R119). -/
def firstOutBody (g : Fin 16) (x : Group) (masked : Bool) (r : TripRecord) : List Byte :=
  be 1 g.val ++ be 4 r.seq.toNat ++ be 1 r.source.val ++ encOpt 1 (r.unit.map (fun u => be 1 (unitNo u)))
    ++ be 2 r.code.toNat ++ encStamp r.stamp ++ be 2 x.trips ++ encSet x.lost ++ encSet masked

/-- The body of a GROUP notice (R119): cause 0 ACK, 1 RESET. -/
def groupBody (g : Fin 16) (x : Group) (cause : Nat) : List Byte :=
  be 1 g.val ++ be 1 x.state.code ++ be 1 cause ++ encOpt 4 (x.ref.map (fun q => be 4 q.toNat)) ++ be 2 x.trips
    ++ encSet x.lost

/-- Steps 1 to 3 of a decision (R111), as BACKUP entry makes them too (R120): the candidate's first-out flag, the
state ANNOUNCED with no deadline, and the count. -/
def decideGroup (g : Fin 16) (s : State) : State :=
  let x := s.ann[g]
  let l := match x.ref with
    | some q => updRecord q (fun r => { r with firstOut := true }) s.recorder.list
    | none => s.recorder.list
  ({ s with recorder.list := l }.withGroup g { x with state := .announced, deadline := none }).countAnn
    (fun c => { c with decided := c.decided + 1 })

/-- The FIRST_OUT notice of a decided group (R119). -/
def firstOutNotice (g : Fin 16) (s : State) : State :=
  match s.ann[g].ref.bind (fun q => findRecord q s.recorder.list) with
  | some r => notice 0x81 (firstOutBody g s.ann[g] (maskedGroup s g) r) s
  | none => s

/-- A decision made in RUN (R111): decided, announced, and delivered to the shift unit. -/
def groupDecides (g : Fin 16) (s : State) : State := shiftDecision g (firstOutNotice g (decideGroup g s))

/-- Whether a group's settle deadline has been reached (R111). -/
def settleDue (g : Fin 16) (s : State) : Bool :=
  runs s && s.ann[g].state == .settling && match s.ann[g].deadline with
    | some d => reached d s.now
    | none => false

/-- Whether a record is earlier than the group's reference (R109, R112). -/
def beforeRef (r : TripRecord) (x : Group) (l : List TripRecord) : Bool :=
  match x.ref.bind (fun q => findRecord q l) with
  | some c => earlierThan r.stamp c.stamp
  | none => false

/-- The record's flags at creation (R107, R108). -/
def setFlags (seq : BitVec 32) (acked earlier : Bool) (s : State) : State :=
  { s with recorder.list := updRecord seq (fun r => { r with acked := acked, earlier := earlier }) s.recorder.list }

/-- A TRIP record taken at an unmasked group (R108). -/
def unmaskedRecord (r : TripRecord) (s : State) : State :=
  let g := r.group
  let x := s.ann[g]
  match x.state with
  | .quiet =>
    let w := s.cfg.windows[g]
    let s := setFlags r.seq false false s
    if w = 0 then groupDecides g (s.withGroup g { x with state := .settling, ref := some r.seq, deadline := none })
    else s.withGroup g { x with state := .settling, ref := some r.seq, deadline := some (s.now.addMs w) }
  | .settling =>
    let s' := setFlags r.seq false false s
    if beforeRef r x s.recorder.list then s'.withGroup g { x with ref := some r.seq } else s'
  | .announced =>
    let e := beforeRef r x s.recorder.list
    (setFlags r.seq false e s).countAnn
      (fun c => { c with afterDecision := c.afterDecision + 1, earlier := if e then c.earlier + 1 else c.earlier })
  | .acked =>
    let e := beforeRef r x s.recorder.list
    (setFlags r.seq true e s).countAnn
      (fun c => { c with afterDecision := c.afterDecision + 1, earlier := if e then c.earlier + 1 else c.earlier })

/-- A TRIP record handed to the annunciation unit (R107): counted in every state, then by mask and state. -/
def groupRecord (r : TripRecord) (s : State) : State :=
  let x := s.ann[r.group]
  let s := s.withGroup r.group { x with trips := min (x.trips + 1) 65535 }
  if maskedGroup s r.group then
    (setFlags r.seq true false s).countAnn (fun c => { c with masked := c.masked + 1 })
  else unmaskedRecord r s

/-- A lost TRIP report sets its group's lost flag (R113). -/
def groupLost (g : Fin 16) (s : State) : State := s.withGroup g { s.ann[g] with lost := true }

/-- Acknowledge an ANNOUNCED group (R114): every record of the group, the state, the count and the GROUP notice. -/
def ackGroup (g : Fin 16) (s : State) : State :=
  let x : Group := { s.ann[g] with state := .acked }
  let l := s.recorder.list.map (fun r => if r.group = g then { r with acked := true } else r)
  let s := ({ s with recorder.list := l }.withGroup g x).countAnn (fun c => { c with acked := c.acked + 1 })
  notice 0x82 (groupBody g x 0) s

/-- Reset an ACKED group (R116). -/
def resetGroup (g : Fin 16) (s : State) : State :=
  let x : Group := { s.ann[g] with state := .quiet, ref := none, trips := 0, lost := false }
  notice 0x82 (groupBody g x 1) ((s.withGroup g x).countAnn (fun c => { c with reset := c.reset + 1 }))

/-- BACKUP entry of the groups (R120): every SETTLING group decides on the candidate it holds, without notice and
without a decision event. -/
def groupsBackup (s : State) : State :=
  allGroups.foldl (fun s g => if s.ann[g].state = .settling then decideGroup g s else s) s

/-! ### Meanings -/

/-- SETTLE_DEADLINE (R111). -/
def execSettleDeadline (group : Fin 16) (s : State) : Host.Outcome State Fault Refusal :=
  .next (if settleDue group s then groupDecides group s else s)

end Sys2Proof.Machine
end

