-- ==== Sys2Proof/Machine/Calendar.lean ====
section
/-! DEFINITION. Machine/Calendar.lean: local time, the seasonal rule, the schedule and its two examiners (02). -/

namespace Sys2Proof.Machine

/-! ### The Gregorian calendar (R27) -/

/-- Divisible by 4 and either not by 100 or by 400 (R27). -/
def isLeap (y : Nat) : Bool := y % 4 == 0 && (y % 100 != 0 || y % 400 == 0)

def yearLen (y : Nat) : Nat := if isLeap y then 366 else 365

/-- The lengths of the months of a year. -/
def monthLens (y : Nat) : List Nat := [31, if isLeap y then 29 else 28, 31, 30, 31, 30, 31, 31, 30, 31, 30, 31]

/-- Count whole years off a day number: the year and the day of the year, from 0. -/
def splitYear : Nat → Nat → Nat → Nat × Nat
  | 0, y, d => (y, d)
  | fuel + 1, y, d => if d < yearLen y then (y, d) else splitYear fuel (y + 1) (d - yearLen y)

/-- The year and day of the year of a local day number; day −1 is 1999-12-31. The range ends in 2136 (R26). -/
def yearOfDay (day : Int) : Nat × Nat :=
  if day < 0 then (1999, (365 + day).toNat) else splitYear 200 2000 day.toNat

/-- Count whole months off a day of the year: the month and the day of the month, from 1. -/
def splitMonth : List Nat → Nat → Nat → Nat × Nat
  | [], m, d => (m, d + 1)
  | n :: ns, m, d => if d < n then (m, d + 1) else splitMonth ns (m + 1) (d - n)

/-- The weekday of a local day number, 1 Monday to 7 Sunday (R27). -/
def weekdayOf (day : Int) : Nat := ((day + 5) % 7).toNat + 1

/-- The local time fields of local seconds (R27). -/
def localFields (x : Int) : LocalTime :=
  let day := x / 86400
  let t := (x % 86400).toNat
  let (y, doy) := yearOfDay day
  let (mo, d) := splitMonth (monthLens y) 1 doy
  { year := y, month := mo, day := d, hour := t / 3600, minute := t % 3600 / 60, second := t % 60,
    weekday := weekdayOf day }

/-- Days from 2000-01-01 to the 1st of January of the year `n` years later. -/
def daysOfYears : Nat → Nat
  | 0 => 0
  | n + 1 => daysOfYears n + yearLen (2000 + n)

/-- The local day number of the 1st of January of a year from 1999 on. -/
def yearStart (y : Nat) : Int := if y < 2000 then -365 else daysOfYears (y - 2000)

/-! ### The seasonal rule (R29, R30) -/

/-- The day number of a transition in a year (R29): weeks 1..4 the first to fourth occurrence of the weekday, week 5
the last. -/
def transitionDay (y : Nat) (t : Transition) : Int :=
  let first := yearStart y + ((monthLens y).take (t.month - 1)).sum
  let last := first + ((monthLens y).getD (t.month - 1) 31 : Nat) - 1
  if t.week = 5 then last - (((weekdayOf last : Int) - t.weekday) % 7)
  else first + (((t.weekday : Int) - weekdayOf first) % 7) + 7 * ((t.week : Int) - 1)

/-- The start instant in station seconds (R29). -/
def startInstant (c : CalCfg) (y : Nat) : Int :=
  86400 * transitionDay y c.start + 3600 * c.start.hour - 900 * c.offset

/-- The end instant in station seconds (R29). -/
def endInstant (c : CalCfg) (y : Nat) : Int :=
  86400 * transitionDay y c.stop + 3600 * c.stop.hour - 900 * c.offset - 900 * c.amount

/-- Whether the seasonal rule is in force at a station second (R30). -/
def inForce (c : CalCfg) (sec : Second) : Bool :=
  let x : Int := sec.toNat
  let y := (yearOfDay ((x + 900 * c.offset) / 86400)).1
  let a := startInstant c y
  let b := endInstant c y
  c.enabled && (if a < b then a ≤ x && x < b else if b < a then a ≤ x || x < b else false)

/-- Local seconds of a station second (R26). -/
def localSeconds (c : CalCfg) (sec : Second) : Int :=
  (sec.toNat : Int) + 900 * c.offset + (if inForce c sec then 900 * c.amount else 0)

/-- The local minute index of a station second (R28). -/
def minuteIndex (c : CalCfg) (sec : Second) : Int := localSeconds c sec / 60

/-- The local time fields of a station second (R26, R27, R43). -/
def localTime (c : CalCfg) (sec : Second) : LocalTime := localFields (localSeconds c sec)

/-! ### The schedule (R33) -/

/-- Whether an entry matches a local minute index (R33). -/
def ScheduleEntry.hits (e : ScheduleEntry) (m : Int) : Bool :=
  let t := (m % 1440).toNat
  e.enabled && e.mask.getLsbD (weekdayOf (m / 1440) - 1) && (e.hour == none || e.hour == some (t / 60))
    && e.minute == t % 60

/-- The matching entry of lowest index at a minute, with its crew (R35, ties). -/
def matchAt (es : Vector ScheduleEntry 8) (m : Int) : Option (Fin 8 × Nat) :=
  (([0, 1, 2, 3, 4, 5, 6, 7] : List (Fin 8)).find? (fun i => es[i].hits m)).map (fun i => (i, es[i].crew))

/-- The latest match among the `k` minutes that end with minute `m` (R35). -/
def latestMatch (es : Vector ScheduleEntry 8) : Nat → Int → Option (Fin 8 × Nat)
  | 0, _ => none
  | k + 1, m => match matchAt es m with
    | some r => some r
    | none => latestMatch es k (m - 1)

/-- One run of an examiner at index `n` (R34, R35, R37): its last minute afterwards, the match to fire, and whether
the run skipped. -/
def examine (es : Vector ScheduleEntry 8) (last : Option Int) (n : Int) : Int × Option (Fin 8 × Nat) × Bool :=
  match last with
  | none => (n, none, false)
  | some l =>
    if n - l ≤ 0 then (l, none, false)
    else if n - l ≤ 1440 then (n, latestMatch es (n - l).toNat n, false)
    else (n, none, true)

/-- The present local minute index. -/
def presentMinute (s : State) : Int := minuteIndex s.cfg.cal s.clock.sec

/-- Run the due examiner (R34, R35). -/
def runDue (s : State) : State :=
  let r := examine s.cfg.cal.entries s.cal.lastDue (presentMinute s)
  let s := { s with cal.lastDue := some r.1 }
  let s := if r.2.2 then s.countCal (fun c => { c with scheduleSkip := c.scheduleSkip + 1 }) else s
  match r.2.1 with
  | some (e, crew) => shiftDue e crew (s.countCal (fun c => { c with dueFired := c.dueFired + 1 }))
  | none => s

/-- Run the warning examiner (R37); with a lead of 0 it does not run and has no last minute. -/
def runWarning (s : State) : State :=
  if s.cfg.cal.lead = 0 then { s with cal.lastWarn := none }
  else
    let r := examine s.cfg.cal.entries s.cal.lastWarn (presentMinute s + s.cfg.cal.lead)
    let s := { s with cal.lastWarn := some r.1 }
    let s := if r.2.2 then s.countCal (fun c => { c with warningSkip := c.warningSkip + 1 }) else s
    match r.2.1 with
    | some (e, crew) => shiftWarning e crew (s.countCal (fun c => { c with warningFired := c.warningFired + 1 }))
    | none => s

/-- Both examiners once, the due examiner first; while the clock is UNSET neither runs (R34, R37). -/
def runExaminers (s : State) : State := if s.clock.state = .unset then s else runWarning (runDue s)

/-- One event handled by the calendar (R31): the flag, the fields, and the examiners when the event triggers them or a
seasonal switch occurred. -/
def calendarEvent (trigger : Bool) (s : State) : State :=
  let f := inForce s.cfg.cal s.clock.sec
  let switch := f != s.cal.flag
  let s := if switch then s.countCal (fun c => { c with seasonSwitch := c.seasonSwitch + 1 }) else s
  let s := { s with cal.flag := f, cal.fields := localTime s.cfg.cal s.clock.sec }
  if trigger || switch then runExaminers s else s

/-- A second rollover: the examiners run at a local minute boundary (R28, R31). `before` is the second before it. -/
def calendarRollover (before : Second) (s : State) : State :=
  calendarEvent (minuteIndex s.cfg.cal before != presentMinute s) s

/-- A clock change (R39): one that leaves the clock UNSET makes both last minutes absent. -/
def calendarClockChange (s : State) : State :=
  let s := if s.clock.state = .unset then { s with cal.lastDue := none, cal.lastWarn := none } else s
  calendarEvent true s

/-- A change of the warning lead (R38). -/
def leadChanged (s : State) : State :=
  if s.cfg.cal.lead = 0 then { s with cal.lastWarn := none }
  else if s.clock.state = .unset then s
  else { s with cal.lastWarn := some (presentMinute s + s.cfg.cal.lead) }

/-- The calendar at a start, once its settings are loaded (R42): flag and fields evaluated, both last minutes absent
and then set by the start examination when the clock is not UNSET. The counters are set to 0 afterwards. -/
def calendarStart (s : State) : State :=
  runExaminers
    { s with cal := { flag := inForce s.cfg.cal s.clock.sec, fields := localTime s.cfg.cal s.clock.sec,
                      lastDue := none, lastWarn := none } }

end Sys2Proof.Machine
end

