-- ==== Sys2Proof/Machine/Lines.lean ====
section
/-! DEFINITION. Machine/Lines.lean: the pulse lines: configuration changes, pulses, slave dials, second marks, hour
meters (09). -/

namespace Sys2Proof.Machine

/-- Steps of a cycle. -/
def Cycle.steps : Cycle → Nat
  | .c720 => 720
  | .c1440 => 1440

/-- The dial cycle of a slave function (R169). -/
def LineFunction.cycle : LineFunction → Option Cycle
  | .slaveMinute => some .c720
  | .slaveHalf => some .c1440
  | .off => none
  | .secondMark => none
  | .hourMeter => none

/-- The other wire. -/
def Wire.flip : Wire → Wire
  | .a => .b
  | .b => .a

/-- The width in force: the stored width held to the range of the function (R169). -/
def LineCfg.widthInForce (c : LineCfg) : Nat :=
  if c.function = .secondMark then clampNat 1 500 c.width else clampNat 20 2000 c.width

/-- The hold span in dial steps: twice the span on a half-minute line (R169). -/
def LineCfg.holdSteps (c : LineCfg) : Nat := if c.function = .slaveHalf then 2 * c.hold else c.hold

/-- The meter selection of a configuration (R169). -/
def LineCfg.selection (c : LineCfg) : Selection := ⟨c.unit, c.modes, c.test⟩

/-- The target of a slave function at a local time (R172). -/
def slaveTarget (f : LineFunction) (t : LocalTime) : Option Nat :=
  match f with
  | .slaveMinute => some ((t.hour % 12) * 60 + t.minute)
  | .slaveHalf => some (2 * ((t.hour % 12) * 60 + t.minute) + (if 30 ≤ t.second then 1 else 0))
  | .off => none
  | .secondMark => none
  | .hourMeter => none

/-- The selected tally in whole seconds: the run times of R127 of the meter modes, and TEST when meter test is yes
(R178). -/
def tallySecs (s : State) (sel : Selection) : Nat :=
  let u := s.tally[sel.unit]
  let v (k : Fin 6) := u.value s.clock.m k
  let modes := ([0, 1, 2, 3, 4] : List (Fin 5)).map (fun k => if sel.modes.getLsbD k.val then v k.castSucc else 0)
  (modes.sum + (if sel.test then v 5 else 0)) / 1000

/-- Store a line. -/
def State.withLine (s : State) (i : Fin 8) (l : Line) : State := { s with lines := s.lines.set i l }

/-- Store a line's configuration in force. -/
def State.withLineCfg (s : State) (i : Fin 8) (c : LineCfg) : State :=
  { s with cfg.lines := s.cfg.lines.set i c }

/-- A realignment (R179): the mark from the selected tally, the basis from the selection in force; no pulse. -/
def realign (i : Fin 8) (s : State) : State :=
  let sel := s.cfg.lines[i].selection
  (s.withLine i { s.lines[i] with mark := tallySecs s sel / 36 * 36, basis := some sel }).countLines
    (fun c => { c with realign := c.realign + 1 })

/-- Bring a line's retained records into agreement with its configuration (R170). -/
def agree (i : Fin 8) (s : State) : State :=
  let c := s.cfg.lines[i]
  let l := s.lines[i]
  match c.function.cycle with
  | some cy => if l.cycle = some cy then s else s.withLine i { l with cycle := none }
  | none => if c.function = .hourMeter ∧ l.basis ≠ some c.selection then realign i s else s

/-- The configuration after a change; a dial setting leaves it. -/
def LineCfg.apply (c : LineCfg) : LineChange → LineCfg
  | .function f => { c with function := f }
  | .width n => { c with width := n }
  | .gap n => { c with gap := n }
  | .hold n => { c with hold := n }
  | .unit u => { c with unit := u }
  | .modes b => { c with modes := b }
  | .test b => { c with test := b }
  | .dial _ _ => c

/-- Renew a line's target: absent while the clock is UNSET (R172). -/
def renewTarget (i : Fin 8) (s : State) : State :=
  let t := if s.clock.state = .unset then none else slaveTarget s.cfg.lines[i].function s.cal.fields
  s.withLine i { s.lines[i] with target := t }

/-- A change or a dial setting takes effect (R170, R176). A new function takes its target from the present local time
(R172, R173, log 20). -/
def applyChange (i : Fin 8) (ch : LineChange) (s : State) : State :=
  match ch with
  | .dial pos pol =>
    s.withLine i { s.lines[i] with cycle := s.cfg.lines[i].function.cycle, pos := pos, pol := pol }
  | .function f =>
    let s' := s.withLineCfg i (s.cfg.lines[i].apply ch)
    agree i (if s.cfg.lines[i].function = f then s' else renewTarget i s')
  | ch => agree i (s.withLineCfg i (s.cfg.lines[i].apply ch))

/-- The beginning of a pulse (R171): drive the wire for the width in force and count it; `l` holds the function's own
effect on the line's records. -/
def beginPulse (i : Fin 8) (w : Wire) (l : Line) (s : State) : State :=
  let e := s.clock.m + BitVec.ofNat 48 s.cfg.lines[i].widthInForce
  (s.withLine i { l with pulse := .drive w e }).countLines
    (fun c => { c with pulses := c.pulses.set i (c.pulses[i] + 1) })

/-- The pulse decision of a line in REST (R171): a slave line by R173, an hour meter by R178. -/
def decideLine (i : Fin 8) (s : State) : State :=
  let c := s.cfg.lines[i]
  let l := s.lines[i]
  if live s && l.pulse == .rest then
    if c.function = .hourMeter then
      if l.mark + 36 ≤ tallySecs s c.selection then beginPulse i .a { l with mark := l.mark + 36 } s else s
    else if c.function.cycle.isSome && s.clock.state != .unset then
      match l.cycle, l.target with
      | some cy, some t =>
        let d := (t + cy.steps - l.pos) % cy.steps
        if 1 ≤ d ∧ d ≤ cy.steps - c.holdSteps then
          beginPulse i l.pol { l with pos := (l.pos + 1) % cy.steps, pol := l.pol.flip } s
        else s
      | _, _ => s
    else s
  else s

/-- Whether a line refuses a change with BUSY: in DRIVE with 8 already pending (R170). -/
def lineBusy (i : Fin 8) (s : State) : Bool :=
  match s.lines[i].pulse with
  | .drive _ _ => Config.pendingCap ≤ s.lines[i].pending.length
  | _ => false

/-- Take a change or dial setting (R170): at once in REST, with a pulse decision, or in GAP; behind the drive in
DRIVE. -/
def takeChange (i : Fin 8) (ch : LineChange) (s : State) : State :=
  match s.lines[i].pulse with
  | .drive _ _ => s.withLine i { s.lines[i] with pending := s.lines[i].pending ++ [ch] }
  | .rest => decideLine i (applyChange i ch s)
  | .gap _ => applyChange i ch s

/-- The configuration a line will have once its pending changes are applied (R176). -/
def projectedCfg (i : Fin 8) (s : State) : LineCfg := s.lines[i].pending.foldl LineCfg.apply s.cfg.lines[i]

/-- A second rollover at one line (R172, R173, R177). -/
def lineRollover (i : Fin 8) (s : State) : State :=
  if s.cfg.lines[i].function = .secondMark then
    if s.clock.state = .unset then s
    else match s.lines[i].pulse with
      | .rest => beginPulse i .a s.lines[i] s
      | .drive _ _ => s.countLines (fun c => { c with markMissed := c.markMissed + 1 })
      | .gap _ => s
  else if s.cfg.lines[i].function.cycle.isSome then decideLine i (renewTarget i s)
  else s

/-- A clock change at one line (R172, R173): only slave lines follow it. -/
def lineClockChange (i : Fin 8) (s : State) : State :=
  if s.cfg.lines[i].function.cycle.isSome then decideLine i (renewTarget i s) else s

/-- A second rollover at the eight lines. -/
def linesRollover (s : State) : State := allLines.foldl (fun s i => lineRollover i s) s

/-- A clock change at the eight lines. -/
def linesClockChange (s : State) : State := allLines.foldl (fun s i => lineClockChange i s) s

/-- Realign the hour meters of a unit after a preset (R138, R179). -/
def realignUnit (u : Fin 6) (s : State) : State :=
  allLines.foldl (fun s i =>
    if s.cfg.lines[i].function = .hourMeter ∧ s.cfg.lines[i].unit = u then realign i s else s) s

/-- Silence one line: a pulse in progress is cut short and counted, pending changes are lost (R181, R182). -/
def cutLine (i : Fin 8) (s : State) : State :=
  let l := s.lines[i]
  let s' := s.withLine i { l with pulse := .rest, pending := [], target := none }
  match l.pulse with
  | .drive _ _ => s'.countLines (fun c => { c with pulseCut := c.pulseCut + 1 })
  | _ => s'

/-- Silence all lines. -/
def cutLines (s : State) : State := allLines.foldl (fun s i => cutLine i s) s

/-- Start a line after a warm start, the reset line or RESTART (R181, R182): slave and hour-meter lines enter GAP,
the others REST; the target is renewed (R172). -/
def startLine (i : Fin 8) (s : State) : State :=
  let c := s.cfg.lines[i]
  let s := if c.function.cycle.isSome then renewTarget i s else s
  let gap := s.clock.m + BitVec.ofNat 48 c.gap
  let p := if c.function.cycle.isSome ∨ c.function = .hourMeter then Pulse.gap gap else Pulse.rest
  s.withLine i { s.lines[i] with pulse := p }

/-- Start all lines. -/
def startLines (s : State) : State := allLines.foldl (fun s i => startLine i s) s

/-- The image load at the lines: a configuration change of every line at once (R170). -/
def agreeAll (s : State) : State := allLines.foldl (fun s i => agree i s) s

/-- Whether a line's drive has ended (R171). -/
def driveEndDue (i : Fin 8) (s : State) : Bool :=
  live s && match s.lines[i].pulse with
    | .drive _ e => reachedM e s.clock.m
    | _ => false

/-- The end of a drive (R171): the wire returns to the normal level, the pending changes are applied in order of
taking (R170), and the function then in force decides between GAP and REST. -/
def endDrive (i : Fin 8) (s : State) : State :=
  let l := s.lines[i]
  let s := s.withLine i { l with pulse := .rest, pending := [] }
  let s := l.pending.foldl (fun s ch => applyChange i ch s) s
  let c := s.cfg.lines[i]
  if c.function.cycle.isSome ∨ c.function = .hourMeter then
    s.withLine i { s.lines[i] with pulse := .gap (s.clock.m + BitVec.ofNat 48 c.gap) }
  else s

/-- Whether a line's gap has ended (R171). -/
def gapEndDue (i : Fin 8) (s : State) : Bool :=
  live s && match s.lines[i].pulse with
    | .gap e => reachedM e s.clock.m
    | _ => false

/-- The end of a gap (R171): REST, and the pulse decision. -/
def endGap (i : Fin 8) (s : State) : State := decideLine i (s.withLine i { s.lines[i] with pulse := .rest })

/-- Whether an hour-meter line in REST has met its mark plus 36 (R178). -/
def meterDue (i : Fin 8) (s : State) : Bool :=
  live s && s.lines[i].pulse == .rest && s.cfg.lines[i].function == .hourMeter
    && s.lines[i].mark + 36 ≤ tallySecs s s.cfg.lines[i].selection

/-! ### Meanings -/

/-- DRIVE_END (R171). -/
def execDriveEnd (line : Fin 8) (s : State) : Host.Outcome State Fault Refusal :=
  .next (if driveEndDue line s then endDrive line s else s)

/-- GAP_END (R171). -/
def execGapEnd (line : Fin 8) (s : State) : Host.Outcome State Fault Refusal :=
  .next (if gapEndDue line s then endGap line s else s)

/-- METER_THRESHOLD (R178). -/
def execMeterThreshold (line : Fin 8) (s : State) : Host.Outcome State Fault Refusal :=
  .next (if meterDue line s then decideLine line s else s)

end Sys2Proof.Machine
end

