-- ==== Sys2Proof/Machine/Clock.lean ====
section
/-! DEFINITION. Machine/Clock.lean: ticks, markers, labels, the servo, silence and holdover, clock changes (01). -/

namespace Sys2Proof.Machine

/-! ### Ticks (R1 to R4) -/

/-- `a / b` rounded to the nearest integer, halves away from zero (00, Rounding). -/
def roundDiv (a : Int) (b : Nat) : Int := a.sign * ((2 * a.natAbs + b) / (2 * b) : Nat)

/-- A: the trim multiplied by 67,108,864 / 390,625 and rounded (R1). -/
def trimIncrement (t : Int) : Int := roundDiv (t * 67108864) 390625

/-- What one tick adds, in units of 2^-32 ns: D of R1 in RUN, the backup increment of R4 in BACKUP. -/
def tickIncrement (s : State) : Nat :=
  if runs s then (40 * 2 ^ 32 + trimIncrement s.clock.trim).toNat else 30517 * 2 ^ 32 + 2483027968

/-- Nanoseconds and fraction advanced as one quantity (R1). -/
def advance (ns : Nat) (frac : BitVec 32) (inc : Nat) : Nat × BitVec 32 :=
  let t := ns * 2 ^ 32 + frac.toNat + inc
  (t / 2 ^ 32, BitVec.ofNat 32 t)

/-- The elapsed accumulator and M after a tick (R3). -/
def Clock.tickElapsed (c : Clock) (inc : Nat) : Clock :=
  let a := advance c.accNs c.accFrac inc
  if 1000000 ≤ a.1 then { c with accNs := a.1 - 1000000, accFrac := a.2, m := c.m + 1 }
  else { c with accNs := a.1, accFrac := a.2 }

/-- Whether an increment brings N to 10^9 or above (R2). -/
def Clock.carries (c : Clock) (inc : Nat) : Bool := 1000000000 ≤ (advance c.ns c.frac inc).1

/-- Whether the next tick brings N to 10^9 or above (R2). -/
def tickCarries (s : State) : Bool := s.clock.carries (tickIncrement s)

/-- The reading after a tick: a carry drops N by 10^9 and increments S, modulo 2^32 (R2). -/
def Clock.tickReading (c : Clock) (inc : Nat) : Clock :=
  let r := advance c.ns c.frac inc
  if 1000000000 ≤ r.1 then { c with ns := r.1 - 1000000000, frac := r.2, sec := c.sec + 1 }
  else { c with ns := r.1, frac := r.2 }

/-! ### Clock changes and notices (R19, R20) -/

/-- The kinds of clock change as a set, STEP first (R19, R204). -/
abbrev Kinds := BitVec 4
def kindStep : Kinds := 1
def kindRelabel : Kinds := 2
def kindManualSet : Kinds := 4
def kindRangeWrap : Kinds := 8

/-- The body of a CLOCK notice (R20). The kinds are one byte, 0 when there is none (log 12); the holdover age is carried
in whole milliseconds, the rest of a millisecond cut off (log 28). -/
def clockNoticeBody (k : Kinds) (s : State) : List Byte :=
  be 4 s.clock.sec.toNat ++ be 4 s.clock.ns ++ be 1 s.clock.state.code ++ be 1 (qualityClass s).val ++ be 1 k.toNat
    ++ beInt 4 s.clock.trim ++ beInt 4 s.clock.integral ++ be 6 (holdoverAge s / 1000000)

/-- A clock change delivered to the calendar unit and then to the pulse lines (R19, R39, R172); both are main domain
and do not run while it is held or lost (R41, R181, R190). -/
def deliverChange (s : State) : State := if live s then linesClockChange (calendarClockChange s) else s

/-- The end of a clock event's handling: deliver the change, if any, then emit at most one CLOCK notice when the
state or the class changed or a change was made (R7, R19, R20). -/
def finishClock (before : State) (k : Kinds) (s : State) : State :=
  let changed := s.clock.state != before.clock.state || qualityClass s != qualityClass before || k != 0
  let s := if k = 0 then s else deliverChange s
  if changed then notice 0x83 (clockNoticeBody k s) s else s

/-! ### Rollover and range wrap (R2) -/

/-- Whether a second rollover is due: the oscillator ticks, the tick carries, and S does not wrap (R2). -/
def rolloverDue (s : State) : Bool := ticks s && tickCarries s && s.clock.sec != 0xFFFFFFFF#32

/-- Whether the next tick is a range wrap (R2). -/
def wrapDue (s : State) : Bool := ticks s && tickCarries s && s.clock.sec == 0xFFFFFFFF#32

/-- The part of a tick that moves elapsed time on (R3). -/
def elapsedTick (s : State) : State := { s with clock := s.clock.tickElapsed (tickIncrement s) }

/-- The part of a tick that moves the reading on, by the tick's increment (R1, R2). -/
def readingTick (inc : Nat) (s : State) : State := { s with clock := s.clock.tickReading inc }

/-- A tick of elapsed time and of the reading. -/
def tickState (s : State) : State := readingTick (tickIncrement s) (elapsedTick s)

/-- The reading enters a new second (R2): delivered to the calendar unit, then to the pulse lines. In BACKUP, and while
the reset line holds the main domain, neither acts on it (R41, R181, R190). -/
def takeSecond (inc : Nat) (s : State) : State :=
  let s' := readingTick inc s
  if live s' then linesRollover (calendarRollover s.clock.sec s') else s'

/-- A tick that is a second rollover (R2). -/
def secondRollover (s : State) : State := takeSecond (tickIncrement s) (elapsedTick s)

/-- The clock state a range wrap leaves (R2). -/
def Clock.wrapped (c : Clock) : Clock := { c with state := .unset, good := 0, pendingDiff := none }

/-- The reading wraps (R2). -/
def takeWrap (inc : Nat) (s : State) : State :=
  let s' := readingTick inc s
  finishClock s kindRangeWrap
    ({ s' with clock := s'.clock.wrapped }.countClock (fun c => { c with rangeWrap := c.rangeWrap + 1 }))

/-- A tick that is a range wrap (R2). -/
def rangeWrap (s : State) : State := takeWrap (tickIncrement s) (elapsedTick s)

/-- The reading takes its part of a tick, whichever of the three it is (R1, R2). -/
def takeReading (inc : Nat) (s : State) : State :=
  if s.clock.carries inc then
    if s.clock.sec = 0xFFFFFFFF#32 then takeWrap inc s else takeSecond inc s
  else readingTick inc s

/-! ### Markers (R5 to R13) -/

/-- Whether a MARKER edge is accepted (R5): an interval within the window, or no marker accepted in the 2 s before
(more than 2 s, R24). -/
def acceptsEdge (s : State) : Bool :=
  match s.clock.lastMarker with
  | none => true
  | some t =>
    let d := elapsedNs t s.now
    (1000000000 ≤ d + s.cfg.clock.window && d ≤ 1000000000 + s.cfg.clock.window) || 2000000000 < d

/-- The phase error e (R7). -/
def phaseError (ns : Nat) : Int := if ns < 500000000 then ns else (ns : Int) - 1000000000

/-- The nearest second n, modulo 2^32 (R7). -/
def nearestSecond (sec : Second) (ns : Nat) : Second := if ns < 500000000 then sec else sec + 1

/-- A label applied (R8): S from the label, N and F zero, ACQUIRE. -/
def Clock.applyLabel (c : Clock) (v : Second) : Clock :=
  { c with sec := v, ns := 0, frac := 0, state := .acquire, good := 0, pendingDiff := none }

/-- A relabel (R9): S moved by the label difference, ACQUIRE. -/
def Clock.relabel (c : Clock) (diff : BitVec 32) : Clock :=
  { c with sec := c.sec + diff, state := .acquire, good := 0, pendingDiff := none }

/-- What the label stage leaves (R8 to R10): the state, the kinds of change, and whether the phase stage is
skipped. -/
structure LabelStage where
  state : State
  kinds : Kinds
  skip  : Bool

/-- A relabel, counted (R9). -/
def relabelState (diff : BitVec 32) (s : State) : LabelStage :=
  ⟨{ s with clock := s.clock.relabel diff }.countClock (fun c => { c with relabel := c.relabel + 1 }), kindRelabel,
    false⟩

/-- The label stage (R8, R9, R10), with the held label taken out of its slot (R6, Consumption). -/
def labelStage (s : State) : LabelStage :=
  let held := s.clock.held
  let s := { s with clock.held := none }
  match held with
  | some (.manual v) =>
    ⟨{ s with clock := s.clock.applyLabel v }.countClock (fun c => { c with manualSet := c.manualSet + 1 }),
      kindManualSet, true⟩
  | some (.beacon v _) =>
    let diff := v - nearestSecond s.clock.sec s.clock.ns
    match s.clock.state with
    | .unset =>
      ⟨{ s with clock := s.clock.applyLabel v }.countClock (fun c => { c with relabel := c.relabel + 1 }),
        kindRelabel, true⟩
    | .manual =>
      ⟨{ s with clock := s.clock.applyLabel v }.countClock (fun c => { c with relabel := c.relabel + 1 }),
        kindRelabel, true⟩
    | .acquire => if diff = 0 then ⟨s, 0, false⟩ else relabelState diff s
    | .holdover => if diff = 0 then ⟨s, 0, false⟩ else relabelState diff s
    | .locked =>
      if diff = 0 then ⟨{ s with clock.pendingDiff := none }, 0, false⟩
      else if s.clock.pendingDiff = some diff.toInt then relabelState diff s
      else
        ⟨{ s with clock.pendingDiff := some diff.toInt }.countClock
          (fun c => { c with labelMismatch := c.labelMismatch + 1 }), 0, false⟩
  | none =>
    match s.clock.state with
    | .unset => ⟨{ s with clock.ns := 0, clock.frac := 0 }, 0, true⟩
    | .locked => ⟨{ s with clock.pendingDiff := none }, 0, false⟩
    | .manual => ⟨s, 0, false⟩
    | .acquire => ⟨s, 0, false⟩
    | .holdover => ⟨s, 0, false⟩

/-- The step (R11): the reading lands on the nearest second; a carry out of the range is a range wrap. -/
def stepClock (s : State) : State × Kinds :=
  if 500000000 ≤ s.clock.ns ∧ s.clock.sec = 0xFFFFFFFF#32 then
    ({ s with clock := { s.clock.wrapped with sec := 0, ns := 0, frac := 0 } }.countClock
      (fun c => { c with rangeWrap := c.rangeWrap + 1 }), kindRangeWrap)
  else
    ({ s with clock := { s.clock with
        sec := nearestSecond s.clock.sec s.clock.ns, ns := 0, frac := 0, state := .acquire, good := 0,
        pendingDiff := none } }.countClock (fun c => { c with step := c.step + 1 }), kindStep)

/-- The slew (R12): I, then T from the value of I just computed, each clamped. -/
def slewClock (e : Int) (s : State) : State :=
  let i := clampInt (-150000) 150000 (s.clock.integral - roundDiv e (2 ^ s.cfg.clock.ki))
  let t := clampInt (-150000) 150000 (i - roundDiv e (2 ^ s.cfg.clock.kp))
  { s with clock.integral := i, clock.trim := t }

/-- The window stage after a slew (R13). -/
def windowStage (e : Int) (s : State) : State :=
  let wl := s.cfg.clock.lock
  let inside := e.natAbs ≤ wl
  match s.clock.state with
  | .acquire =>
    if inside then
      if s.clock.good + 1 = 4 then { s with clock.good := 4, clock.state := .locked }
      else { s with clock.good := s.clock.good + 1 }
    else { s with clock.good := 0 }
  | .locked =>
    if e.natAbs ≤ 4 * wl then s
    else { s with clock.state := .acquire, clock.good := 0, clock.pendingDiff := none }
  | .holdover => { s with clock.state := .acquire, clock.good := if inside then 1 else 0 }
  | .manual => { s with clock.state := .acquire, clock.good := if inside then 1 else 0 }
  | .unset => s

/-- The handling of an accepted marker (R7): label, phase and window stage in turn, then one clock change and one
notice at most. -/
def acceptedMarker (s : State) : State :=
  let e := phaseError s.clock.ns
  let s1 := { s with clock.lastMarker := some s.now }.countClock
    (fun c => { c with markerAccepted := c.markerAccepted + 1 })
  let r := labelStage s1
  if r.skip then finishClock s r.kinds r.state
  else if s.cfg.clock.step < e.natAbs then
    let p := stepClock r.state
    finishClock s (r.kinds ||| p.2) p.1
  else finishClock s r.kinds (windowStage e (slewClock e r.state))

/-- A rising edge on MARKER (R5): observed in RUN while the reset line is not asserted; accepted or a glitch. -/
def markerEdge (s : State) : State :=
  if live s then
    if acceptsEdge s then acceptedMarker s
    else s.countClock (fun c => { c with markerGlitch := c.markerGlitch + 1 })
  else s

/-! ### Beacon labels, silence, holdover (R6, R14, R15) -/

/-- A beacon label delivered by the classifier (R6, R75). -/
def beaconLabel (v : Second) (s : State) : State := { s with clock.held := some (.beacon v s.now) }

/-- Whether the held BEACON label is stale: held for 1.5 s (R6). -/
def beaconStaleDue (s : State) : Bool :=
  live s && match s.clock.held with
    | some (.beacon _ t) => 1500000000 ≤ elapsedNs t s.now
    | some (.manual _) => false
    | none => false

/-- Whether the silence expires: 1.5 s since the last accepted marker, in ACQUIRE or LOCKED (R14). -/
def silenceDue (s : State) : Bool :=
  runs s && (s.clock.state == .acquire || s.clock.state == .locked) && match s.clock.lastMarker with
    | some t => 1500000000 ≤ elapsedNs t s.now
    | none => false

/-- Entry to HOLDOVER with T := I (R14, R23). -/
def Clock.enterHoldover (c : Clock) : Clock :=
  { c with state := .holdover, trim := c.integral, good := 0, pendingDiff := none, limitTaken := false }

/-- The silence expires (R14). -/
def silenceExpires (s : State) : State :=
  finishClock s 0
    ({ s with clock := s.clock.enterHoldover }.countClock (fun c => { c with holdoverEntry := c.holdoverEntry + 1 }))

/-- Whether the holdover age reaches the limit, and the event has not been taken in this holdover (R15, log 14). -/
def holdoverLimitDue (s : State) : Bool :=
  ticks s && !s.clock.limitTaken && ageAtLimit s s.cfg.clock.holdLimit

/-- The holdover limit (R15): counted, and a CLOCK notice for the class that is now 2. -/
def holdoverLimitReached (s : State) : State :=
  let s := { s with clock.limitTaken := true }.countClock (fun c => { c with holdoverLimit := c.holdoverLimit + 1 })
  notice 0x83 (clockNoticeBody 0 s) s

/-- A new holdover limit by SET_PARAM (R15): the class follows at once; a change of class emits a CLOCK notice. Where
the age has reached the old limit and HOLDOVER_LIMIT is still to be taken, it is taken first, with its count and its
notice (log 14). -/
def limitChanged (before : State) (s : State) : State :=
  let s := if holdoverLimitDue before then { holdoverLimitReached before with cfg := s.cfg } else s
  finishClock before 0 { s with clock.limitTaken := ageAtLimit s s.cfg.clock.holdLimit }

/-- SET_TIME in mode NOW (R17). -/
def setTimeNow (sec : Second) (ns : Nat) (s : State) : State :=
  finishClock s kindManualSet
    ({ s with clock := { s.clock with
        sec := sec, ns := ns, frac := 0, state := .manual, trim := s.clock.integral, good := 0, pendingDiff := none,
        held := none } }.countClock (fun c => { c with manualSet := c.manualSet + 1 }))

/-! ### Supply states and reset (R23, R24) -/

/-- BACKUP entry of the clock (R23). -/
def Clock.backupEntry (c : Clock) : Clock :=
  let c := { c with held := none, good := 0, pendingDiff := none }
  match c.state with
  | .acquire => c.enterHoldover
  | .locked => c.enterHoldover
  | .unset => c
  | .manual => c
  | .holdover => c

/-- A warm start of the clock (R24): T := I, the main-domain items absent. -/
def Clock.warmStart (c : Clock) : Clock :=
  { c with trim := c.integral, good := 0, pendingDiff := none, held := none }

/-- The reset line and RESTART (R24): good count, pending difference and held label; the rest stands. -/
def Clock.hold (c : Clock) : Clock := { c with good := 0, pendingDiff := none, held := none }

/-! ### Meanings -/

/-- SECOND_ROLLOVER (R2): the tick that brings N to 10^9. Where the next tick does not, nothing occurs (log 2). -/
def execSecondRollover (s : State) : Host.Outcome State Fault Refusal :=
  .next (if rolloverDue s then secondRollover s else s)

/-- RANGE_WRAP (R2). -/
def execRangeWrap (s : State) : Host.Outcome State Fault Refusal :=
  .next (if wrapDue s then rangeWrap s else s)

/-- MARKER_EDGE (R5). -/
def execMarkerEdge (s : State) : Host.Outcome State Fault Refusal := .next (markerEdge s)

/-- BEACON_STALE (R6). -/
def execBeaconStale (s : State) : Host.Outcome State Fault Refusal :=
  .next (if beaconStaleDue s then
      { s with clock.held := none }.countClock (fun c => { c with beaconStale := c.beaconStale + 1 })
    else s)

/-- SILENCE_EXPIRY (R14). -/
def execSilenceExpiry (s : State) : Host.Outcome State Fault Refusal :=
  .next (if silenceDue s then silenceExpires s else s)

/-- HOLDOVER_LIMIT (R15). -/
def execHoldoverLimit (s : State) : Host.Outcome State Fault Refusal :=
  .next (if holdoverLimitDue s then holdoverLimitReached s else s)

end Sys2Proof.Machine
end

