-- ==== Sys2Proof/Machine/Operands.lean ====
section
/-! DEFINITION. Machine/Operands.lean: reading the items of a request body in the encodings of R204. -/

namespace Sys2Proof.Machine

/-- Read a number of `w` bytes; none when the payload is too short (R201, Form). -/
def rd (w : Nat) (l : List Byte) : Option (Nat × List Byte) :=
  if w ≤ l.length then some (ofBe (l.take w), l.drop w) else none

/-- Read an optional item of `w` bytes: the presence byte and the number (R204). -/
def rdOpt (w : Nat) (l : List Byte) : Option ((Nat × Nat) × List Byte) := do
  let (p, l) ← rd 1 l
  let (v, l) ← rd w l
  some ((p, v), l)

/-- A presence byte holds 0 or 1; another value is outside its set (R201, R204). The field of an absent item is not judged
(log 34). -/
def present (p v : Nat) : Option (Option Nat) :=
  if p = 0 then some none else if p = 1 then some (some v) else none

/-- A two-valued item whose first listed value, numbered 0, is the true one: set, yes, enabled, masked (R204). -/
def firstIsTrue : Nat → Option Bool
  | 0 => some true
  | 1 => some false
  | _ => none

/-- A two-valued item numbered 0 for the false value: disabled 0 and enabled 1, not set 0 and set 1, no 0 and yes 1
(R207, R208). -/
def secondIsTrue : Nat → Option Bool
  | 0 => some false
  | 1 => some true
  | _ => none

end Sys2Proof.Machine
end

