-- ==== Sys2Proof/Machine/Responder.lean ====
section
/-! DEFINITION. Machine/Responder.lean: how the responder takes, judges and answers requests (R200 to R203). -/

namespace Sys2Proof.Machine

/-- The status values (R201). -/
inductive Status where
  | ok
  | clamped
  | badRequest
  | badValue
  | notCommissioning
  | busy
  | notAnnounced
  | nothingToAck
  | notAcked
  | settling
  | commitInvalid
  | dialNotSlave
  deriving DecidableEq, Repr

/-- Status codes (R201). -/
def Status.code : Status → Nat
  | .ok => 0x00 | .clamped => 0x01 | .badRequest => 0x10 | .badValue => 0x11 | .notCommissioning => 0x12
  | .busy => 0x13 | .notAnnounced => 0x20 | .nothingToAck => 0x21 | .notAcked => 0x22 | .settling => 0x23
  | .commitInvalid => 0x24 | .dialNotSlave => 0x25

/-- Whether a status is a refusal: any but OK and CLAMPED (R201). -/
def Status.refuses : Status → Bool
  | .ok => false
  | .clamped => false
  | _ => true

/-- OK, or CLAMPED when a numeric value was clamped (R201, step 6). -/
def okOr (clamped : Bool) : Status := if clamped then .clamped else .ok

/-- An answer: status and data (R200). -/
structure Answer where
  status : Status
  data   : List Byte
  deriving DecidableEq, Repr

/-- A refusal carries no data (R200). -/
def Answer.refusal (st : Status) : Answer := ⟨st, []⟩

/-- What carrying out a request gives: the state and the answer; none when the reply comes later (R200). -/
abbrev Served := State × Option Answer

/-- A request that is refused and changes nothing. -/
def refuse (st : Status) (s : State) : Served := (s, some (Answer.refusal st))

/-- Operator and engineer requests (00, Authority; R202). -/
inductive Authority where
  | operator
  | engineer
  deriving DecidableEq, Repr

/-- The bytes of a reply (R55, R211): to the requester, with the station address and management type in force when it
is built (R209). -/
def replyFrame (r : Request) (a : Answer) (s : State) : List Byte :=
  buildFrame r.head.src s.cfg.net.station s.cfg.net.mtype
    (be 2 r.head.tag.toNat ++ [r.code] ++ be 1 a.status.code ++ a.data)

/-- Place a reply in the NOTICE queue of the request's port (R55); a refusal is counted (R201). -/
def reply (r : Request) (a : Answer) (s : State) : State :=
  let s := if a.status.refuses then s.countResp (fun c => { c with refused := c.refused + 1 }) else s
  place r.head.port .notice ⟨replyFrame r a s, false⟩ s

/-- Take one request (R201, R203): counted, judged by authority, carried out and answered. -/
def conduct (auth : Authority) (op : Request → State → Served) (r : Request) (s : State) : State :=
  let s := s.countResp (fun c => { c with taken := c.taken + 1 })
  if auth = .engineer ∧ s.supply.commission = false then
    reply r (Answer.refusal .notCommissioning) (s.countResp (fun c => { c with authority := c.authority + 1 }))
  else
    let (s, a) := op r s
    match a with
    | some a => reply r a s
    | none => s

/-- The request codes, 01h..1Ah (R202). -/
def knownCode (c : Byte) : Bool := 1 ≤ c.toNat && c.toNat ≤ 0x1A

/-- Answer the unknown codes at the head of the requests handed, in order: BAD_REQUEST (R201, step 1). -/
def answerUnknown : List Request → State → State
  | [], s => { s with resp.handed := [] }
  | r :: rs, s =>
    if knownCode r.code then { s with resp.handed := r :: rs }
    else
      answerUnknown rs
        (reply r (Answer.refusal .badRequest) (s.countResp (fun c => { c with taken := c.taken + 1 })))

/-- While READY, requests of unknown code at the head of those handed are answered. -/
def settleHanded (s : State) : State := if s.resp.state = .ready then answerUnknown s.resp.handed s else s

/-- A request handed by the classifier (R50): it joins the requests waiting. -/
def hand (r : Request) (s : State) : State := settleHanded { s with resp.handed := s.resp.handed ++ [r] }

/-- A request command: the responder takes the request, when READY and its turn has come; else it waits behind those
already handed (R203). In BACKUP or OFF, and while the reset line is asserted, no request reaches it. -/
def command (code : Byte) (auth : Authority) (op : Request → State → Served) (h : ReqHead) (body : List Byte)
    (s : State) : State :=
  let r : Request := ⟨h, code, body⟩
  if live s then
    match s.resp.state, s.resp.handed with
    | .ready, [] => conduct auth op r s
    | .ready, x :: xs =>
      if x = r then settleHanded (conduct auth op r { s with resp.handed := xs })
      else { s with resp.handed := s.resp.handed ++ [r] }
    | _, _ => { s with resp.handed := s.resp.handed ++ [r] }
  else s

/-- The command that takes a waiting request, by its code (R202). -/
def Request.toInstr (r : Request) : Option Instr :=
  match r.code.toNat with
  | 0x01 => some (.readClock r.head r.body)
  | 0x02 => some (.readStatus r.head r.body)
  | 0x03 => some (.readCounters r.head r.body)
  | 0x04 => some (.readFault r.head r.body)
  | 0x05 => some (.clearFault r.head r.body)
  | 0x06 => some (.readTrips r.head r.body)
  | 0x07 => some (.ackGroup r.head r.body)
  | 0x08 => some (.ackNext r.head r.body)
  | 0x09 => some (.resetGroup r.head r.body)
  | 0x0A => some (.pollGroups r.head r.body)
  | 0x0B => some (.readTally r.head r.body)
  | 0x0C => some (.readShift r.head r.body)
  | 0x0D => some (.readShifts r.head r.body)
  | 0x0E => some (.readLines r.head r.body)
  | 0x0F => some (.setDial r.head r.body)
  | 0x10 => some (.loadEntry r.head r.body)
  | 0x11 => some (.readEntry r.head r.body)
  | 0x12 => some (.commitBank r.head r.body)
  | 0x13 => some (.setParam r.head r.body)
  | 0x14 => some (.setMask r.head r.body)
  | 0x15 => some (.setTime r.head r.body)
  | 0x16 => some (.presetTally r.head r.body)
  | 0x17 => some (.forceHandover r.head r.body)
  | 0x18 => some (.checkpointNow r.head r.body)
  | 0x19 => some (.storeConfig r.head r.body)
  | 0x1A => some (.restart r.head r.body)
  | _ => none

end Sys2Proof.Machine
end

