-- ==== Sys2Proof/Machine/Entries.lean ====
section
/-! DEFINITION. Machine/Entries.lean: the layout of a match entry (R80), its checks at a commit (R82), and the
requests that load, read and commit the banks (R80 to R83). -/

namespace Sys2Proof.Machine

/-! ### Writing an entry (R80, R204) -/

def PortFilter.code : PortFilter → Nat
  | .u => 0 | .s => 1 | .both => 2

def StampFormat.code : StampFormat → Nat
  | .binary => 0 | .bcd => 1

def EntryOrigin.code : EntryOrigin → Nat
  | .arrival => 0 | .embedded => 1

def Relation.code : Relation → Nat
  | .eq => 0 | .ne => 1

/-- PASS 0 to HANDOVER 6 (R204, in the order of the entry table). -/
def Action.code : Action → Nat
  | .pass => 0 | .drop => 1 | .stamp _ => 2 | .trip _ => 3 | .unit _ => 4 | .beacon _ => 5 | .handover _ _ _ => 6

def StampWrite.encode (w : StampWrite) : List Byte := be 2 w.offset.toNat ++ be 1 w.format.code

def ByteTest.encode (t : ByteTest) : List Byte :=
  be 2 t.offset.toNat ++ be 1 t.width.toNat ++ be 4 t.mask.toNat ++ be 4 t.value.toNat ++ be 1 t.relation.code

/-- The parameters of R72 in their order; the embedded pick is an optional item (log 12). -/
def TripParams.encode (p : TripParams) : List Byte :=
  be 1 p.source.toNat ++ be 1 p.group.toNat ++ encOpt 1 (p.unit.map (fun u => be 1 u.toNat))
    ++ be 2 p.stateOffset.toNat ++ be 2 p.codeOffset.toNat ++ be 1 p.codeWidth.toNat ++ be 2 p.clearCode.toNat
    ++ be 1 p.origin.code ++ encOpt 2 (p.embedded.map (fun o => be 2 o.toNat)) ++ be 2 p.compensation.toNat
    ++ encSet p.unitStop ++ encOpt 3 (p.write.map StampWrite.encode)

/-- The parameters of R73 in their order. -/
def UnitParams.encode (p : UnitParams) : List Byte :=
  be 1 p.unit.toNat ++ be 2 p.modeOffset.toNat ++ be 1 p.codeMap.length
    ++ p.codeMap.flatMap (fun q => be 1 q.1.toNat ++ be 1 q.2.code)
    ++ encOpt 3 (p.test.map (fun t => be 2 t.1.toNat ++ be 1 t.2.toNat))

def Action.encode : Action → List Byte
  | .pass => []
  | .drop => []
  | .stamp w => w.encode
  | .trip p => p.encode
  | .unit p => p.encode
  | .beacon o => be 2 o.toNat
  | .handover v c o => be 2 v.toNat ++ be 2 c.toNat ++ be 2 o.toNat

/-- An entry in the order of the entry table, `hit` standing in the hit count's place: 4 bytes in READ_ENTRY, nothing
in LOAD_ENTRY and the image (R80, R196). -/
def Entry.encode (hit : List Byte) (e : Entry) : List Byte :=
  encSet e.enabled ++ be 1 e.filter.code ++ encOpt 6 (e.source.map (fun a => be 6 a.toNat))
    ++ encOpt 2 (e.type.map (fun t => be 2 t.toNat)) ++ be 1 e.tests.length ++ e.tests.flatMap ByteTest.encode
    ++ be 1 e.action.code ++ encSet e.forward ++ encSet e.urgent ++ encOpt 1 (e.chain.map (fun c => be 1 c.toNat))
    ++ hit ++ e.action.encode

/-! ### Reading an entry (R80, R201) -/


def PortFilter.ofCode : Nat → Option PortFilter
  | 0 => some .u | 1 => some .s | 2 => some .both | _ => none

def StampFormat.ofCode : Nat → Option StampFormat
  | 0 => some .binary | 1 => some .bcd | _ => none

def EntryOrigin.ofCode : Nat → Option EntryOrigin
  | 0 => some .arrival | 1 => some .embedded | _ => none

def Relation.ofCode : Nat → Option Relation
  | 0 => some .eq | 1 => some .ne | _ => none

/-- Read `n` items one after another. -/
def rdList {α : Type} (f : List Byte → Option (α × List Byte)) : Nat → List Byte → Option (List α × List Byte)
  | 0, l => some ([], l)
  | n + 1, l => do
    let (a, l) ← f l
    let (as, l) ← rdList f n l
    some (a :: as, l)

/-- All values, when each lies in its set. -/
def allSome {α : Type} : List (Option α) → Option (List α)
  | [] => some []
  | none :: _ => none
  | some a :: as => (allSome as).map (fun t => a :: t)

/-- A reading in two layers: none is a fault of form; an inner none is a value outside its set. -/
def rdTest (l : List Byte) : Option (Option ByteTest × List Byte) := do
  let (o, l) ← rd 2 l
  let (w, l) ← rd 1 l
  let (m, l) ← rd 4 l
  let (v, l) ← rd 4 l
  let (r, l) ← rd 1 l
  some ((Relation.ofCode r).map (fun r => ⟨BitVec.ofNat 16 o, BitVec.ofNat 8 w, BitVec.ofNat 32 m, BitVec.ofNat 32 v, r⟩), l)

def rdWrite (l : List Byte) : Option (Option StampWrite × List Byte) := do
  let (o, l) ← rd 2 l
  let (f, l) ← rd 1 l
  some ((StampFormat.ofCode f).map (fun f => ⟨BitVec.ofNat 16 o, f⟩), l)

/-- An optional stamp write: presence byte, then the write. The format is judged when the write is present. -/
def rdOptWrite (l : List Byte) : Option (Option (Option StampWrite) × List Byte) := do
  let (p, l) ← rd 1 l
  let (w, l) ← rdWrite l
  some (if p = 0 then some none else if p = 1 then w.map some else none, l)

/-- Whether the embedded pick is present exactly for origin EMBEDDED (R72, log 12). -/
def embeddedFits (o : EntryOrigin) (e : Option Nat) : Bool :=
  match o with
  | .arrival => e.isNone
  | .embedded => e.isSome

def rdTrip (l : List Byte) : Option (Option TripParams × List Byte) := do
  let (src, l) ← rd 1 l
  let (grp, l) ← rd 1 l
  let (u, l) ← rdOpt 1 l
  let (so, l) ← rd 2 l
  let (co, l) ← rd 2 l
  let (cw, l) ← rd 1 l
  let (cc, l) ← rd 2 l
  let (og, l) ← rd 1 l
  let (em, l) ← rdOpt 2 l
  let (cp, l) ← rd 2 l
  let (us, l) ← rd 1 l
  let (w, l) ← rdOptWrite l
  let v : Option TripParams := do
    let u ← present u.1 u.2
    let og ← EntryOrigin.ofCode og
    let em ← present em.1 em.2
    let us ← firstIsTrue us
    let w ← w
    if embeddedFits og em then
      some { source := BitVec.ofNat 8 src, group := BitVec.ofNat 8 grp, unit := u.map (BitVec.ofNat 8)
             stateOffset := BitVec.ofNat 16 so, codeOffset := BitVec.ofNat 16 co, codeWidth := BitVec.ofNat 8 cw
             clearCode := BitVec.ofNat 16 cc, origin := og, embedded := em.map (BitVec.ofNat 16)
             compensation := BitVec.ofNat 16 cp, unitStop := us, write := w }
    else none
  some (v, l)

def rdPair (l : List Byte) : Option (Option (Byte × Mode) × List Byte) := do
  let (r, l) ← rd 1 l
  let (m, l) ← rd 1 l
  some ((Mode.ofMapCode m).map (fun m => (BitVec.ofNat 8 r, m)), l)

/-- More than 8 code-map pairs is a fault of form (R80). -/
def rdUnit (l : List Byte) : Option (Option UnitParams × List Byte) := do
  let (u, l) ← rd 1 l
  let (mo, l) ← rd 2 l
  let (n, l) ← rd 1 l
  if 8 < n then none
  else
    let (ps, l) ← rdList rdPair n l
    let (p, l) ← rd 1 l
    let (o, l) ← rd 2 l
    let (k, l) ← rd 1 l
    let v : Option UnitParams := do
      let ps ← allSome ps
      let t ← if p = 0 then some none else if p = 1 then some (some (BitVec.ofNat 16 o, BitVec.ofNat 8 k)) else none
      some { unit := BitVec.ofNat 8 u, modeOffset := BitVec.ofNat 16 mo, codeMap := ps, test := t }
    some (v, l)

def rdHandover (l : List Byte) : Option (Option Action × List Byte) := do
  let (v, l) ← rd 2 l
  let (c, l) ← rd 2 l
  let (o, l) ← rd 2 l
  some (some (.handover (BitVec.ofNat 16 v) (BitVec.ofNat 16 c) (BitVec.ofNat 16 o)), l)

/-- The parameters of an action kind; a kind outside 0..6 is caught before (R201, Form). -/
def rdAction (kind : Nat) (l : List Byte) : Option (Option Action × List Byte) :=
  match kind with
  | 0 => some (some .pass, l)
  | 1 => some (some .drop, l)
  | 2 => (rdWrite l).map (fun r => (r.1.map Action.stamp, r.2))
  | 3 => (rdTrip l).map (fun r => (r.1.map Action.trip, r.2))
  | 4 => (rdUnit l).map (fun r => (r.1.map Action.unit, r.2))
  | 5 => (rd 2 l).map (fun r => (some (Action.beacon (BitVec.ofNat 16 r.1)), r.2))
  | _ => rdHandover l

/-- The fields of an entry before its action kind: enabled, filter, source, type, tests. -/
structure EntryHead where
  enabled : Nat
  filter  : Nat
  source  : Nat × Nat
  type    : Nat × Nat
  tests   : List (Option ByteTest)

/-- More than 4 byte tests is a fault of form (R80). -/
def rdEntryHead (l : List Byte) : Option (EntryHead × List Byte) := do
  let (en, l) ← rd 1 l
  let (fi, l) ← rd 1 l
  let (sa, l) ← rdOpt 6 l
  let (ty, l) ← rdOpt 2 l
  let (n, l) ← rd 1 l
  if 4 < n then none
  else
    let (ts, l) ← rdList rdTest n l
    some (⟨en, fi, sa, ty, ts⟩, l)

/-- The settings after the action kind: forward, class, chain; then the parameters. -/
def rdEntryTail (kind : Nat) (l : List Byte) : Option ((Nat × Nat × (Nat × Nat) × Option Action) × List Byte) := do
  let (fw, l) ← rd 1 l
  let (cl, l) ← rd 1 l
  let (ch, l) ← rdOpt 1 l
  let (ac, l) ← rdAction kind l
  some ((fw, cl, ch, ac), l)

/-- An entry's values, when each lies in its set. -/
def entryOf (h : EntryHead) (t : Nat × Nat × (Nat × Nat) × Option Action) : Option Entry := do
  let en ← firstIsTrue h.enabled
  let fi ← PortFilter.ofCode h.filter
  let sa ← present h.source.1 h.source.2
  let ty ← present h.type.1 h.type.2
  let ts ← allSome h.tests
  let fw ← firstIsTrue t.1
  let ur ← firstIsTrue t.2.1
  let ch ← present t.2.2.1.1 t.2.2.1.2
  let ac ← t.2.2.2
  some { enabled := en, filter := fi, source := sa.map (BitVec.ofNat 48), type := ty.map (BitVec.ofNat 16)
         tests := ts, action := ac, forward := fw, urgent := ur, chain := ch.map (BitVec.ofNat 8) }

/-- Read a whole entry: form first, but the action kind as soon as it is read, then the values (R80, R201). The kind stands
after the byte tests, so their count is judged before it (log 33). -/
def readEntryBytes (l : List Byte) : Except Status (Entry × List Byte) :=
  match rdEntryHead l with
  | none => .error .badRequest
  | some (h, l) =>
    match rd 1 l with
    | none => .error .badRequest
    | some (k, l) =>
      if 6 < k then .error .badValue
      else
        match rdEntryTail k l with
        | none => .error .badRequest
        | some (t, l) =>
          match entryOf h t with
          | none => .error .badValue
          | some e => .ok (e, l)

/-! ### Validation at a commit (R82) -/

/-- The longest payload the part takes (R44). -/
def maxPayload : Nat := 1504

def chainValid (i : Nat) (e : Entry) : Bool :=
  match e.chain with
  | none => true
  | some c => i < c.toNat && c.toNat ≤ 127

def testValid (t : ByteTest) : Bool :=
  t.offset.toNat ≤ 511 &&
    (if t.width = 1 then t.mask.toNat < 0x100 && t.value.toNat < 0x100
     else if t.width = 2 then t.mask.toNat < 0x10000 && t.value.toNat < 0x10000
     else t.width = 4)

def writeValid (w : StampWrite) : Bool :=
  w.offset.toNat + (match w.format with | .binary => 9 | .bcd => 11) ≤ maxPayload

def pickValid (o : BitVec 16) (w : Nat) : Bool := o.toNat + w ≤ maxPayload

def unitNoValid (u : Byte) : Bool := 1 ≤ u.toNat && u.toNat ≤ 6

def tripValid (p : TripParams) : Bool :=
  p.source.toNat ≤ 63 && p.group.toNat ≤ 15
    && (match p.unit with | none => true | some u => unitNoValid u)
    && (p.codeWidth == 1 || p.codeWidth == 2) && (p.codeWidth == 2 || p.clearCode.toNat < 0x100)
    && pickValid p.stateOffset 2 && pickValid p.codeOffset p.codeWidth.toNat
    && (match p.embedded with | none => true | some o => pickValid o 8)
    && (match p.write with | none => true | some w => writeValid w)

def unitValid (p : UnitParams) : Bool :=
  unitNoValid p.unit && !p.codeMap.isEmpty && pickValid p.modeOffset 1
    && (match p.test with | none => true | some t => pickValid t.1 1)

def actionValid : Action → Bool
  | .pass => true
  | .drop => true
  | .stamp w => writeValid w
  | .trip p => tripValid p
  | .unit p => unitValid p
  | .beacon o => pickValid o 4
  | .handover v c o => pickValid v 1 && pickValid c 1 && pickValid o 2

/-- The checks of R82 on the entry at an index. -/
def entryValid (i : Nat) (e : Entry) : Bool := chainValid i e && e.tests.all testValid && actionValid e.action

/-- The index of the first entry that fails a check (R82). -/
def firstInvalid (b : Vector Entry 128) : Option Nat :=
  ((b.toList.zipIdx).find? (fun p => !entryValid p.2 p.1)).map Prod.snd

/-! ### The requests (R80 to R83) -/

/-- LOAD_ENTRY (R80): body index and entry. -/
def opLoadEntry (r : Request) (s : State) : Served :=
  match rd 1 r.body with
  | none => refuse .badRequest s
  | some (i, l) =>
    match readEntryBytes l with
    | .error e => refuse e s
    | .ok (e, _) =>
      if h : i < 128 then ({ s with cls.standby := s.cls.standby.set i e h }, some ⟨.ok, []⟩)
      else refuse .badValue s

/-- READ_ENTRY (R81): body bank (ACTIVE 0, STANDBY 1) and index. -/
def opReadEntry (r : Request) (s : State) : Served :=
  match rd 2 r.body with
  | none => refuse .badRequest s
  | some (n, _) =>
    let i := n % 256
    if h : i < 128 then
      if n / 256 = 0 then (s, some ⟨.ok, s.cls.active[i].encode (be 4 s.cls.hits[i].toNat)⟩)
      else if n / 256 = 1 then (s, some ⟨.ok, s.cls.standby[i].encode (be 4 0)⟩)
      else refuse .badValue s
    else refuse .badValue s

/-- The standby bank becomes active, hit counts 0, and is refilled with a copy (R83). -/
def activateBank (s : State) : State :=
  { s with cls.active := s.cls.standby, cls.hits := Vector.replicate 128 0 }

/-- COMMIT_BANK (R82, R83): refused with the index of the first bad entry; made at once when no frame is in
classification; else it waits, and the responder with it. -/
def opCommitBank (r : Request) (s : State) : Served :=
  match firstInvalid s.cls.standby with
  | some i => (s, some ⟨.commitInvalid, be 1 i⟩)
  | none =>
    if s.cls.work.isNone then (activateBank s, some ⟨.ok, []⟩)
    else ({ s with resp.state := .commitWait, resp.inProgress := some r }, none)

/-- Whether a waiting commit is made: no frame is in classification (R83). -/
def commitDue (s : State) : Bool := live s && s.resp.state == .commitWait && s.cls.work.isNone

/-- The waiting commit is made: the bank, then the reply, and the responder is READY (R83, R203). -/
def commitActivated (s : State) : State :=
  match s.resp.inProgress with
  | none => s
  | some r =>
    let s := activateBank { s with resp.state := .ready, resp.inProgress := none }
    settleHanded (reply r ⟨.ok, []⟩ s)

/-- READ_FAULT (R79): the record's fields as one optional item; a presence byte of 0 is the indication that the record is
empty (log 12). -/
def opReadFault (_r : Request) (s : State) : Served :=
  (s, some ⟨.ok, encOpt 18 (s.cls.fault.map (fun f =>
    be 1 f.kind.code ++ be 1 f.index ++ encPort f.port ++ be 6 f.source.toNat ++ encStamp f.stamp))⟩)

/-- CLEAR_FAULT (R79). -/
def opClearFault (_r : Request) (s : State) : Served := ({ s with cls.fault := none }, some ⟨.ok, []⟩)

/-! ### Meanings -/

/-- LOAD_ENTRY (R80). -/
def execLoadEntry (head : ReqHead) (body : List Byte) (s : State) : Host.Outcome State Fault Refusal :=
  .next (command 0x10 .engineer opLoadEntry head body s)

/-- READ_ENTRY (R81). -/
def execReadEntry (head : ReqHead) (body : List Byte) (s : State) : Host.Outcome State Fault Refusal :=
  .next (command 0x11 .engineer opReadEntry head body s)

/-- COMMIT_BANK (R82, R83). -/
def execCommitBank (head : ReqHead) (body : List Byte) (s : State) : Host.Outcome State Fault Refusal :=
  .next (command 0x12 .engineer opCommitBank head body s)

/-- COMMIT_BANK_ACTIVATED (R83). -/
def execCommitBankActivated (s : State) : Host.Outcome State Fault Refusal :=
  .next (if commitDue s then commitActivated s else s)

/-- READ_FAULT (R79). -/
def execReadFault (head : ReqHead) (body : List Byte) (s : State) : Host.Outcome State Fault Refusal :=
  .next (command 0x04 .operator opReadFault head body s)

/-- CLEAR_FAULT (R79). -/
def execClearFault (head : ReqHead) (body : List Byte) (s : State) : Host.Outcome State Fault Refusal :=
  .next (command 0x05 .operator opClearFault head body s)

end Sys2Proof.Machine
end

