-- ==== Sys2Proof/Machine/Params.lean ====
section
/-! DEFINITION. Machine/Params.lean: the catalogue of settings (R208) and the configuration image (R196, R198). -/

namespace Sys2Proof.Machine

/-- The settings of the catalogue (R208). `entry e f` is field f of schedule entry e, f = 5 the whole entry; `line n f`
is field f of line n. -/
inductive Param where
  | clock (k : Fin 6)
  | offset
  | enabled
  | amount
  | start (k : Fin 4)
  | stop (k : Fin 4)
  | lead
  | entry (e : Fin 8) (f : Fin 6)
  | plausibility
  | window (g : Fin 16)
  | holdLen (u : Fin 6)
  | totalSel (u : Fin 6)
  | overdueLen
  | lapseLen
  | initialCrew
  | line (n : Fin 8) (f : Fin 7)
  | station
  | mtype
  | mgmtU
  | noticeDst
  deriving DecidableEq, Repr

/-- The setting an identifier names (R208). -/
def Param.ofId (id : Nat) : Option Param :=
  if h : 0x0101 ≤ id ∧ id ≤ 0x0106 then some (.clock ⟨id - 0x0101, by omega⟩)
  else if id = 0x0201 then some .offset
  else if id = 0x0202 then some .enabled
  else if id = 0x0203 then some .amount
  else if h : 0x0204 ≤ id ∧ id ≤ 0x0207 then some (.start ⟨id - 0x0204, by omega⟩)
  else if h : 0x0208 ≤ id ∧ id ≤ 0x020B then some (.stop ⟨id - 0x0208, by omega⟩)
  else if id = 0x020C then some .lead
  else if h : 0x0300 ≤ id ∧ id < 0x0340 ∧ (id - 0x0300) % 8 ≤ 5 then
    some (.entry ⟨(id - 0x0300) / 8, by omega⟩ ⟨(id - 0x0300) % 8, by omega⟩)
  else if id = 0x0401 then some .plausibility
  else if h : 0x0500 ≤ id ∧ id ≤ 0x050F then some (.window ⟨id - 0x0500, by omega⟩)
  else if h : 0x0601 ≤ id ∧ id ≤ 0x0606 then some (.holdLen ⟨id - 0x0601, by omega⟩)
  else if h : 0x0611 ≤ id ∧ id ≤ 0x0616 then some (.totalSel ⟨id - 0x0611, by omega⟩)
  else if id = 0x0701 then some .overdueLen
  else if id = 0x0702 then some .lapseLen
  else if id = 0x0703 then some .initialCrew
  else if h : 0x0800 ≤ id ∧ id < 0x0880 ∧ (id - 0x0800) % 16 ≤ 6 then
    some (.line ⟨(id - 0x0800) / 16, by omega⟩ ⟨(id - 0x0800) % 16, by omega⟩)
  else if id = 0x0901 then some .station
  else if id = 0x0902 then some .mtype
  else if id = 0x0903 then some .mgmtU
  else if id = 0x0904 then some .noticeDst
  else none

/-- The width of a setting's value in bytes (R208). -/
def Param.width : Param → Nat
  | .clock k => if k = 3 ∨ k = 4 then 1 else 4
  | .offset => 1
  | .enabled => 1
  | .amount => 1
  | .start _ => 1
  | .stop _ => 1
  | .lead => 1
  | .entry _ f => if f = 5 then 5 else 1
  | .plausibility => 2
  | .window _ => 1
  | .holdLen _ => 1
  | .totalSel _ => 1
  | .overdueLen => 1
  | .lapseLen => 1
  | .initialCrew => 1
  | .line _ f => if f = 1 ∨ f = 2 ∨ f = 3 then 2 else 1
  | .station => 6
  | .mtype => 2
  | .mgmtU => 1
  | .noticeDst => 6

/-! ### The value in force -/

def Transition.field (t : Transition) : Fin 4 → Nat
  | 0 => t.month | 1 => t.week | 2 => t.weekday | 3 => t.hour

/-- The bytes of a schedule entry's field; FFh is ANY (R208). -/
def ScheduleEntry.field (e : ScheduleEntry) : Fin 6 → List Byte
  | 0 => encYes e.enabled
  | 1 => be 1 e.mask.toNat
  | 2 => be 1 (e.hour.getD 255)
  | 3 => be 1 e.minute
  | 4 => be 1 e.crew
  | 5 => encYes e.enabled ++ be 1 e.mask.toNat ++ be 1 (e.hour.getD 255) ++ be 1 e.minute ++ be 1 e.crew

/-- The bytes of a line's setting (R169, R208); the unit by its number, meter test yes 0 (R204). The width is the
configuration's own: the stored one in the image (R196) and in READ_LINES (R180, log 31), the one in force in the reply of
SET_PARAM (R208). -/
def LineCfg.field (c : LineCfg) : Fin 7 → List Byte
  | 0 => be 1 c.function.code
  | 1 => be 2 c.width
  | 2 => be 2 c.gap
  | 3 => be 2 c.hold
  | 4 => be 1 (unitNo c.unit)
  | 5 => be 1 c.modes.toNat
  | 6 => encSet c.test

def ClockCfg.field (c : ClockCfg) : Fin 6 → Nat
  | 0 => c.window | 1 => c.step | 2 => c.lock | 3 => c.ki | 4 => c.kp | 5 => c.holdLimit

/-- The bytes of a setting's value, in its width (R208). -/
def Param.get (p : Param) (c : Settings) : List Byte :=
  match p with
  | .clock k => be (Param.clock k).width (c.clock.field k)
  | .offset => beInt 1 c.cal.offset
  | .enabled => encYes c.cal.enabled
  | .amount => be 1 c.cal.amount
  | .start k => be 1 (c.cal.start.field k)
  | .stop k => be 1 (c.cal.stop.field k)
  | .lead => be 1 c.cal.lead
  | .entry e f => c.cal.entries[e].field f
  | .plausibility => be 2 c.plausibility
  | .window g => be 1 c.windows[g]
  | .holdLen u => be 1 c.holdLen[u]
  | .totalSel u => be 1 c.totalSel[u].toNat
  | .overdueLen => be 1 c.overdueLen
  | .lapseLen => be 1 c.lapseLen
  | .initialCrew => be 1 c.initialCrew
  | .line n f => c.lines[n].field f
  | .station => be 6 c.net.station.toNat
  | .mtype => be 2 c.net.mtype.toNat
  | .mgmtU => encYes c.net.mgmtU
  | .noticeDst => be 6 c.net.notice.toNat

/-! ### Setting a value: none is a value outside its set; the flag says that a number was clamped -/

/-- A number held to its range, with whether that changed it. -/
def held (lo hi n : Nat) : Nat × Bool := (clampNat lo hi n, n < lo || hi < n)

/-- The range of a clock setting (R22). -/
def clockRange : Fin 6 → Nat × Nat
  | 0 => (100000, 10000000) | 1 => (1000, 500000000) | 2 => (100, 100000) | 3 => (0, 12) | 4 => (0, 10)
  | 5 => (60, 86400)

def ClockCfg.withField (c : ClockCfg) (k : Fin 6) (v : Nat) : ClockCfg :=
  match k with
  | 0 => { c with window := v }
  | 1 => { c with step := v }
  | 2 => { c with lock := v }
  | 3 => { c with ki := v }
  | 4 => { c with kp := v }
  | 5 => { c with holdLimit := v }

/-- The range of a transition field (R29, R32). -/
def transitionRange : Fin 4 → Nat × Nat
  | 0 => (1, 12) | 1 => (1, 5) | 2 => (1, 7) | 3 => (0, 23)

def Transition.withField (t : Transition) (k : Fin 4) (v : Nat) : Transition :=
  match k with
  | 0 => { t with month := v }
  | 1 => { t with week := v }
  | 2 => { t with weekday := v }
  | 3 => { t with hour := v }

/-- The hour code: FFh is ANY, 24..FEh is refused (R208). -/
def hourOfCode (n : Nat) : Option (Option Nat) :=
  if n ≤ 23 then some (some n) else if n = 255 then some none else none

/-- A weekday mask: a set bit beyond Sunday is outside the set (R204). -/
def maskOfCode (n : Nat) : Option (BitVec 7) := if n < 128 then some (BitVec.ofNat 7 n) else none

/-- A whole schedule entry, judged field by field (R33, R208). -/
def wholeEntry (b : List Byte) : Option (ScheduleEntry × Bool) := do
  let n (i : Nat) : Nat := ofBe ((b.drop i).take 1)
  let en ← secondIsTrue (n 0)
  let mk ← maskOfCode (n 1)
  let hr ← hourOfCode (n 2)
  let mi := held 0 59 (n 3)
  let cr := held 1 15 (n 4)
  some ({ enabled := en, mask := mk, hour := hr, minute := mi.1, crew := cr.1 }, mi.2 || cr.2)

/-- One field of a schedule entry, or the whole entry (R33). -/
def ScheduleEntry.withField (e : ScheduleEntry) (f : Fin 6) (b : List Byte) : Option (ScheduleEntry × Bool) :=
  match f with
  | 0 => (secondIsTrue (ofBe b)).map (fun v => ({ e with enabled := v }, false))
  | 1 => (maskOfCode (ofBe b)).map (fun v => ({ e with mask := v }, false))
  | 2 => (hourOfCode (ofBe b)).map (fun v => ({ e with hour := v }, false))
  | 3 => some ({ e with minute := (held 0 59 (ofBe b)).1 }, (held 0 59 (ofBe b)).2)
  | 4 => some ({ e with crew := (held 1 15 (ofBe b)).1 }, (held 1 15 (ofBe b)).2)
  | 5 => wholeEntry b

/-- The change a line setting asks for (R169). -/
def lineChangeOf (f : Fin 7) (n : Nat) : Option (LineChange × Bool) :=
  match f with
  | 0 => (LineFunction.ofCode n).map (fun v => (.function v, false))
  | 1 => some (.width (held 1 2000 n).1, (held 1 2000 n).2)
  | 2 => some (.gap (held 200 5000 n).1, (held 200 5000 n).2)
  | 3 => some (.hold (held 0 360 n).1, (held 0 360 n).2)
  | 4 => (unitOfNo n).map (fun u => (.unit u, false))
  | 5 => if n < 32 then some (.modes (BitVec.ofNat 5 n), false) else none
  | 6 => (firstIsTrue n).map (fun v => (.test v, false))

/-- Set one setting to the value its bytes carry (R201, R208). -/
def Param.set (p : Param) (b : List Byte) (c : Settings) : Option (Settings × Bool) :=
  let n := ofBe b
  match p with
  | .clock k =>
    let v := held (clockRange k).1 (clockRange k).2 n
    some ({ c with clock := c.clock.withField k v.1 }, v.2)
  | .offset =>
    let i := ofByteSigned (BitVec.ofNat 8 n)
    some ({ c with cal.offset := clampInt (-56) 56 i }, i < -56 || 56 < i)
  | .enabled => (secondIsTrue n).map (fun v => ({ c with cal.enabled := v }, false))
  | .amount => some ({ c with cal.amount := (held 0 8 n).1 }, (held 0 8 n).2)
  | .start k =>
    let v := held (transitionRange k).1 (transitionRange k).2 n
    some ({ c with cal.start := c.cal.start.withField k v.1 }, v.2)
  | .stop k =>
    let v := held (transitionRange k).1 (transitionRange k).2 n
    some ({ c with cal.stop := c.cal.stop.withField k v.1 }, v.2)
  | .lead => some ({ c with cal.lead := (held 0 120 n).1 }, (held 0 120 n).2)
  | .entry e f =>
    (c.cal.entries[e].withField f b).map (fun v => ({ c with cal.entries := c.cal.entries.set e v.1 }, v.2))
  | .plausibility => some ({ c with plausibility := (held 1 60000 n).1 }, (held 1 60000 n).2)
  | .window g => some ({ c with windows := c.windows.set g (held 0 100 n).1 }, (held 0 100 n).2)
  | .holdLen u => some ({ c with holdLen := c.holdLen.set u (held 0 60 n).1 }, (held 0 60 n).2)
  | .totalSel u => if n < 64 then some ({ c with totalSel := c.totalSel.set u (BitVec.ofNat 6 n) }, false) else none
  | .overdueLen => some ({ c with overdueLen := (held 1 240 n).1 }, (held 1 240 n).2)
  | .lapseLen => some ({ c with lapseLen := (held 1 60 n).1 }, (held 1 60 n).2)
  | .initialCrew => some ({ c with initialCrew := (held 1 15 n).1 }, (held 1 15 n).2)
  | .line i f => (lineChangeOf f n).map (fun v => ({ c with lines := c.lines.set i (c.lines[i].apply v.1) }, v.2))
  | .station => if n / 2 ^ 40 % 2 = 1 then none else some ({ c with net.station := BitVec.ofNat 48 n }, false)
  | .mtype => some ({ c with net.mtype := BitVec.ofNat 16 n }, false)
  | .mgmtU => (secondIsTrue n).map (fun v => ({ c with net.mgmtU := v }, false))
  | .noticeDst => some ({ c with net.notice := BitVec.ofNat 48 n }, false)

/-! ### The configuration image (R196, R198) -/

/-- The settings of the image in increasing order of identifier, each schedule entry whole (R196). -/
def catalogue : List Param :=
  List.flatten (α := Param) [
    [(0 : Fin 6), 1, 2, 3, 4, 5].map Param.clock,
    [.offset, .enabled, .amount],
    [(0 : Fin 4), 1, 2, 3].map Param.start,
    [(0 : Fin 4), 1, 2, 3].map Param.stop,
    [.lead],
    allLines.map (Param.entry · 5),
    [.plausibility],
    allGroups.map Param.window,
    allUnits.map Param.holdLen,
    allUnits.map Param.totalSel,
    [.overdueLen, .lapseLen, .initialCrew],
    allLines.flatMap (fun n => [(0 : Fin 7), 1, 2, 3, 4, 5, 6].map (Param.line n)),
    [.station, .mtype, .mgmtU, .noticeDst]]

/-- The bytes the image's check value covers: settings, masks, active bank (R196). -/
def imageBody (c : Settings) (bank : Vector Entry 128) : List Byte :=
  catalogue.flatMap (fun p => p.get c) ++ be 2 c.masks.toNat ++ bank.toList.flatMap (Entry.encode [])

/-- The pages an image of `n` bytes occupies (R196). -/
def pagesOf (n : Nat) : Nat := (n + 63) / 64

/-- The image as it stands in its pages: body, check value, and zeros to the end of the last page (R196). -/
def imageBytes (c : Settings) (bank : Vector Entry 128) : List Byte :=
  let b := imageBody c bank ++ fcs (imageBody c bank)
  b ++ List.replicate (pagesOf b.length * 64 - b.length) 0

/-- Read the settings of the image one after another. -/
def readParams : List Param → List Byte → Settings → Option (Settings × List Byte)
  | [], l, c => some (c, l)
  | p :: ps, l, c =>
    if l.length < p.width then none
    else
      match p.set (l.take p.width) c with
      | none => none
      | some (c, _) => readParams ps (l.drop p.width) c

/-- Read one entry of the image. -/
def readImageEntry (l : List Byte) : Option (Entry × List Byte) :=
  match readEntryBytes l with
  | .ok r => some r
  | .error _ => none

/-- Read an image: its items, and its check value over the bytes before it (R196, R198). -/
def readImage (serial : BitVec 32) (b : List Byte) : Option (Settings × Vector Entry 128) := do
  let (c, l) ← readParams catalogue b (Settings.default serial)
  let (m, l) ← rd 2 l
  let (es, l) ← rdList readImageEntry 128 l
  let used := b.length - l.length
  if l.take 4 = fcs (b.take used) then
    some ({ c with masks := BitVec.ofNat 16 m }, Vector.ofFn (fun i => es.getD i.val Entry.empty))
  else none

/-- The image area's contents when valid (R198). -/
def validImage (st : Store) : Option (Settings × Vector Entry 128) :=
  match st.image with
  | .bytes b => readImage st.serial b
  | .erased => none
  | .torn => none

end Sys2Proof.Machine
end

