-- ==== Sys2Proof/Machine/Controls.lean ====
section
/-! DEFINITION. Machine/Controls.lean: the requests that set something: groups (R114 to R117), time (R17, R18), dials
(R176), settings (R208), tallies (R137, R138), forced handover (R161). -/

namespace Sys2Proof.Machine

/-! ### Groups (R114 to R117) -/

/-- The group a number names, 0..15. -/
def groupOf (n : Nat) : Option (Fin 16) := if h : n < 16 then some ⟨n, h⟩ else none

/-- ACK_GROUP (R114): body group number. -/
def opAckGroup (r : Request) (s : State) : Served :=
  match rd 1 r.body with
  | none => refuse .badRequest s
  | some (n, _) =>
    match groupOf n with
    | none => refuse .badValue s
    | some g =>
      if s.ann[g].state = .announced then (ackGroup g s, some ⟨.ok, []⟩) else refuse .notAnnounced s

/-- ACK_NEXT (R115): the reply carries the group acknowledged. -/
def opAckNext (_r : Request) (s : State) : Served :=
  match (highestAnnounced s).bind groupOf with
  | some g => (ackGroup g s, some ⟨.ok, be 1 g.val⟩)
  | none => refuse .nothingToAck s

/-- RESET_GROUP in QUIET (R116): the count and the lost flag, without notice. -/
def quietReset (g : Fin 16) (s : State) : State := s.withGroup g { s.ann[g] with trips := 0, lost := false }

/-- RESET_GROUP (R116): body group number. -/
def opResetGroup (r : Request) (s : State) : Served :=
  match rd 1 r.body with
  | none => refuse .badRequest s
  | some (n, _) =>
    match groupOf n with
    | none => refuse .badValue s
    | some g =>
      match s.ann[g].state with
      | .quiet => (quietReset g s, some ⟨.ok, []⟩)
      | .settling => refuse .settling s
      | .announced => refuse .notAcked s
      | .acked => (resetGroup g s, some ⟨.ok, []⟩)

/-- The masks with one group's changed. -/
def setMaskBit (m : BitVec 16) (g : Fin 16) (masked : Bool) : BitVec 16 :=
  if masked then m ||| (1#16 <<< g.val) else m &&& ~~~(1#16 <<< g.val)

/-- SET_MASK (R117): body group number and mask value, masked 0 or unmasked 1. -/
def opSetMask (r : Request) (s : State) : Served :=
  match rd 2 r.body with
  | none => refuse .badRequest s
  | some (n, _) =>
    match groupOf (n / 256), firstIsTrue (n % 256) with
    | some g, some b => ({ s with cfg.masks := setMaskBit s.cfg.masks g b }, some ⟨.ok, []⟩)
    | _, _ => refuse .badValue s

/-! ### SET_TIME (R17, R18) -/

/-- A MANUAL label for the next marker, replacing any label held (R18). -/
def placeLabel (sec : Second) (s : State) : State := { s with clock.held := some (.manual sec) }

/-- SET_TIME (R17, R18): body S, N and mode, NOW 0 or AT_MARKER 1. -/
def opSetTime (r : Request) (s : State) : Served :=
  match rd 4 r.body with
  | none => refuse .badRequest s
  | some (sec, l) =>
    match rd 4 l with
    | none => refuse .badRequest s
    | some (ns, l) =>
      match rd 1 l with
      | none => refuse .badRequest s
      | some (0, _) =>
        let n := held 0 999999999 ns
        (setTimeNow (BitVec.ofNat 32 sec) n.1 s, some ⟨okOr n.2, []⟩)
      | some (1, _) => (placeLabel (BitVec.ofNat 32 sec) s, some ⟨.ok, []⟩)
      | some (_, _) => refuse .badValue s

/-! ### SET_DIAL (R176) -/

/-- The line a number names, 0..7. -/
def lineOf (n : Nat) : Option (Fin 8) := if h : n < 8 then some ⟨n, h⟩ else none

/-- The wire a number names. -/
def Wire.ofCode : Nat → Option Wire
  | 0 => some .a | 1 => some .b | _ => none

/-- A dial setting that is taken, counted (R176). -/
def setDial (i : Fin 8) (pos : Nat) (pol : Wire) (s : State) : State :=
  (takeChange i (.dial pos pol) s).countLines (fun c => { c with dialSet := c.dialSet + 1 })

/-- SET_DIAL (R176): body line, position, next polarity; judged against the configuration the line will have once its
pending changes are applied. -/
def opSetDial (r : Request) (s : State) : Served :=
  match rd 1 r.body with
  | none => refuse .badRequest s
  | some (n, l) =>
    match rd 2 l with
    | none => refuse .badRequest s
    | some (pos, l) =>
      match rd 1 l with
      | none => refuse .badRequest s
      | some (w, _) =>
        match lineOf n, Wire.ofCode w with
        | some i, some pol =>
          match (projectedCfg i s).function.cycle with
          | none => refuse .dialNotSlave s
          | some cy =>
            if lineBusy i s then refuse .busy s
            else
              let p := held 0 (cy.steps - 1) pos
              (setDial i p.1 pol s, some ⟨okOr p.2, []⟩)
        | _, _ => refuse .badValue s

/-! ### SET_PARAM (R208) -/

/-- What a new setting sets off in its owning block beside the setting itself: the holdover limit (R15), the calendar
settings (R32), the warning lead (R38). The others are read when they are next used. -/
def settingTakesEffect (p : Param) (before s : State) : State :=
  match p with
  | .clock k => if k = 5 then limitChanged before s else s
  | .offset => calendarEvent true s
  | .enabled => calendarEvent true s
  | .amount => calendarEvent true s
  | .start _ => calendarEvent true s
  | .stop _ => calendarEvent true s
  | .lead => leadChanged s
  | .entry _ _ => s
  | .plausibility => s
  | .window _ => s
  | .holdLen _ => s
  | .totalSel _ => s
  | .overdueLen => s
  | .lapseLen => s
  | .initialCrew => s
  | .line _ _ => s
  | .station => s
  | .mtype => s
  | .mgmtU => s
  | .noticeDst => s

/-- The settings as values in force: each line's with its pending changes applied (R208), its width held to the range
of its function (R169, log 31). -/
def settingsInForce (s : State) : Settings :=
  { s.cfg with
    lines := Vector.ofFn (fun i => { projectedCfg i s with width := (projectedCfg i s).widthInForce }) }

/-- The reply of a SET_PARAM that was taken: identifier and value in force, or to be applied (R208). -/
def paramReply (id : Nat) (p : Param) (clamped : Bool) (s : State) : Answer :=
  ⟨okOr clamped, be 2 id ++ p.get (settingsInForce s)⟩

/-- Set one parameter from the bytes of its value (R208). A line setting is a configuration change (R170). -/
def setParam (id : Nat) (p : Param) (b : List Byte) (s : State) : Served :=
  match p with
  | .line i f =>
    match lineChangeOf f (ofBe b) with
    | none => refuse .badValue s
    | some (ch, clamped) =>
      if lineBusy i s then refuse .busy s
      else
        let s := takeChange i ch s
        (s, some (paramReply id p clamped s))
  | p =>
    match p.set b s.cfg with
    | none => refuse .badValue s
    | some (c, clamped) =>
      let s' := settingTakesEffect p s { s with cfg := c }
      (s', some (paramReply id p clamped s'))

/-- SET_PARAM (R208): body identifier and value. The identifier is judged first (R201, Form). -/
def opSetParam (r : Request) (s : State) : Served :=
  match rd 2 r.body with
  | none => refuse .badRequest s
  | some (id, l) =>
    match Param.ofId id with
    | none => refuse .badValue s
    | some p => if l.length < p.width then refuse .badRequest s else setParam id p (l.take p.width) s

/-! ### PRESET_TALLY (R137, R138) -/

/-- An item of PRESET_TALLY: the quantity with its mode, and the value; a run time in milliseconds. -/
inductive PresetItem where
  | run (k : Fin 6) (ms : Nat)
  | starts (k : Fin 5) (n : Nat)
  | stops (k : Fin 5) (n : Nat)
  deriving DecidableEq, Repr

/-- An item as carried: quantity, mode code, and its value (seconds and milliseconds for a run time). -/
structure RawItem where
  quantity : Fin 3
  mode     : Nat
  value    : Nat
  ms       : Nat
  deriving DecidableEq, Repr

/-- Read the items: a quantity outside its set is BAD_VALUE as soon as it is read, since the length depends on it
(R201, Form). -/
def rdItems : Nat → List Byte → Except Status (List RawItem)
  | 0, _ => .ok []
  | n + 1, l =>
    match rd 1 l with
    | none => .error .badRequest
    | some (q, l) =>
      if hq : q < 3 then
        match rd 1 l with
        | none => .error .badRequest
        | some (m, l) =>
          match rd 4 l with
          | none => .error .badRequest
          | some (v, l) =>
            match (if q = 0 then rd 2 l else some (0, l)) with
            | none => .error .badRequest
            | some (ms, l) => (rdItems n l).map (fun t => ⟨⟨q, hq⟩, m, v, ms⟩ :: t)
      else .error .badValue

/-- An item judged and clamped (R137): none for a mode outside its set, TEST with STARTS or TRIP_STOPS included. -/
def RawItem.judge (x : RawItem) : Option (PresetItem × Bool) :=
  match x.quantity with
  | 0 =>
    if h : x.mode < 6 then
      let sec := held 0 3599999999 x.value
      let ms := held 0 999 x.ms
      some (.run ⟨x.mode, h⟩ (sec.1 * 1000 + ms.1), sec.2 || ms.2)
    else none
  | 1 => if h : x.mode < 5 then some (.starts ⟨x.mode, h⟩ x.value, false) else none
  | 2 => if h : x.mode < 5 then some (.stops ⟨x.mode, h⟩ x.value, false) else none

/-- Whether a quantity is named twice for the same mode (R137). -/
def namedTwice : List RawItem → Bool
  | [] => false
  | x :: xs => xs.any (fun y => y.quantity == x.quantity && y.mode == x.mode) || namedTwice xs

/-- One run time preset (R138, step 2): the value, its saturated flag, and the open shift's snapshot at
new − (old − old snapshot). -/
def presetRun (i k : Fin 6) (new : Nat) (s : State) : State :=
  let u := s.tally[i]
  let old : Int := u.run[k]
  let snaps := s.shift.openRec.snaps
  let s := s.withUnit i { u with run := u.run.set k new, saturated := u.saturated.set k (new == Config.runLimit) }
  { s with shift.openRec.snaps := snaps.set i (snaps[i].set k ((new : Int) - (old - snaps[i][k]))) }

/-- One item preset (R138, steps 2 and 3). -/
def presetItem (i : Fin 6) (x : PresetItem) (s : State) : State :=
  match x with
  | .run k ms => presetRun i k ms s
  | .starts k n => s.withUnit i { s.tally[i] with starts := s.tally[i].starts.set k n }
  | .stops k n => s.withUnit i { s.tally[i] with stops := s.tally[i].stops.set k n }

/-- A preset that passed its checks (R138, steps 1 to 5). -/
def presetTally (i : Fin 6) (items : List PresetItem) (s : State) : State :=
  let s := items.foldl (fun s x => presetItem i x s) (creditUnit i s)
  requestCheckpoint i .preset (realignUnit i s)

/-- PRESET_TALLY (R137): body unit, count and items. The count stands before the items and is judged before their
quantities (R201, log 33). -/
def opPresetTally (r : Request) (s : State) : Served :=
  match rd 1 r.body with
  | none => refuse .badRequest s
  | some (n, l) =>
    match rd 1 l with
    | none => refuse .badRequest s
    | some (cnt, l) =>
      if cnt = 0 ∨ 16 < cnt then refuse .badRequest s
      else
        match rdItems cnt l with
        | .error e => refuse e s
        | .ok raw =>
          match unitOfNo n, allSome (raw.map RawItem.judge) with
          | some i, some items =>
            if namedTwice raw then refuse .badRequest s
            else (presetTally i (items.map Prod.fst) s, some ⟨okOr (items.any Prod.snd), []⟩)
          | _, _ => refuse .badValue s

/-! ### FORCE_HANDOVER (R161) -/

/-- FORCE_HANDOVER (R161): body crew; the closing instant is the request's arrival stamp. -/
def opForceHandover (r : Request) (s : State) : Served :=
  match rd 1 r.body with
  | none => refuse .badRequest s
  | some (n, _) =>
    if anySettling s then refuse .settling s
    else
      let crew := held 1 15 n
      ((complete .forced r.head.stamp crew.1 none none s).countShift (fun c => { c with forced := c.forced + 1 }),
        some ⟨okOr crew.2, []⟩)

/-! ### Meanings -/

/-- ACK_GROUP (R114). -/
def execAckGroup (head : ReqHead) (body : List Byte) (s : State) : Host.Outcome State Fault Refusal :=
  .next (command 0x07 .operator opAckGroup head body s)

/-- ACK_NEXT (R115). -/
def execAckNext (head : ReqHead) (body : List Byte) (s : State) : Host.Outcome State Fault Refusal :=
  .next (command 0x08 .operator opAckNext head body s)

/-- RESET_GROUP (R116). -/
def execResetGroup (head : ReqHead) (body : List Byte) (s : State) : Host.Outcome State Fault Refusal :=
  .next (command 0x09 .operator opResetGroup head body s)

/-- SET_DIAL (R176). -/
def execSetDial (head : ReqHead) (body : List Byte) (s : State) : Host.Outcome State Fault Refusal :=
  .next (command 0x0F .operator opSetDial head body s)

/-- SET_PARAM (R208). -/
def execSetParam (head : ReqHead) (body : List Byte) (s : State) : Host.Outcome State Fault Refusal :=
  .next (command 0x13 .engineer opSetParam head body s)

/-- SET_MASK (R117). -/
def execSetMask (head : ReqHead) (body : List Byte) (s : State) : Host.Outcome State Fault Refusal :=
  .next (command 0x14 .engineer opSetMask head body s)

/-- SET_TIME (R17, R18). -/
def execSetTime (head : ReqHead) (body : List Byte) (s : State) : Host.Outcome State Fault Refusal :=
  .next (command 0x15 .engineer opSetTime head body s)

/-- PRESET_TALLY (R137, R138). -/
def execPresetTally (head : ReqHead) (body : List Byte) (s : State) : Host.Outcome State Fault Refusal :=
  .next (command 0x16 .engineer opPresetTally head body s)

/-- FORCE_HANDOVER (R161). -/
def execForceHandover (head : ReqHead) (body : List Byte) (s : State) : Host.Outcome State Fault Refusal :=
  .next (command 0x17 .engineer opForceHandover head body s)

end Sys2Proof.Machine
end

