-- ==== Sys2Proof/Machine/Path.lean ====
section
/-! DEFINITION. Machine/Path.lean: reception, ingress queues, takes, transmissions, stamp formats and writes (03). -/

namespace Sys2Proof.Machine

/-! ### Reception (R45 to R47) -/

/-- The start delimiter of a frame completes on an idle port: the arrival stamp is taken (R46). -/
def frameStart (p : Port) (s : State) : State :=
  if live s && (s.port p).rx.isNone then s.withPort p { s.port p with rx := some (stampNow s) } else s

/-- A good frame is placed at the tail of its ingress queue, or dropped and counted when 8 are held (R47). -/
def ingressPlace (p : Port) (f : RxFrame) (s : State) : State :=
  if (s.port p).ingress.length < Config.ingressCap then
    s.withPort p { s.port p with ingress := (s.port p).ingress ++ [f] }
  else s.countPort p (fun c => { c with ingressFull := c.ingressFull + 1 })

/-- A reception ends (R45): length first, then the check sequence. -/
def frameReceived (p : Port) (bytes : List Byte) (s : State) : State :=
  match (s.port p).rx with
  | none => s
  | some t =>
    if live s then
      let s := s.withPort p { s.port p with rx := none }
      if !lengthOk bytes then s.countPort p (fun c => { c with rxLength := c.rxLength + 1 })
      else if !fcsOk bytes then s.countPort p (fun c => { c with rxFcs := c.rxFcs + 1 })
      else ingressPlace p ⟨bytes, t⟩ (s.countPort p (fun c => { c with rxGood := c.rxGood + 1 }))
    else s

/-! ### Takes (R48, R49) -/

/-- Whether a take is due: the classifier is IDLE, not held by a RESTART and with no commit waiting, and a queue holds
a frame (R48, R83, R203). -/
def takeDue (s : State) : Bool :=
  live s && s.cls.work.isNone && s.resp.state == .ready && (!s.portU.ingress.isEmpty || !s.portS.ingress.isEmpty)

/-- The queue a take chooses (R49). -/
def takePort (s : State) : Port :=
  if (s.port s.cls.pointer).ingress.isEmpty then s.cls.pointer.other else s.cls.pointer

/-- Take the head frame of a queue and begin classifying it (R48, R50); the pointer then names the other port. -/
def frameTake (s : State) : State :=
  let p := takePort s
  match (s.port p).ingress with
  | [] => s
  | f :: rest =>
    let w : Work := { port := p, bytes := f.bytes, stamp := f.stamp, station := s.cfg.net.station,
                      mtype := s.cfg.net.mtype, mgmtU := s.cfg.net.mgmtU }
    let s := s.withPort p { s.port p with ingress := rest }
    { s with cls.work := some w, cls.pointer := p.other }

/-! ### Transmission (R54) -/

/-- The highest class that holds a frame. -/
def nextClass (x : PortPath) : Option EgressClass :=
  if !x.urgent.isEmpty then some .urgent
  else if !x.notice.isEmpty then some .notice
  else if !x.bulk.isEmpty then some .bulk
  else none

/-- Whether a transmission starts: the transmitter is IDLE, a queue holds a frame, and no RESTART is about to take
effect (R54, R61). -/
def txStartDue (p : Port) (s : State) : Bool :=
  live s && (s.port p).tx.isNone && (nextClass (s.port p)).isSome && !s.resp.restartDue

/-- Start the head frame of the highest non-empty class (R54). -/
def txStart (p : Port) (s : State) : State :=
  match nextClass (s.port p) with
  | none => s
  | some c =>
    match (s.port p).queue c with
    | [] => s
    | f :: rest => s.withPort p { (s.port p).withQueue c rest with tx := some ⟨f, s.now⟩ }

/-- The time a transmission occupies the transmitter, in nanoseconds (R54). -/
def txTime (f : TxFrame) : Nat := (f.bytes.length + 20) * 80

/-- Whether a transmission has completed (R54). -/
def txDone (p : Port) (s : State) : Bool :=
  live s && match (s.port p).tx with
    | some t => txTime t.frame ≤ elapsedNs t.since s.now
    | none => false

/-- A transmission completes (R54). The completed reply to RESTART lets it take effect (R61). -/
def txComplete (p : Port) (s : State) : State :=
  match (s.port p).tx with
  | none => s
  | some t =>
    let s := (s.withPort p { s.port p with tx := none }).countPort p (fun c => { c with txFrames := c.txFrames + 1 })
    if t.frame.restart then { s with resp.restartDue := true } else s

/-- The frame path emptied (R60, R61): receptions, queues, transmissions and the frame in classification. -/
def emptyPath (s : State) : State :=
  { s with portU := PortPath.empty, portS := PortPath.empty, cls.work := none }

/-! ### Stamp formats (R57, R58, R214) -/

/-- Two decimal digits in one byte. -/
def bcd (n : Nat) : Byte := BitVec.ofNat 8 (n / 10 % 10 * 16 + n % 10)

/-- The BCD format of a stamp, 11 bytes, with its local time (R58, R214). -/
def encBcd (t : Stamp) (l : LocalTime) : List Byte :=
  let us := t.ns / 1000
  [bcd (l.year / 100), bcd (l.year % 100), bcd l.month, bcd l.day, bcd l.hour, bcd l.minute, bcd l.second,
   bcd (us / 10000), bcd (us / 100 % 100), bcd (us % 100)] ++ be 1 t.cls.val

/-- The width of a format (R56). -/
def StampFormat.width : StampFormat → Nat
  | .binary => 9
  | .bcd => 11

/-- Replace bytes from a position on. -/
def overwrite (l : List Byte) (pos : Nat) (b : List Byte) : List Byte := l.take pos ++ b ++ l.drop (pos + b.length)

/-! ### Meanings -/

/-- FRAME_START (R46). -/
def execFrameStart (port : Port) (s : State) : Host.Outcome State Fault Refusal := .next (frameStart port s)

/-- FRAME_RECEIVED (R45). -/
def execFrameReceived (port : Port) (bytes : List Byte) (s : State) : Host.Outcome State Fault Refusal :=
  .next (frameReceived port bytes s)

/-- FRAME_TAKE (R49). -/
def execFrameTake (s : State) : Host.Outcome State Fault Refusal := .next (if takeDue s then frameTake s else s)

/-- TRANSMISSION_START (R54). -/
def execTransmissionStart (port : Port) (s : State) : Host.Outcome State Fault Refusal :=
  .next (if txStartDue port s then txStart port s else s)

/-- TRANSMISSION_COMPLETE (R54). -/
def execTransmissionComplete (port : Port) (s : State) : Host.Outcome State Fault Refusal :=
  .next (if txDone port s then txComplete port s else s)

end Sys2Proof.Machine
end

