-- ==== Sys2Proof/Machine/Recorder.lean ====
section
/-! DEFINITION. Machine/Recorder.lean: trip reports, source slots, record stamps, the trip list and its full policy
(05). -/

namespace Sys2Proof.Machine

/-- A trip report of the classifier (R72). -/
structure TripReport where
  source       : Fin 64
  group        : Fin 16
  unit         : Option (Fin 6)
  stateNo      : BitVec 16
  code         : BitVec 16
  kind         : TripKind
  /-- for origin EMBEDDED, the picked seconds and nanoseconds, unchecked -/
  embedded     : Option (Nat × Nat)
  compensation : Nat
  unitStop     : Bool
  stamp        : Stamp
  port         : Port
  deriving DecidableEq, Repr

/-- How a report is judged against its slot (R87). -/
inductive Judgement where
  | fresh
  | again
  | restarted
  | stale
  deriving DecidableEq, Repr

/-- The judgement of R87: by the difference of state numbers modulo 65,536. -/
def judge (slot : SourceSlot) (no : BitVec 16) : Judgement :=
  let d := (no - slot.lastNo).toNat
  if !slot.used then .fresh
  else if d = 0 then .again
  else if d ≤ 32767 then .fresh
  else if no.toNat ≤ 1 then .restarted
  else .stale

/-- The number after a sequence number: from 4,294,967,295 to 1 (R94). -/
def seqNext (q : BitVec 32) : BitVec 32 := if q = 0xFFFFFFFF#32 then 1 else q + 1

/-- Steps forward from one sequence number to another, in the numbering 1..4,294,967,295 (R94). -/
def seqSteps (a b : Nat) : Nat := if a ≤ b then b - a else b + 4294967295 - a

/-- Equal or later in the order of the numbering (R94, R103). -/
def seqFrom (q : Nat) (r : TripRecord) : Bool := seqSteps q r.seq.toNat ≤ 2147483647

/-- The compensated arrival stamp (R91): the reading less the compensation, not before S = 0, N = 0; the class of the
arrival stamp. -/
def compensated (t : Stamp) (comp : Nat) : Stamp :=
  let n := t.sec.toNat * 1000000000 + t.ns - comp
  { t with sec := BitVec.ofNat 32 (n / 1000000000), ns := n % 1000000000 }

/-- Whether an embedded stamp is plausible (R92). -/
def plausible (limitMs : Nat) (t : Stamp) (e : Nat × Nat) : Bool :=
  e.2 ≤ 999999999 &&
    (((e.1 : Int) * 1000000000 + e.2) - ((t.sec.toNat : Int) * 1000000000 + t.ns)).natAbs ≤ limitMs * 1000000

/-- The stamp and origin of a record (R91, R92). -/
def recordStamp (limitMs : Nat) (r : TripReport) : Stamp × TripOrigin :=
  match r.embedded with
  | none => (compensated r.stamp r.compensation, .arrival)
  | some e =>
    if plausible limitMs r.stamp e then ({ r.stamp with sec := BitVec.ofNat 32 e.1, ns := e.2 }, .embedded)
    else (compensated r.stamp r.compensation, .fallback)

/-- Attribution to a shift (R95): the shift number and the late flag. -/
def attribution (u : ShiftUnit) (t : Stamp) : Nat × Bool :=
  match u.list.getLast? with
  | some c => if earlierThan t u.openRec.opened then (c.base.number, true) else (u.openRec.number, false)
  | none => (u.openRec.number, false)

/-- Whether a group refers to a record (R98). -/
def referred (s : State) (q : BitVec 32) : Bool := s.ann.toList.any (fun g => g.ref == some q)

/-- The conditions a record must meet to give way (R98). -/
def mayGiveWay (s : State) (r : TripRecord) : Bool :=
  r.acked && r.shiftNo < s.shift.openRec.number && !referred s r.seq

/-- Store a source slot. -/
def State.withSlot (s : State) (i : Fin 64) (x : SourceSlot) : State :=
  { s with recorder.slots := s.recorder.slots.set i x }

/-- Remove a record from the list (R98); a slot whose latest record it was refers to none. -/
def removeRecord (r : TripRecord) (s : State) : State :=
  let slot := s.recorder.slots[r.source]
  let s := { s with recorder.list := s.recorder.list.erase r }
  let s := if slot.latest = some r.seq then s.withSlot r.source { slot with latest := none } else s
  s.countRec (fun c => { c with overwrite := c.overwrite + 1 })

/-- Make room in the list (R97, R98): none when it is full and no record may give way (R99). -/
def makeRoom (s : State) : Option State :=
  if s.recorder.list.length < Config.tripCap then some s
  else (s.recorder.list.find? (mayGiveWay s)).map (fun r => removeRecord r s)

/-- The epoch and restart flag of a new record, and the counts (R89): a source restart, or a state number still in
the list. TRIP_WRAP counts at this judgement, also for a report that is then lost (log 29). -/
def restartOf (j : Judgement) (r : TripReport) (s : State) : Bool × State :=
  if j = .restarted then (true, s.countRec (fun c => { c with restart := c.restart + 1 }))
  else if s.recorder.list.any (fun x => x.source == r.source && x.stateNo == r.stateNo) then
    (true, s.countRec (fun c => { c with wrap := c.wrap + 1 }))
  else (false, s)

/-- The record of a report (R93). A CLEAR record is created acknowledged (R96). -/
def newRecord (r : TripReport) (restart : Bool) (epoch : BitVec 8) (st : Stamp × TripOrigin) (s : State) :
    TripRecord :=
  let at_ := attribution s.shift st.1
  { seq := s.recorder.nextSeq, kind := r.kind, source := r.source, group := r.group, unit := r.unit, code := r.code,
    stateNo := r.stateNo, epoch := epoch, stamp := st.1, origin := st.2, port := r.port, shiftNo := at_.1,
    late := at_.2, mode := r.unit.map (fun u => s.tally[u].mode), firstOut := false, earlier := false,
    acked := r.kind == .clear, repeats := 0, restart := restart }

/-- The slot after a new record or a lost one (R90). -/
def SourceSlot.taken (x : SourceSlot) (no : BitVec 16) (epoch : BitVec 8) (latest : Option (BitVec 32)) : SourceSlot :=
  { x with used := true, lastNo := no, epoch := epoch, latest := latest }

/-- A placed record handed on (R100, R102): tally unit, annunciation unit, TRIP notice. -/
def handOn (r : TripReport) (x : TripRecord) (s : State) : State :=
  let s := if r.kind = .trip then
      let s := countShiftTrip x.shiftNo x.late s
      let s := match r.unit with
        | some u => tallyTrip u r.unitStop s
        | none => s
      groupRecord x s
    else s
  if maskedGroup s r.group then s
  else notice 0x80 (((findRecord x.seq s.recorder.list).getD x).encode) s

/-- A lost report (R99): the number is used up, the slot is updated, and a report of kind TRIP still reaches the tally
unit and sets its group's lost flag. -/
def loseReport (r : TripReport) (epoch : BitVec 8) (s : State) : State :=
  let s := (s.withSlot r.source (s.recorder.slots[r.source].taken r.stateNo epoch none)).countRec
    (fun c => { c with lost := c.lost + 1 })
  let s := { s with recorder.nextSeq := seqNext s.recorder.nextSeq }
  if r.kind = .trip then
    let s := match r.unit with
      | some u => tallyTrip u r.unitStop s
      | none => s
    groupLost r.group s
  else s

/-- A new record or a source restart (R85, steps 2 to 5). The list is searched for the state number (R89) before a
record gives way (R98), as the steps of R85 stand (log 29). -/
def recordReport (j : Judgement) (r : TripReport) (s : State) : State :=
  let (restart, s) := restartOf j r s
  let old := s.recorder.slots[r.source].epoch
  let epoch := if restart then old + 1 else old
  let st := recordStamp s.cfg.plausibility r
  let s := if st.2 = .fallback then s.countRec (fun c => { c with fallback := c.fallback + 1 }) else s
  match makeRoom s with
  | none => loseReport r epoch s
  | some s =>
    let x := newRecord r restart epoch st s
    let s := { s with recorder.list := s.recorder.list ++ [x], recorder.nextSeq := seqNext s.recorder.nextSeq }
    let s := (s.withSlot r.source (s.recorder.slots[r.source].taken r.stateNo epoch (some x.seq))).countRec
      (fun c => { c with records := c.records + 1 })
    handOn r x s

/-- A repeat (R88): the slot's repeat count and, when its latest record is present, the record's, saturating. -/
def repeatReport (r : TripReport) (s : State) : State :=
  let slot := s.recorder.slots[r.source]
  let s := (s.withSlot r.source { slot with repeats := slot.repeats + 1 }).countRec
    (fun c => { c with repeats := c.repeats + 1 })
  match slot.latest with
  | some q => { s with recorder.list := updRecord q (fun x => { x with repeats := min (x.repeats + 1) 65535 }) s.recorder.list }
  | none => s

/-- A stale report (R87). -/
def staleReport (r : TripReport) (s : State) : State :=
  let slot := s.recorder.slots[r.source]
  (s.withSlot r.source { slot with stales := slot.stales + 1 }).countRec (fun c => { c with stale := c.stale + 1 })

/-- Taking a trip report (R85). -/
def tripReport (r : TripReport) (s : State) : State :=
  match judge s.recorder.slots[r.source] r.stateNo with
  | .again => repeatReport r s
  | .stale => staleReport r s
  | .fresh => recordReport .fresh r s
  | .restarted => recordReport .restarted r s

end Sys2Proof.Machine
end

