-- ==== Sys2Proof/Machine/Match.lean ====
section
/-! DEFINITION. Machine/Match.lean: matching, search and chaining, the actions, faults, outcome and the end of a
classification (03, 04). -/

namespace Sys2Proof.Machine

/-! ### Matching one entry (R63, R64) -/

/-- A byte test (R64): bytes beyond the payload fail it under either relation. -/
def ByteTest.passes (t : ByteTest) (p : List Byte) : Bool :=
  match pick p t.offset.toNat t.width.toNat with
  | none => false
  | some v =>
    let same := BitVec.ofNat 32 v &&& t.mask == t.value &&& t.mask
    match t.relation with
    | .eq => same
    | .ne => !same

/-- Whether a port filter admits a port (R63). -/
def PortFilter.admits : PortFilter → Port → Bool
  | .both, _ => true
  | .u, p => p == .u
  | .s, p => p == .s

/-- Whether an entry matches a frame, read as received (R63). -/
def Entry.hits (e : Entry) (w : Work) : Bool :=
  e.enabled && e.filter.admits w.port
    && (match e.source with | none => true | some a => a == frameSrc w.bytes)
    && (match e.type with | none => true | some t => t == frameType w.bytes)
    && e.tests.all (fun t => t.passes (payload w.bytes))

/-! ### Actions (R67 to R76) -/

/-- What the search has gathered on one frame: the bytes with the writes made, whether one was made (R59), how many
entries acted (R66), whether one of them consumes it, whether one asks for URGENT (R69). -/
structure Gathered where
  bytes    : List Byte
  wrote    : Bool
  acted    : Nat
  consumed : Bool
  urgent   : Bool
  deriving DecidableEq, Repr

/-- The trip report of a TRIP entry (R72); none when a pick lies outside the payload. -/
def tripPicks (p : TripParams) (w : Work) : Option TripReport := do
  let pl := payload w.bytes
  let no ← pick pl p.stateOffset.toNat 2
  let code ← pick pl p.codeOffset.toNat p.codeWidth.toNat
  let emb ← match p.embedded with
    | none => some none
    | some o =>
      (pick pl o.toNat 8).map (fun v => some (v / 2 ^ 32, v % 2 ^ 32))
  some
    { source := Fin.ofNat 64 p.source.toNat
      group := Fin.ofNat 16 p.group.toNat
      unit := p.unit.bind (fun u => unitOfNo u.toNat)
      stateNo := BitVec.ofNat 16 no
      code := BitVec.ofNat 16 code
      kind := if code = p.clearCode.toNat then .clear else .trip
      embedded := emb
      compensation := p.compensation.toNat
      unitStop := p.unitStop
      stamp := w.stamp
      port := w.port }

/-- The picked mode byte and test byte of a UNIT entry (R73, R74); none when a pick lies outside the payload. -/
def unitPicks (p : UnitParams) (w : Work) : Option (Nat × Option Nat) := do
  let pl := payload w.bytes
  let m ← pick pl p.modeOffset.toNat 1
  match p.test with
  | none => some (m, none)
  | some t => (pick pl t.1.toNat 1).map (fun v => (m, some v))

/-- The mode a code map gives a mode byte: the first pair of that raw value (R73). -/
def mapMode (l : List (Byte × Mode)) (raw : Nat) : Option Mode :=
  (l.find? (fun q => q.1.toNat == raw)).map Prod.snd

/-- The test flag of a unit report (R74). -/
def testFlag (t : Option (BitVec 16 × Byte)) (picked : Option Nat) : Bool :=
  match t, picked with
  | some t, some v => BitVec.ofNat 8 v &&& t.2 != 0
  | _, _ => false

/-- Deliver a UNIT entry's report, or count UNIT_UNMAPPED (R73, R74). -/
def unitAction (p : UnitParams) (w : Work) (m : Nat) (picked : Option Nat) (s : State) : State :=
  match mapMode p.codeMap m, unitOfNo p.unit.toNat with
  | some mode, some u => unitReport u mode (testFlag p.test picked) w.stamp s
  | none, _ => s.countCls (fun c => { c with unitUnmapped := c.unitUnmapped + 1 })
  | some _, none => s

/-- The verb of a verb byte (R76). -/
def Verb.ofCode : Nat → Option Verb
  | 1 => some .offer | 2 => some .accept | 3 => some .decline | 4 => some .withdraw | _ => none

/-- Deliver a handover report, or count HANDOVER_MALFORMED (R76). -/
def handoverAction (w : Work) (verb crew operator : Nat) (s : State) : State :=
  match Verb.ofCode verb with
  | some v =>
    if 1 ≤ crew ∧ crew ≤ 15 then handoverReport v ⟨crew, BitVec.ofNat 16 operator, w.stamp⟩ s
    else s.countCls (fun c => { c with handoverMalformed := c.handoverMalformed + 1 })
  | none => s.countCls (fun c => { c with handoverMalformed := c.handoverMalformed + 1 })

/-- Take an entry's action (R67): the state after it and the stamp write it requests. None, with nothing done, when a
pick lies outside the payload (R68). -/
def takeAction (a : Action) (w : Work) (s : State) : Option (State × Option StampWrite) :=
  let pl := payload w.bytes
  match a with
  | .pass => some (s, none)
  | .drop => some (s, none)
  | .stamp wr => some (s, some wr)
  | .trip p => (tripPicks p w).map (fun r => (tripReport r s, p.write))
  | .unit p => (unitPicks p w).map (fun r => (unitAction p w r.1 r.2 s, none))
  | .beacon o => (pick pl o.toNat 4).map (fun v => (beaconLabel (BitVec.ofNat 32 v) s, none))
  | .handover v c o =>
    match pick pl v.toNat 1, pick pl c.toNat 1, pick pl o.toNat 2 with
    | some v, some c, some o => some (handoverAction w v c o s, none)
    | _, _, _ => none

/-! ### Stamp writes and faults (R56, R77, R78) -/

/-- The bytes of the arrival stamp in a format (R57, R58). -/
def stampBytes (f : StampFormat) (t : Stamp) (s : State) : List Byte :=
  match f with
  | .binary => encStamp t
  | .bcd => encBcd t (localTime s.cfg.cal t.sec)

/-- Make a stamp write, or count STAMP_SHORT when it passes the end of the payload (R56). Payload offset 0 is byte 14
of the frame (R44). -/
def stampWrite (wr : StampWrite) (w : Work) (g : Gathered) (s : State) : Gathered × State :=
  if wr.offset.toNat + wr.format.width ≤ (payload w.bytes).length then
    ({ g with bytes := overwrite g.bytes (14 + wr.offset.toNat) (stampBytes wr.format w.stamp s), wrote := true }, s)
  else (g, s.countPort w.port (fun c => { c with stampShort := c.stampShort + 1 }))

/-- Count a fault by kind (R77). -/
def countFault (k : FaultKind) (c : ClsCnt) : ClsCnt :=
  match k with
  | .chainLimit => { c with chainLimit := c.chainLimit + 1 }
  | .pickOutside => { c with pickOutside := c.pickOutside + 1 }

/-- Raise a classifier fault: counted, and captured when the record is empty (R77, R78). -/
def raiseFault (k : FaultKind) (i : Nat) (w : Work) (s : State) : State :=
  let r : FaultRecord := ⟨k, i, w.port, frameSrc w.bytes, w.stamp⟩
  { s with cls.fault := some (s.cls.fault.getD r) }.countCls (countFault k)

/-! ### Search (R65, R66) -/

/-- Note an acting entry's settings (R67, R69, R70). -/
def Gathered.note (g : Gathered) (e : Entry) : Gathered :=
  { g with acted := g.acted + 1, consumed := g.consumed || !e.forward || e.action == .drop, urgent := g.urgent || e.urgent }

/-- Entry `i` acts (R67, R68). -/
def actEntry (i : Fin 128) (w : Work) (g : Gathered) (s : State) : Gathered × State :=
  let e := s.cls.active[i]
  let g := g.note e
  let s := { s with cls.hits := s.cls.hits.set i (s.cls.hits[i] + 1) }
  match takeAction e.action w s with
  | none => (g, raiseFault .pickOutside i w s)
  | some (s, none) => (g, s)
  | some (s, some wr) => stampWrite wr w g s

/-- Search the active bank from an index (R65): at most four entries act, a fifth match raises CHAIN_LIMIT and ends
the search (R66). Every valid chain leads upward (R82), so 128 tests suffice from index 0. -/
def searchBank (w : Work) : Nat → Nat → Gathered → State → Gathered × State
  | 0, _, g, s => (g, s)
  | fuel + 1, i, g, s =>
    if h : i < 128 then
      let e := s.cls.active[i]
      if e.hits w then
        if g.acted = 4 then (g, raiseFault .chainLimit i w s)
        else
          let r := actEntry ⟨i, h⟩ w g s
          match e.chain with
          | none => r
          | some c => searchBank w fuel c.toNat r.1 r.2
      else searchBank w fuel (i + 1) g s
    else (g, s)

/-! ### The end of a classification (R48, R50 to R52, R59, R69) -/

/-- The frame as forwarded: a new check sequence when a write was made (R59). -/
def Gathered.forwarded (g : Gathered) : List Byte := if g.wrote then refresh g.bytes else g.bytes

/-- The forwarding outcome carried out (R52, R69). -/
def outcome (w : Work) (g : Gathered) (s : State) : State :=
  let s := if g.acted = 0 then
      s.countCls (fun c => match w.port with
        | .u => { c with noMatchU := c.noMatchU + 1 }
        | .s => { c with noMatchS := c.noMatchS + 1 })
    else s
  if g.consumed then s.countPort w.port (fun c => { c with consumed := c.consumed + 1 })
  else place w.port.other (if g.urgent then .urgent else .bulk) ⟨g.forwarded, false⟩ s

/-- The management test, with the identity in force when the frame was taken (R50). -/
def isManagement (w : Work) : Bool := frameDst w.bytes == w.station && frameType w.bytes == w.mtype

/-- A management frame on port U while management on U is not set (R51). -/
def isRefused (w : Work) : Bool := isManagement w && w.port == .u && !w.mgmtU

/-- Whether the classification in progress is done at once: course 2 of R48. -/
def refusalDue (s : State) : Bool := live s && s.cls.work.any isRefused

/-- The request a management frame carries (R200, R211). -/
def requestOf (w : Work) : Request :=
  let pl := payload w.bytes
  { head := { port := w.port, src := frameSrc w.bytes, stamp := w.stamp, tag := BitVec.ofNat 16 (ofBe (pl.take 2)) }
    code := BitVec.ofNat 8 (ofBe ((pl.drop 2).take 1))
    body := pl.drop 3 }

/-- One classification carried to its end, the classifier IDLE afterwards (R48): management request, frame dropped by
R51, or any other frame. -/
def classifyFrame (w : Work) (s : State) : State :=
  if isManagement w then
    if w.port = .u ∧ w.mgmtU = false then s.countPort .u (fun c => { c with mgmtRefused := c.mgmtRefused + 1 })
    else hand (requestOf w) (s.countPort w.port (fun c => { c with mgmtTaken := c.mgmtTaken + 1 }))
  else
    let r := searchBank w 128 0 ⟨w.bytes, false, 0, false, false⟩ s
    outcome w r.1 r.2

/-- The classification in progress is done (R48). -/
def classificationDone (s : State) : State :=
  match s.cls.work with
  | none => s
  | some w => if live s then classifyFrame w { s with cls.work := none } else s

/-! ### Meanings -/

/-- CLASSIFICATION_DONE (R48). -/
def execClassificationDone (s : State) : Host.Outcome State Fault Refusal := .next (classificationDone s)

end Sys2Proof.Machine
end

