-- ==== Sys2Proof/Machine/Store.lean ====
section
/-! DEFINITION. Machine/Store.lean: checkpoint records, the scan, the program engine and its arbiter (R191 to R197,
R199). -/

namespace Sys2Proof.Machine

/-! ### Checkpoint records (R191) -/

/-- The fields of a checkpoint record. -/
structure Ckpt where
  gen    : Nat
  unit   : Fin 6
  reason : Reason
  run    : Vector Nat 6
  starts : Vector Nat 5
  stops  : Vector Nat 5
  trips  : Nat
  deriving DecidableEq, Repr

def Reason.ofCode : Nat → Option Reason
  | 0 => some .modeEnd | 1 => some .hourly | 2 => some .shiftClose | 3 => some .preset | 4 => some .warm
  | 5 => some .request | _ => none

/-- The 86 bytes of a record before its check value, in the order of the table of R191. -/
def Ckpt.body (c : Ckpt) : List Byte :=
  be 4 c.gen ++ be 1 (unitNo c.unit) ++ be 1 c.reason.code
    ++ encMs 4 c.run[0] ++ encMs 4 c.run[1] ++ encMs 4 c.run[2] ++ encMs 4 c.run[3] ++ encMs 4 c.run[4]
    ++ be 4 c.starts[0] ++ be 4 c.starts[1] ++ be 4 c.starts[2] ++ be 4 c.starts[3] ++ be 4 c.starts[4]
    ++ be 4 c.stops[0] ++ be 4 c.stops[1] ++ be 4 c.stops[2] ++ be 4 c.stops[3] ++ be 4 c.stops[4]
    ++ encMs 4 c.run[5] ++ be 4 c.trips

/-- A record of 88 bytes (R191). -/
def Ckpt.encode (c : Ckpt) : List Byte := c.body ++ be 2 (recordCheck c.body).toNat

/-- The number in `w` bytes of a slot from an offset. -/
def numAt (b : List Byte) (off w : Nat) : Nat := ofBe ((b.drop off).take w)

/-- A run time in milliseconds from its seconds and milliseconds. -/
def msAt (b : List Byte) (off : Nat) : Nat := numAt b off 4 * 1000 + numAt b (off + 4) 2

/-- Whether the check value agrees with the other fields (R191). -/
def checkAgrees (b : List Byte) : Bool :=
  b.length == 88 && numAt b 86 2 == (recordCheck (b.take 86)).toNat

/-- The record of a slot's bytes, when they are valid (R191). -/
def Ckpt.ofBytes (b : List Byte) : Option Ckpt :=
  match unitOfNo (numAt b 4 1), Reason.ofCode (numAt b 5 1) with
  | some u, some r =>
    if checkAgrees b && 1 ≤ numAt b 0 4 then
      some
        { gen := numAt b 0 4, unit := u, reason := r
          run := #v[msAt b 6, msAt b 12, msAt b 18, msAt b 24, msAt b 30, msAt b 76]
          starts := #v[numAt b 36 4, numAt b 40 4, numAt b 44 4, numAt b 48 4, numAt b 52 4]
          stops := #v[numAt b 56 4, numAt b 60 4, numAt b 64 4, numAt b 68 4, numAt b 72 4]
          trips := numAt b 82 4 }
    else none
  | _, _ => none

/-- The record in a slot, when the slot is valid: never an erased or a torn slot (R191, R195). -/
def Slot.record : Slot → Option Ckpt
  | .erased => none
  | .torn => none
  | .bytes b => Ckpt.ofBytes b

/-! ### The cold-start scan (R197) -/

/-- What the scan has found so far. -/
structure Scan where
  best    : Vector (Option Ckpt) 6
  highest : Nat
  pos     : Fin 1024
  invalid : Nat
  deriving DecidableEq, Repr

/-- Keep a record when its unit has none yet, or one of lower generation. -/
def Scan.keep (a : Scan) (r : Ckpt) : Scan :=
  match a.best[r.unit] with
  | none => { a with best := a.best.set r.unit (some r) }
  | some q => if q.gen < r.gen then { a with best := a.best.set r.unit (some r) } else a

/-- Judge one slot: a valid record of higher generation than its unit's takes its place, and the highest generation of
all and its slot are kept (R197). -/
def Scan.slot (a : Scan) (i : Fin 1024) (x : Slot) : Scan :=
  match x.record with
  | none => { a with invalid := a.invalid + 1 }
  | some r =>
    let a := a.keep r
    if a.highest < r.gen then { a with highest := r.gen, pos := i } else a

/-- Scan all slots in order; with none valid, generation 0 and write position 1,023 (R197). -/
def scanSlots (slots : Vector Slot 1024) : Scan :=
  slots.toList.zipIdx.foldl (fun a p => a.slot (Fin.ofNat 1024 p.2) p.1)
    { best := Vector.replicate 6 none, highest := 0, pos := 1023, invalid := 0 }

/-- A unit restored from its record, or from none (R144): saturated flags are derived. -/
def UnitRec.restored (r : Option Ckpt) : UnitRec :=
  match r with
  | none => UnitRec.cold
  | some c =>
    { UnitRec.cold with
      run := c.run, saturated := c.run.map (fun n => n == Config.runLimit), starts := c.starts, stops := c.stops,
      trips := c.trips }

/-! ### Programs (R193, R194, R196) -/

/-- Whether a checkpoint program starts: engine IDLE, no store waiting, a unit pending, generations left (R193), and
the main domain not held (R190). -/
def ckptStartDue (s : State) : Bool :=
  live s && s.store.engine == .idle && s.store.waiting.isNone && !s.store.order.isEmpty && !exhausted s

/-- The record of a unit's tallies as they stand. -/
def ckptOf (gen : Nat) (u : Fin 6) (why : Reason) (r : UnitRec) : Ckpt :=
  { gen := gen, unit := u, reason := why, run := r.run, starts := r.starts, stops := r.stops, trips := r.trips }

/-- A checkpoint program starts for the head of the order (R193, steps 1 to 5; R136). -/
def ckptStart (s : State) : State :=
  match s.store.order with
  | [] => s
  | u :: rest =>
    let why := s.store.flags[u].getD .request
    let s := { s with store.order := rest, store.flags := s.store.flags.set u none }
    let s := checkpointSnapshot u s
    let gen := s.store.highestGen + 1
    let bytes := (ckptOf gen u why s.tally[u]).encode
    { s with store.engine := .checkpoint u (s.store.writePos + 1) gen why bytes (s.now.addMs 3) }

/-- Whether the program in progress is a slot program that has run its 3 ms (R193). -/
def ckptDone (s : State) : Bool :=
  live s && match s.store.engine with
    | .checkpoint _ _ _ _ _ e => reached e s.now
    | _ => false

/-- A slot program completes (R193). -/
def ckptComplete (s : State) : State :=
  match s.store.engine with
  | .checkpoint _ slot gen _ bytes _ =>
    { s with
      store.slots := s.store.slots.set slot (.bytes bytes)
      store.highestGen := gen
      store.writePos := slot
      store.engine := .idle }.countStore (fun c => { c with written := c.written + 1 })
  | _ => s

/-- An image program starts: it captures the configuration in force (R196). -/
def imageStart (r : Request) (s : State) : State :=
  let b := imageBytes s.cfg s.cls.active
  { s with store.engine := .image b r (s.now.addMs (3 * pagesOf b.length)), store.waiting := none }

/-- Whether the waiting store starts: the slot in flight has completed (R194). -/
def imageStartDue (s : State) : Bool := live s && s.store.engine == .idle && s.store.waiting.isSome

/-- The waiting store starts (R194). -/
def imageStartWaiting (s : State) : State :=
  match s.store.waiting with
  | some r => imageStart r s
  | none => s

/-- Whether the image program has run its time (R196). -/
def imageDone (s : State) : Bool :=
  live s && match s.store.engine with
    | .image _ _ e => reached e s.now
    | _ => false

/-- An image program completes (R196): the reply carries the pages. -/
def imageComplete (s : State) : State :=
  match s.store.engine with
  | .image b r _ =>
    let s := { s with store.image := .bytes b, store.configInvalid := false, store.engine := .idle }.countStore
      (fun c => { c with configStored := c.configStored + 1 })
    reply r ⟨.ok, be 2 (pagesOf b.length)⟩ s
  | _ => s

/-- STORE_CONFIG (R194): no reply at its taking. -/
def opStoreConfig (r : Request) (s : State) : Served :=
  match s.store.engine, s.store.waiting with
  | .idle, none => (imageStart r s, none)
  | .checkpoint _ _ _ _ _ _, none => ({ s with store.waiting := some r }, none)
  | .idle, some _ => refuse .busy s
  | .checkpoint _ _ _ _ _ _, some _ => refuse .busy s
  | .image _ _ _, _ => refuse .busy s

/-- CHECKPOINT_NOW (R199). -/
def opCheckpointNow (_r : Request) (s : State) : Served := (requestAllCheckpoints .request s, some ⟨.ok, []⟩)

/-! ### Programs interrupted (R195) -/

/-- The engine stops, the slot or pages in flight are left torn, and a store waiting or in progress is lost. -/
def abandonProgram (s : State) : State :=
  match s.store.engine with
  | .idle => { s with store.waiting := none }
  | .checkpoint _ slot _ _ _ _ =>
    { s with store.slots := s.store.slots.set slot .torn, store.engine := .idle, store.waiting := none }
  | .image _ _ _ => { s with store.image := .torn, store.engine := .idle, store.waiting := none }

/-- At the reset line or RESTART: the unit of an abandoned checkpoint is pending again at the head of the order with
the reason of its record; its count waits for the clearing of the counters. -/
def abandonAndRestore (s : State) : State :=
  match s.store.engine with
  | .checkpoint u _ _ why _ _ =>
    let s := abandonProgram s
    { s with store.flags := s.store.flags.set u (some why), store.order := u :: s.store.order.filter (· != u),
             store.abandoned := true }
  | _ => abandonProgram s

/-- At BACKUP entry: every request is discarded, uncounted (R192, R195). -/
def abandonAndDiscard (s : State) : State :=
  { abandonProgram s with store.flags := Vector.replicate 6 none, store.order := [] }

/-! ### Meanings -/

/-- CHECKPOINT_PROGRAM_START (R193). -/
def execCheckpointProgramStart (s : State) : Host.Outcome State Fault Refusal :=
  .next (if ckptStartDue s then ckptStart s else s)

/-- CHECKPOINT_PROGRAM_COMPLETE (R193). -/
def execCheckpointProgramComplete (s : State) : Host.Outcome State Fault Refusal :=
  .next (if ckptDone s then ckptComplete s else s)

/-- IMAGE_PROGRAM_START (R194, R196). -/
def execImageProgramStart (s : State) : Host.Outcome State Fault Refusal :=
  .next (if imageStartDue s then imageStartWaiting s else s)

/-- IMAGE_PROGRAM_COMPLETE (R196). -/
def execImageProgramComplete (s : State) : Host.Outcome State Fault Refusal :=
  .next (if imageDone s then imageComplete s else s)

/-- STORE_CONFIG (R194). -/
def execStoreConfig (head : ReqHead) (body : List Byte) (s : State) : Host.Outcome State Fault Refusal :=
  .next (command 0x19 .engineer opStoreConfig head body s)

/-- CHECKPOINT_NOW (R199). -/
def execCheckpointNow (head : ReqHead) (body : List Byte) (s : State) : Host.Outcome State Fault Refusal :=
  .next (command 0x18 .engineer opCheckpointNow head body s)

end Sys2Proof.Machine
end

