-- ==== Sys2Proof/Machine/Supply.lean ====
section
/-! DEFINITION. Machine/Supply.lean: supply states, BACKUP entry, the start sequences, the reset line, RESTART and the
commission line (R183 to R190, R198, R199, R202, R61). -/

namespace Sys2Proof.Machine

/-! ### The image load (R198) -/

/-- The configuration an image load applies: the stored image, or the defaults and empty banks (R62, R198). -/
def imageToLoad (st : Store) : Settings × Vector Entry 128 :=
  (validImage st).getD (Settings.default st.serial, Vector.replicate 128 Entry.empty)

/-- Load the configuration image (R198): settings, banks (R62), the lines brought into agreement (R170), the
calendar's start examination (R42). The holdover-limit event of R15 is measured afresh against the loaded limit
(log 14). -/
def imageLoad (s : State) : State :=
  let (c, bank) := imageToLoad s.store
  let bad := (validImage s.store).isNone
  let s := { s with
    cfg := c, store.configInvalid := bad
    cls.active := bank, cls.standby := bank, cls.hits := Vector.replicate 128 0 }
  let s := calendarStart (agreeAll s)
  { s with clock.limitTaken := ageAtLimit s s.cfg.clock.holdLimit }

/-! ### The main domain held and restarted (R190) -/

/-- The main domain held at the reset line, or ended by RESTART: a program in flight is abandoned, requests are lost,
the frame path is emptied, the clock's main-domain items are reset, the lines are silenced. -/
def mainHold (s : State) : State :=
  let s := emptyPath (abandonAndRestore s)
  cutLines { s with clock := s.clock.hold, resp := { Responder.cold with noticeNo := s.resp.noticeNo } }

/-- The main-domain counters at 0, with an abandoned program counted after the clearing (R190, R195). -/
def clearCounters (s : State) : State :=
  { s with cnt := { store := { abandoned := if s.store.abandoned then 1 else 0 } }, store.abandoned := false }

/-- The frame path, the classifier and the responder as at a start (R60, R78, R203). -/
def startPath (s : State) : State :=
  { emptyPath s with cls.pointer := .u, cls.fault := none, resp := Responder.cold }

/-- The main domain reinitialised (R190, steps 1 to 5). -/
def mainRestart (s : State) : State := clearCounters (startLines (startPath (imageLoad s)))

/-! ### BACKUP entry and the loss of the retained domain (R183, R184, R186) -/

/-- The main domain lost: its items stand at the values of an unprogrammed part until a start sets them (log 9). -/
def loseMain (s : State) : State :=
  let s := abandonAndDiscard s
  { emptyPath s with
    cal := Calendar.cold, cls := Classifier.cold, resp := Responder.cold, cfg := Settings.default s.store.serial
    cnt := {}, store.configInvalid := true, store.abandoned := false, supply.halted := none }

/-- The retained domain lost: every item together (R184); its items stand at cold values until a cold start sets them
(log 9). -/
def loseRetained (s : State) : State :=
  let blank := State.unpowered s.store.serial
  { s with
    clock := blank.clock, recorder := blank.recorder, ann := blank.ann, tally := blank.tally, shift := blank.shift
    lines := blank.lines, store.highestGen := 0, store.writePos := 1023
    supply.retention := false, supply.backupEntry := none }

/-- The entry changes of the retained blocks (R186): clock, tally unit, annunciation unit, shift unit, lines. -/
def retainedEntry (s : State) : State :=
  let s := { s with
    supply.backupEntry := some s.clock.m
    clock := s.clock.backupEntry
    tally := s.tally.map (fun u => u.backupEntry s.clock.m) }
  let s := groupsBackup s
  cutLines { s with shift := s.shift.backupEntry }

/-- VBACKUP judged at once at BACKUP entry (R183). -/
def judgeBackup (mv : Nat) (s : State) : State :=
  let s := if mv < 2200 then loseRetained s else s
  if mv < 1800 then { s with supply.state := .off } else s

/-- BACKUP entry (R186): one event, in RUN only (R183). -/
def backupEntry (mv : Nat) (s : State) : State :=
  if runs s then judgeBackup mv (loseMain (retainedEntry { s with supply.state := .backup })) else s

/-! ### Cold start (R188) -/

/-- Steps 1 to 7, which touch the retained domain and the writer only. -/
def coldRetained (s : State) : State :=
  let sc := scanSlots s.store.slots
  let blank := State.unpowered s.store.serial
  let s := { s with
    clock := blank.clock, recorder := blank.recorder, ann := blank.ann, lines := blank.lines
    tally := sc.best.map UnitRec.restored
    store.highestGen := sc.highest, store.writePos := sc.pos, store.flags := blank.store.flags, store.order := []
    store.engine := .idle, store.waiting := none, store.abandoned := false
    supply.state := .run, supply.retention := true, supply.backupEntry := none }
  { s with shift := ShiftUnit.cold (runSnapshot s) }

/-- Steps 8 to 10: the image with the crew label of shift 1, the frame path, the counters and the POWER notice. -/
def coldMain (s : State) : State :=
  let sc := scanSlots s.store.slots
  let s := startPath (imageLoad s)
  let s := { s with
    shift.openRec.crew := s.cfg.initialCrew
    cnt := { store := { invalidSlots := BitVec.ofNat 32 sc.invalid } }
    supply.halted := none }
  notice 0x86 (powerColdBody (sc.best.toList.map (fun r => r.map Ckpt.gen)) sc.invalid s.store.configInvalid
    s.clock.state.code (qualityClass s).val) s

/-- Whether the return of VMAIN is a cold start (R183): OFF, or BACKUP with the flag clear. -/
def coldStartDue (s : State) : Bool :=
  s.supply.state == .off || (s.supply.state == .backup && !s.supply.retention)

/-- A cold start (R188). Under an asserted reset line the sequence halts before its image load (R189). -/
def coldStart (s : State) : State :=
  if coldStartDue s then
    let s := coldRetained s
    if s.supply.resetLine then { s with supply.halted := some .cold } else coldMain s
  else s

/-! ### Warm start (R189) -/

/-- The body of the POWER notice WARM (R199): cause 1 and the outage duration in milliseconds. -/
def powerWarmBody (s : State) : List Byte :=
  be 1 1 ++ be 6 (s.clock.m - s.supply.backupEntry.getD s.clock.m).toNat ++ encSet s.store.configInvalid
    ++ be 1 s.clock.state.code ++ be 1 (qualityClass s).val

/-- The image load of step 1 and steps 2 to 6. -/
def warmMain (s : State) : State :=
  let s := startPath (imageLoad s)
  let s := restartHandoverTimer (requestAllCheckpoints .warm s)
  let s := clearCounters (startLines { s with supply.halted := none })
  let s := notice 0x86 (powerWarmBody s) s
  { s with supply.backupEntry := none }

/-- Whether the return of VMAIN is a warm start (R183). -/
def warmStartDue (s : State) : Bool := s.supply.state == .backup && s.supply.retention

/-- A warm start (R189). Under an asserted reset line the sequence halts before its image load. -/
def warmStart (s : State) : State :=
  if warmStartDue s then
    let s := { s with supply.state := .run, clock := s.clock.warmStart }
    if s.supply.resetLine then { s with supply.halted := some .warm } else warmMain s
  else s

/-! ### The lines RESET and COMMISSION (R190, R202) -/

/-- The reset line is asserted (R190); outside RUN only its level is kept. -/
def resetAsserted (s : State) : State :=
  if s.supply.resetLine then s
  else
    let s' := { s with supply.resetLine := true }
    if runs s then mainHold s' else s'

/-- The reset line is released (R190): a halted start goes on (R189), else the main domain is reinitialised. -/
def resetReleased (s : State) : State :=
  if s.supply.resetLine then
    let s' := { s with supply.resetLine := false }
    if runs s then
      match s.supply.halted with
      | some .cold => coldMain s'
      | some .warm => warmMain s'
      | none => mainRestart s'
    else s'
  else s

/-! ### RESTART (R61, R203) -/

/-- RESTART (R61): its reply is marked, so that its transmission, or its drop at a full queue, lets it take effect. -/
def opRestart (r : Request) (s : State) : Served :=
  let room := hasRoom s r.head.port .notice
  let s' := place r.head.port .notice ⟨replyFrame r ⟨.ok, []⟩ s, true⟩ s
  ({ s' with resp.state := .restartPending, resp.inProgress := some r, resp.restartDue := !room }, none)

/-- Whether RESTART takes effect (R61, R203). -/
def restartDue (s : State) : Bool := live s && s.resp.state == .restartPending && s.resp.restartDue

/-- RESTART takes effect (R61, R190): as the reset line, without the interval in which the domain is held. -/
def restartNow (s : State) : State := mainRestart (mainHold s)

/-! ### Meanings -/

/-- BACKUP_ENTRY with VBACKUP at `vbackup` millivolts (R183, R186). -/
def execBackupEntry (vbackup : Nat) (s : State) : Host.Outcome State Fault Refusal := .next (backupEntry vbackup s)

/-- RETENTION_VALID_CLEARED (R184). -/
def execRetentionValidCleared (s : State) : Host.Outcome State Fault Refusal :=
  .next (if s.supply.state = .backup then loseRetained s else s)

/-- SUPPLY_OFF (R183): nothing is kept but the nonvolatile store. -/
def execSupplyOff (s : State) : Host.Outcome State Fault Refusal :=
  .next (if s.supply.state = .backup then { loseRetained s with supply.state := .off } else s)

/-- COLD_START (R188). -/
def execColdStart (s : State) : Host.Outcome State Fault Refusal := .next (coldStart s)

/-- WARM_START (R189). -/
def execWarmStart (s : State) : Host.Outcome State Fault Refusal := .next (warmStart s)

/-- RESET_ASSERTED (R190). -/
def execResetAsserted (s : State) : Host.Outcome State Fault Refusal := .next (resetAsserted s)

/-- RESET_RELEASED (R190). -/
def execResetReleased (s : State) : Host.Outcome State Fault Refusal := .next (resetReleased s)

/-- COMMISSION_CHANGE (R202). -/
def execCommissionChange (asserted : Bool) (s : State) : Host.Outcome State Fault Refusal :=
  .next { s with supply.commission := asserted }

/-- RESTART (R61, R203). -/
def execRestart (head : ReqHead) (body : List Byte) (s : State) : Host.Outcome State Fault Refusal :=
  .next (command 0x1A .engineer opRestart head body s)

/-- RESTART_TAKES_EFFECT (R61). -/
def execRestartTakesEffect (s : State) : Host.Outcome State Fault Refusal :=
  .next (if restartDue s then restartNow s else s)

end Sys2Proof.Machine
end

