-- ==== Sys2Proof/Machine/Views.lean ====
section
/-! DEFINITION. Machine/Views.lean: the reading requests (R103, R118, R140, R162, R163, R180, R205 to R207). Each
changes nothing but, for READ_COUNTERS with its clear option, the counters it read. -/

namespace Sys2Proof.Machine

/-! ### READ_CLOCK (R205) -/

/-- The local time fields in the order of R27. -/
def LocalTime.encode (l : LocalTime) : List Byte :=
  be 2 l.year ++ be 1 l.month ++ be 1 l.day ++ be 1 l.hour ++ be 1 l.minute ++ be 1 l.second ++ be 1 l.weekday

/-- The origin of a held label: BEACON 0, MANUAL 1. -/
def HeldLabel.origin : HeldLabel → Nat
  | .beacon _ _ => 0
  | .manual _ => 1

/-- The clock and calendar at one instant. The holdover age is carried in whole milliseconds, the rest of a millisecond
cut off (log 28). -/
def clockView (s : State) : List Byte :=
  be 4 s.clock.sec.toNat ++ be 4 s.clock.ns ++ be 1 s.clock.state.code ++ be 1 (qualityClass s).val
    ++ beInt 4 s.clock.trim ++ beInt 4 s.clock.integral ++ be 6 (holdoverAge s / 1000000) ++ be 6 s.clock.m.toNat
    ++ (localTime s.cfg.cal s.clock.sec).encode ++ encSet s.cal.flag
    ++ encOpt 1 (s.clock.held.map (fun h => be 1 h.origin))

/-- READ_CLOCK (R205). -/
def opReadClock (_r : Request) (s : State) : Served := (s, some ⟨.ok, clockView s⟩)

/-! ### READ_STATUS (R206) -/

/-- The status items in the order of R206. -/
def statusView (s : State) : List Byte :=
  be 1 s.supply.state.code ++ encSet s.supply.retention ++ encSet s.store.configInvalid ++ encYes (exhausted s)
    ++ encYes s.supply.commission ++ encYes s.cfg.net.mgmtU ++ encYes s.cls.fault.isSome
    ++ be 1 s.shift.state.code ++ be 1 s.store.engine.code ++ be 1 s.store.order.length
    ++ encYes s.store.waiting.isSome

/-- READ_STATUS (R206). -/
def opReadStatus (_r : Request) (s : State) : Served := (s, some ⟨.ok, statusView s⟩)

/-! ### READ_COUNTERS (R207) -/

def ClockCnt.list (c : ClockCnt) : List Count :=
  [c.markerAccepted, c.markerGlitch, c.beaconStale, c.labelMismatch, c.relabel, c.step, c.manualSet, c.rangeWrap,
   c.holdoverEntry, c.holdoverLimit]

def CalCnt.list (c : CalCnt) : List Count :=
  [c.seasonSwitch, c.dueFired, c.warningFired, c.scheduleSkip, c.warningSkip]

/-- The counters of port S, which has no U_MGMT_REFUSED. -/
def PortCnt.listS (c : PortCnt) : List Count :=
  [c.rxGood, c.rxFcs, c.rxLength, c.ingressFull, c.mgmtTaken, c.consumed, c.dropUrgent, c.dropNotice, c.dropBulk,
   c.txFrames, c.stampShort]

/-- The counters of port U, U_MGMT_REFUSED after MGMT_TAKEN. -/
def PortCnt.listU (c : PortCnt) : List Count :=
  [c.rxGood, c.rxFcs, c.rxLength, c.ingressFull, c.mgmtTaken, c.mgmtRefused, c.consumed, c.dropUrgent, c.dropNotice,
   c.dropBulk, c.txFrames, c.stampShort]

def ClsCnt.list (c : ClsCnt) : List Count :=
  [c.noMatchU, c.noMatchS, c.chainLimit, c.pickOutside, c.unitUnmapped, c.handoverMalformed]

/-- The recorder's eight counters, then SRC_REPEAT 0..63 and SRC_STALE 0..63. -/
def recorderList (s : State) : List Count :=
  let c := s.cnt.recorder
  [c.records, c.repeats, c.stale, c.restart, c.wrap, c.overwrite, c.lost, c.fallback]
    ++ s.recorder.slots.toList.map SourceSlot.repeats ++ s.recorder.slots.toList.map SourceSlot.stales

def AnnCnt.list (c : AnnCnt) : List Count := [c.masked, c.afterDecision, c.earlier, c.decided, c.acked, c.reset]

def TallyCnt.list (c : TallyCnt) : List Count :=
  [c.reports, c.changes, c.same, c.stale, c.stopsTaken, c.stopIdle, c.hourly, c.saturated]

def ShiftCnt.list (c : ShiftCnt) : List Count :=
  [c.completed, c.forced, c.held, c.acceptUnoffered, c.crewMisfit, c.declined, c.withdrawn, c.lapsed, c.overdue]

def LineCnt.list (c : LineCnt) : List Count := c.pulses.toList ++ [c.markMissed, c.dialSet, c.realign, c.pulseCut]

def StoreCnt.list (c : StoreCnt) : List Count :=
  [c.written, c.coalesced, c.abandoned, c.invalidSlots, c.configStored]

def RespCnt.list (c : RespCnt) : List Count := [c.taken, c.refused, c.authority, c.notices]

/-- The counters of a block by its selector, in order; none outside 0..11. -/
def counterBlock (s : State) : Nat → Option (List Count)
  | 0 => some s.cnt.clock.list
  | 1 => some s.cnt.cal.list
  | 2 => some s.cnt.portU.listU
  | 3 => some s.cnt.portS.listS
  | 4 => some s.cnt.cls.list
  | 5 => some (recorderList s)
  | 6 => some s.cnt.ann.list
  | 7 => some s.cnt.tally.list
  | 8 => some s.cnt.shift.list
  | 9 => some s.cnt.lines.list
  | 10 => some s.cnt.store.list
  | 11 => some s.cnt.resp.list
  | _ => none

/-- A block's counters set to 0, the per-source counts with the recorder's. -/
def clearBlock (s : State) : Nat → State
  | 0 => { s with cnt.clock := {} }
  | 1 => { s with cnt.cal := {} }
  | 2 => { s with cnt.portU := {} }
  | 3 => { s with cnt.portS := {} }
  | 4 => { s with cnt.cls := {} }
  | 5 => { s with cnt.recorder := {}, recorder.slots := s.recorder.slots.map (fun x => { x with repeats := 0, stales := 0 }) }
  | 6 => { s with cnt.ann := {} }
  | 7 => { s with cnt.tally := {} }
  | 8 => { s with cnt.shift := {} }
  | 9 => { s with cnt.lines := {} }
  | 10 => { s with cnt.store := {} }
  | 11 => { s with cnt.resp := {} }
  | _ => s

/-- READ_COUNTERS (R207): body selector and clear option. -/
def opReadCounters (r : Request) (s : State) : Served :=
  match rd 2 r.body with
  | none => refuse .badRequest s
  | some (n, _) =>
    match counterBlock s (n / 256), secondIsTrue (n % 256) with
    | some l, some clear =>
      (if clear then clearBlock s (n / 256) else s,
        some ⟨.ok, be 1 (n / 256) ++ be 2 l.length ++ l.flatMap (fun c => be 4 c.toNat)⟩)
    | _, _ => refuse .badValue s

/-! ### READ_TRIPS (R103, R212) -/

/-- The records from a start number on, up to a count (R103). -/
def tripsFrom (q n : Nat) (l : List TripRecord) : List TripRecord := (l.dropWhile (fun r => !seqFrom q r)).take n

/-- GAP: at least one record is returned and the first has another number (R103). -/
def tripsGap (q : Nat) : List TripRecord → Bool
  | [] => false
  | r :: _ => r.seq.toNat != q

/-- READ_TRIPS (R103): body start number and count. -/
def opReadTrips (r : Request) (s : State) : Served :=
  match rd 4 r.body with
  | none => refuse .badRequest s
  | some (q, l) =>
    match rd 1 l with
    | none => refuse .badRequest s
    | some (n, _) =>
      let c := held 1 8 n
      let rs := tripsFrom q c.1 s.recorder.list
      (s, some ⟨okOr c.2, encYes (tripsGap q rs) ++ be 4 s.recorder.nextSeq.toNat ++ be 2 s.recorder.list.length
        ++ be 1 rs.length ++ rs.flatMap TripRecord.encode⟩)

/-! ### POLL_GROUPS (R118) -/

/-- One group's items. -/
def groupView (s : State) (g : Fin 16) : List Byte :=
  let x := s.ann[g]
  be 1 x.state.code ++ encSet (maskedGroup s g) ++ be 1 s.cfg.windows[g] ++ encOpt 4 (x.ref.map (fun q => be 4 q.toNat))
    ++ be 2 x.trips ++ encSet x.lost

/-- POLL_GROUPS (R118). -/
def opPollGroups (_r : Request) (s : State) : Served :=
  (s, some ⟨.ok, allGroups.flatMap (groupView s) ++ encOpt 1 ((highestAnnounced s).map (be 1))⟩)

/-! ### READ_TALLY (R140) -/

/-- Whether a run time is reported saturated: its stored flag, or its value at the limit. -/
def UnitRec.reportedSaturated (u : UnitRec) (m : Elapsed) (k : Fin 6) : Bool :=
  u.saturated[k] || u.value m k == Config.runLimit

/-- The total run of a selection in milliseconds, not held at the limit of one run time. -/
def totalRun (u : UnitRec) (m : Elapsed) (sel : BitVec 6) : Nat :=
  (([0, 1, 2, 3, 4, 5] : List (Fin 6)).map (fun k => if sel.getLsbD k.val then u.value m k else 0)).sum

/-- The items of READ_TALLY in the order of R140. -/
def tallyView (s : State) (i : Fin 6) : List Byte :=
  let u := s.tally[i]
  let m := s.clock.m
  be 1 u.mode.code ++ encSet u.test ++ encOpt 1 (u.preOutage.map (fun p => be 1 p.code))
    ++ encOpt 6 (u.hold.map (fun d => be 6 (remaining d m)))
    ++ ([0, 1, 2, 3, 4] : List (Fin 5)).flatMap (fun k =>
        encMs 4 (u.value m k.castSucc) ++ encSet (u.reportedSaturated m k.castSucc) ++ be 4 u.starts[k] ++ be 4 u.stops[k])
    ++ encMs 4 (u.value m 5) ++ encSet (u.reportedSaturated m 5) ++ be 4 u.trips
    ++ encMs 6 (totalRun u m s.cfg.totalSel[i]) ++ be 1 s.cfg.totalSel[i].toNat ++ be 6 m.toNat

/-- READ_TALLY (R140): body unit number. -/
def opReadTally (r : Request) (s : State) : Served :=
  match rd 1 r.body with
  | none => refuse .badRequest s
  | some (n, _) =>
    match unitOfNo n with
    | none => refuse .badValue s
    | some i => (s, some ⟨.ok, tallyView s i⟩)

/-! ### READ_SHIFT, READ_SHIFTS (R162, R163) -/

/-- The fields of the open record in the order of R145; UNSCHEDULED is an optional item that is absent (log 12). -/
def OpenShift.encode (o : OpenShift) : List Byte :=
  be 4 o.number ++ be 1 o.crew ++ encStamp o.opened ++ be 6 o.openedElapsed.toNat
    ++ encOpt 2 (o.incoming.map (fun x => be 2 x.toNat)) ++ encOpt 1 (o.entry.map (fun e => be 1 e.val))
    ++ encSet o.overdue ++ be 2 o.inherited.toNat ++ be 4 o.trips ++ be 4 o.late ++ be 2 o.firstOut.toNat
    ++ o.snaps.toList.flatMap (fun v => v.toList.flatMap (beInt 6))

/-- The run seconds so far of one unit and run time (R162). -/
def runSoFar (s : State) (i k : Fin 6) : Nat :=
  (((s.tally[i].value s.clock.m k : Int) - s.shift.openRec.snaps[i][k]).tdiv 1000).toNat

/-- The items of READ_SHIFT in the order of R162; an unscheduled handover's window entry is an optional item that is
absent (log 12). -/
def shiftView (s : State) : List Byte :=
  let u := s.shift
  u.openRec.encode
    ++ allUnits.flatMap (fun i => allUnits.flatMap (fun k => be 4 (runSoFar s i k)))
    ++ be 6 (s.clock.m - u.openRec.openedElapsed).toNat ++ be 1 u.state.code
    ++ encOpt 1 (u.expected.map (be 1)) ++ encOpt 1 (u.window.map (fun e => be 1 e.val)) ++ encSet u.overdue
    ++ encOpt 2 (u.warned.map (fun w => be 1 w.1.val ++ be 1 w.2))
    ++ encOpt 2 (u.offer.map (fun x => be 2 x.toNat))
    ++ encOpt 12 (u.accept.map (fun a => be 1 a.crew ++ be 2 a.operator.toNat ++ encStamp a.stamp))
    ++ encOpt 6 (u.overdueAt.map (fun d => be 6 (remaining d s.clock.m)))
    ++ encOpt 6 (u.lapseAt.map (fun d => be 6 (remaining d s.clock.m)))

/-- READ_SHIFT (R162). -/
def opReadShift (_r : Request) (s : State) : Served := (s, some ⟨.ok, shiftView s⟩)

/-- The closed records from a start number on, up to a count (R163). -/
def shiftsFrom (q n : Nat) (l : List ClosedShift) : List ClosedShift := (l.dropWhile (fun c => c.base.number < q)).take n

/-- GAP of READ_SHIFTS (R163). -/
def shiftsGap (q : Nat) : List ClosedShift → Bool
  | [] => false
  | c :: _ => c.base.number != q

/-- READ_SHIFTS (R163): body start number and count. -/
def opReadShifts (r : Request) (s : State) : Served :=
  match rd 4 r.body with
  | none => refuse .badRequest s
  | some (q, l) =>
    match rd 1 l with
    | none => refuse .badRequest s
    | some (n, _) =>
      let c := held 1 4 n
      let rs := shiftsFrom q c.1 s.shift.list
      (s, some ⟨okOr c.2, encYes (shiftsGap q rs) ++ be 4 s.shift.openRec.number ++ be 1 s.shift.list.length
        ++ be 1 rs.length ++ rs.flatMap ClosedShift.encode⟩)

/-! ### READ_LINES (R180) -/

/-- REST 0, DRIVE 1, GAP 2 (R171). -/
def Pulse.code : Pulse → Nat
  | .rest => 0
  | .drive _ _ => 1
  | .gap _ => 2

/-- The wire driven. -/
def Pulse.wire : Pulse → Option Wire
  | .drive w _ => some w
  | .rest => none
  | .gap _ => none

/-- The end of a drive or gap. -/
def Pulse.ends : Pulse → Option Elapsed
  | .drive _ e => some e
  | .gap e => some e
  | .rest => none

/-- Target, d and the condition of the dial, on time 0, behind 1, ahead 2 (R173, R180); none but for a slave line with
a known dial while the clock is not UNSET. -/
def dialView (s : State) (i : Fin 8) : Option (List Byte) :=
  let c := s.cfg.lines[i]
  let l := s.lines[i]
  if c.function.cycle.isSome && s.clock.state != .unset then
    match l.cycle, l.target with
    | some cy, some t =>
      let d := (t + cy.steps - l.pos) % cy.steps
      some (be 2 t ++ be 2 d ++ be 1 (if d = 0 then 0 else if d ≤ cy.steps - c.holdSteps then 1 else 2))
    | _, _ => none
  else none

/-- The meter selection as carried: unit, modes, test. -/
def Selection.encode (x : Selection) : List Byte := be 1 (unitNo x.unit) ++ be 1 x.modes.toNat ++ encSet x.test

/-- One line's items in the order of R180. -/
def lineView (s : State) (i : Fin 8) : List Byte :=
  let c := s.cfg.lines[i]
  let l := s.lines[i]
  ([0, 1, 2, 3, 4, 5, 6] : List (Fin 7)).flatMap c.field ++ encYes (!l.pending.isEmpty)
    ++ be 1 l.pulse.code ++ encOpt 1 (l.pulse.wire.map (fun w => be 1 w.code))
    ++ encOpt 6 (l.pulse.ends.map (fun e => be 6 (remaining e s.clock.m)))
    ++ be 1 (cycleCode l.cycle) ++ encOpt 2 (l.cycle.map (fun _ => be 2 l.pos)) ++ be 1 l.pol.code
    ++ encOpt 5 (dialView s i) ++ be 6 l.mark ++ encOpt 3 (l.basis.map Selection.encode)
    ++ encOpt 6 (if c.function = .hourMeter then some (be 6 (tallySecs s c.selection)) else none)

/-- READ_LINES (R180). -/
def opReadLines (_r : Request) (s : State) : Served := (s, some ⟨.ok, allLines.flatMap (lineView s)⟩)

/-! ### Meanings -/

/-- READ_CLOCK (R205). -/
def execReadClock (head : ReqHead) (body : List Byte) (s : State) : Host.Outcome State Fault Refusal :=
  .next (command 0x01 .operator opReadClock head body s)

/-- READ_STATUS (R206). -/
def execReadStatus (head : ReqHead) (body : List Byte) (s : State) : Host.Outcome State Fault Refusal :=
  .next (command 0x02 .operator opReadStatus head body s)

/-- READ_COUNTERS (R207). -/
def execReadCounters (head : ReqHead) (body : List Byte) (s : State) : Host.Outcome State Fault Refusal :=
  .next (command 0x03 .operator opReadCounters head body s)

/-- READ_TRIPS (R103). -/
def execReadTrips (head : ReqHead) (body : List Byte) (s : State) : Host.Outcome State Fault Refusal :=
  .next (command 0x06 .operator opReadTrips head body s)

/-- POLL_GROUPS (R118). -/
def execPollGroups (head : ReqHead) (body : List Byte) (s : State) : Host.Outcome State Fault Refusal :=
  .next (command 0x0A .operator opPollGroups head body s)

/-- READ_TALLY (R140). -/
def execReadTally (head : ReqHead) (body : List Byte) (s : State) : Host.Outcome State Fault Refusal :=
  .next (command 0x0B .operator opReadTally head body s)

/-- READ_SHIFT (R162). -/
def execReadShift (head : ReqHead) (body : List Byte) (s : State) : Host.Outcome State Fault Refusal :=
  .next (command 0x0C .operator opReadShift head body s)

/-- READ_SHIFTS (R163). -/
def execReadShifts (head : ReqHead) (body : List Byte) (s : State) : Host.Outcome State Fault Refusal :=
  .next (command 0x0D .operator opReadShifts head body s)

/-- READ_LINES (R180). -/
def execReadLines (head : ReqHead) (body : List Byte) (s : State) : Host.Outcome State Fault Refusal :=
  .next (command 0x0E .operator opReadLines head body s)

end Sys2Proof.Machine
end

