-- ==== Sys2Proof/Machine/Dispatch.lean ====
section
/-! DEFINITION. Machine/Dispatch.lean: one arm per command, each one call of its meaning. -/

namespace Sys2Proof.Machine

/-- The effect of a command on everything but the queue of commands. -/
def exec (i : Instr) (s : State) : Host.Outcome State Fault Refusal :=
  match i with
  | .secondRollover => Sys2Proof.Machine.execSecondRollover s
  | .rangeWrap => Sys2Proof.Machine.execRangeWrap s
  | .markerEdge => Sys2Proof.Machine.execMarkerEdge s
  | .beaconStale => Sys2Proof.Machine.execBeaconStale s
  | .silenceExpiry => Sys2Proof.Machine.execSilenceExpiry s
  | .holdoverLimit => Sys2Proof.Machine.execHoldoverLimit s
  | .frameStart port => Sys2Proof.Machine.execFrameStart port s
  | .frameReceived port bytes => Sys2Proof.Machine.execFrameReceived port bytes s
  | .frameTake => Sys2Proof.Machine.execFrameTake s
  | .classificationDone => Sys2Proof.Machine.execClassificationDone s
  | .transmissionStart port => Sys2Proof.Machine.execTransmissionStart port s
  | .transmissionComplete port => Sys2Proof.Machine.execTransmissionComplete port s
  | .tripHoldExpiry unit => Sys2Proof.Machine.execTripHoldExpiry unit s
  | .hourlyRequest unit => Sys2Proof.Machine.execHourlyRequest unit s
  | .settleDeadline group => Sys2Proof.Machine.execSettleDeadline group s
  | .overdueExpiry => Sys2Proof.Machine.execOverdueExpiry s
  | .offerLapse => Sys2Proof.Machine.execOfferLapse s
  | .driveEnd line => Sys2Proof.Machine.execDriveEnd line s
  | .gapEnd line => Sys2Proof.Machine.execGapEnd line s
  | .meterThreshold line => Sys2Proof.Machine.execMeterThreshold line s
  | .backupEntry vbackup => Sys2Proof.Machine.execBackupEntry vbackup s
  | .retentionValidCleared => Sys2Proof.Machine.execRetentionValidCleared s
  | .supplyOff => Sys2Proof.Machine.execSupplyOff s
  | .coldStart => Sys2Proof.Machine.execColdStart s
  | .warmStart => Sys2Proof.Machine.execWarmStart s
  | .resetAsserted => Sys2Proof.Machine.execResetAsserted s
  | .resetReleased => Sys2Proof.Machine.execResetReleased s
  | .commissionChange asserted => Sys2Proof.Machine.execCommissionChange asserted s
  | .checkpointProgramStart => Sys2Proof.Machine.execCheckpointProgramStart s
  | .checkpointProgramComplete => Sys2Proof.Machine.execCheckpointProgramComplete s
  | .imageProgramStart => Sys2Proof.Machine.execImageProgramStart s
  | .imageProgramComplete => Sys2Proof.Machine.execImageProgramComplete s
  | .commitBankActivated => Sys2Proof.Machine.execCommitBankActivated s
  | .restartTakesEffect => Sys2Proof.Machine.execRestartTakesEffect s
  | .readClock head body => Sys2Proof.Machine.execReadClock head body s
  | .readStatus head body => Sys2Proof.Machine.execReadStatus head body s
  | .readCounters head body => Sys2Proof.Machine.execReadCounters head body s
  | .readFault head body => Sys2Proof.Machine.execReadFault head body s
  | .clearFault head body => Sys2Proof.Machine.execClearFault head body s
  | .readTrips head body => Sys2Proof.Machine.execReadTrips head body s
  | .ackGroup head body => Sys2Proof.Machine.execAckGroup head body s
  | .ackNext head body => Sys2Proof.Machine.execAckNext head body s
  | .resetGroup head body => Sys2Proof.Machine.execResetGroup head body s
  | .pollGroups head body => Sys2Proof.Machine.execPollGroups head body s
  | .readTally head body => Sys2Proof.Machine.execReadTally head body s
  | .readShift head body => Sys2Proof.Machine.execReadShift head body s
  | .readShifts head body => Sys2Proof.Machine.execReadShifts head body s
  | .readLines head body => Sys2Proof.Machine.execReadLines head body s
  | .setDial head body => Sys2Proof.Machine.execSetDial head body s
  | .loadEntry head body => Sys2Proof.Machine.execLoadEntry head body s
  | .readEntry head body => Sys2Proof.Machine.execReadEntry head body s
  | .commitBank head body => Sys2Proof.Machine.execCommitBank head body s
  | .setParam head body => Sys2Proof.Machine.execSetParam head body s
  | .setMask head body => Sys2Proof.Machine.execSetMask head body s
  | .setTime head body => Sys2Proof.Machine.execSetTime head body s
  | .presetTally head body => Sys2Proof.Machine.execPresetTally head body s
  | .forceHandover head body => Sys2Proof.Machine.execForceHandover head body s
  | .checkpointNow head body => Sys2Proof.Machine.execCheckpointNow head body s
  | .storeConfig head body => Sys2Proof.Machine.execStoreConfig head body s
  | .restart head body => Sys2Proof.Machine.execRestart head body s

end Sys2Proof.Machine
end

