-- ==== Sys2Proof/Machine/Idle.lean ====
section
/-! DEFINITION. Machine/Idle.lean: what the part does while no command waits (log 1): one event that has fallen due,
or one tick of its oscillator. -/

namespace Sys2Proof.Machine

/-- A command when a condition holds. -/
def whenDue (b : Bool) (i : Instr) : List Instr := if b then [i] else []

/-- The request the responder takes next: the head of those handed, while READY (R203). -/
def nextRequest (s : State) : List Instr :=
  if live s && s.resp.state == .ready then (s.resp.handed.head?.bind Request.toInstr).toList else []

/-- The events that have fallen due and the steps the rules make at once. -/
def dueEvents (s : State) : List Instr :=
  whenDue (beaconStaleDue s) .beaconStale ++ whenDue (silenceDue s) .silenceExpiry
    ++ whenDue (holdoverLimitDue s) .holdoverLimit
    ++ allUnits.flatMap (fun u => whenDue (tripHoldDue u s) (.tripHoldExpiry u))
    ++ allUnits.flatMap (fun u => whenDue (hourlyDue u s) (.hourlyRequest u))
    ++ allGroups.flatMap (fun g => whenDue (settleDue g s) (.settleDeadline g))
    ++ whenDue (overdueDue s) .overdueExpiry ++ whenDue (lapseDue s) .offerLapse
    ++ allLines.flatMap (fun i => whenDue (driveEndDue i s) (.driveEnd i))
    ++ allLines.flatMap (fun i => whenDue (gapEndDue i s) (.gapEnd i))
    ++ allLines.flatMap (fun i => whenDue (meterDue i s) (.meterThreshold i))
    ++ whenDue (ckptDone s) .checkpointProgramComplete ++ whenDue (imageDone s) .imageProgramComplete
    ++ whenDue (ckptStartDue s) .checkpointProgramStart ++ whenDue (imageStartDue s) .imageProgramStart
    ++ whenDue (commitDue s) .commitBankActivated ++ whenDue (restartDue s) .restartTakesEffect
    ++ whenDue (takeDue s) .frameTake ++ whenDue (refusalDue s) .classificationDone
    ++ whenDue (txDone .u s) (.transmissionComplete .u) ++ whenDue (txDone .s s) (.transmissionComplete .s)
    ++ whenDue (txStartDue .u s) (.transmissionStart .u) ++ whenDue (txStartDue .s s) (.transmissionStart .s)
    ++ nextRequest s

/-- Run one of several events, chosen freely (log 3). -/
def runChosen (l : List Instr) (s : State) : Host.Outcome State Fault Refusal :=
  match l[Config.choice s.choices % l.length]? with
  | some i => exec i { s with choices := s.choices + 1 }
  | none => .next s

/-- Take one of the events that have fallen due, chosen freely where there are several (log 3), or none where none has. -/
def takeEvent (s : State) : Host.Outcome State Fault Refusal :=
  match dueEvents s with
  | [] => .next s
  | [i] => exec i s
  | i :: j :: l => runChosen (i :: j :: l) s

/-- Take due events one after another, `n` of them at most. -/
def takeEvents : Nat → State → Host.Outcome State Fault Refusal
  | 0, s => .next s
  | n + 1, s =>
    match takeEvent s with
    | .next t => takeEvents n t
    | .fault f => .fault f
    | .refused r => .refused r

/-- A tick whose reading carries, into a new second or past its range (R2). What the tick's elapsed time makes due falls
together with that, a gap end with the renewal of the target among it (R174), and either may be taken first: a free
number of those events is taken before the reading moves on (log 30), and what is left is due after the tick. -/
def carryStep (s : State) : Host.Outcome State Fault Refusal :=
  match takeEvents (Config.choice s.choices) { elapsedTick s with choices := s.choices + 1 } with
  | .next t => .next (takeReading (tickIncrement s) t)
  | .fault f => .fault f
  | .refused r => .refused r

/-- One tick of the oscillator (R1, R2, R4). Nothing ticks in OFF, or in BACKUP with the retained domain lost. -/
def tickStep (s : State) : Host.Outcome State Fault Refusal :=
  if ticks s then if tickCarries s then carryStep s else .next (tickState s)
  else .next s

/-- Whether a classification is in progress that may be done at any time (R48, log 4); where its frame is dropped by
R51 it is done at once, and `dueEvents` is not empty. -/
def classifying (s : State) : Bool := live s && s.cls.work.isSome

/-- A step on an empty queue: an event that is due; else a classification done or a tick, chosen freely (log 4); else a
tick. -/
def idleStep (s : State) : Host.Outcome State Fault Refusal :=
  match dueEvents s with
  | [] =>
    if classifying s then
      if Config.choice s.choices % 2 = 0 then exec .classificationDone { s with choices := s.choices + 1 }
      else tickStep { s with choices := s.choices + 1 }
    else tickStep s
  | _ :: _ => takeEvent s

end Sys2Proof.Machine
end

