-- ==== Sys2Proof/Safety.lean ====
section
/-! DEFINITION. Safety.lean: the conditions that hold of the part at every instant, block by block, in the terms the
statements use. -/

namespace Sys2Proof.Safety

open Sys2Proof.Machine

/-- The clock's ranges (01, table of items): N, the accumulator, T, I and the good count. -/
abbrev clockOk (s : State) : Prop :=
  s.clock.ns < 1000000000 ∧ s.clock.accNs < 1000000
    ∧ -150000 ≤ s.clock.trim ∧ s.clock.trim ≤ 150000
    ∧ -150000 ≤ s.clock.integral ∧ s.clock.integral ≤ 150000
    ∧ s.clock.good ≤ 4 ∧ (s.clock.state = .acquire → s.clock.good ≤ 3)

/-- The queues of one port hold no more than R47 and R53 give them. -/
abbrev portOk (x : PortPath) : Prop :=
  x.ingress.length ≤ 8 ∧ x.urgent.length ≤ 16 ∧ x.notice.length ≤ 16 ∧ x.bulk.length ≤ 64

/-- The queues of both ports. -/
abbrev queuesOk (s : State) : Prop := portOk s.portU ∧ portOk s.portS

/-- The trip list (R94, R97): at most 512 records, and two records of one source with one state number only when the
later is flagged as a restart; the next sequence number is 1 or above. -/
abbrev tripsOk (s : State) : Prop :=
  s.recorder.list.length ≤ 512 ∧ s.recorder.nextSeq ≠ 0
    ∧ s.recorder.list.Pairwise (fun x y => x.source = y.source → x.stateNo = y.stateNo → y.restart = true)

/-- The groups (06, table of items; R98): a deadline in SETTLING only, a reference in every state but QUIET, and the
record a group refers to is in the list. -/
abbrev groupsOk (s : State) : Prop :=
  ∀ g : Fin 16,
    (s.ann[g].deadline.isSome = true ↔ s.ann[g].state = .settling)
      ∧ (s.ann[g].ref.isSome = true ↔ s.ann[g].state ≠ .quiet)
      ∧ s.ann[g].ref.all (fun q => (findRecord q s.recorder.list).isSome) = true

/-- The units (R123, R131, R142): the test flag in running modes only, a trip hold in STANDSTILL only, a pre-outage
mode in UNKNOWN only. -/
abbrev unitsOk (s : State) : Prop :=
  ∀ u : Fin 6,
    (s.tally[u].test = true → s.tally[u].mode.running.isSome = true)
      ∧ (s.tally[u].hold.isSome = true → s.tally[u].mode = .standstill)
      ∧ (s.tally[u].preOutage.isSome = true → s.tally[u].mode = .unknown)

/-- The shifts (R146): at most 16 closed records in increasing number, and the open number one above the newest. -/
abbrev shiftsOk (s : State) : Prop :=
  s.shift.list.length ≤ 16
    ∧ (s.shift.list.map (fun c => c.base.number)).Pairwise (· < ·)
    ∧ s.shift.list.getLast?.all (fun c => c.base.number + 1 == s.shift.openRec.number) = true

/-- The handover in progress (R148, R153, R157): an offer stands in OFFERED and ACCEPT_HELD, an accept is held in
ACCEPT_HELD and only while a group is SETTLING, a lapse deadline stands in OFFERED only, and expected crew and window
entry stand together. -/
abbrev handoverOk (s : State) : Prop :=
  (s.shift.offer.isSome = true ↔ s.shift.state = .offered ∨ s.shift.state = .acceptHeld)
    ∧ (s.shift.accept.isSome = true ↔ s.shift.state = .acceptHeld)
    ∧ (s.shift.state = .acceptHeld → anySettling s = true)
    ∧ (s.shift.lapseAt.isSome = true → s.shift.state = .offered)
    ∧ (s.shift.expected.isSome = s.shift.window.isSome)
    ∧ (s.shift.state = .window → s.shift.expected.isSome = true)
    ∧ (s.shift.state = .onShift → s.shift.expected.isSome = false)

/-- The pulse lines (R170, R172, R178, R181, R182): at most 8 pending changes and those in DRIVE only, the mark a
multiple of 36, a target for slave lines only and none while the clock is UNSET, and a line at rest without a target
while the main domain is lost or held. -/
abbrev linesOk (s : State) : Prop :=
  ∀ i : Fin 8,
    s.lines[i].pending.length ≤ 8
      ∧ (s.lines[i].pulse.wire.isSome = false → s.lines[i].pending = [])
      ∧ s.lines[i].mark % 36 = 0
      ∧ (s.lines[i].target.isSome = true → s.cfg.lines[i].function.cycle.isSome = true ∧ s.clock.state ≠ .unset)
      ∧ (live s = false → s.lines[i].pulse = .rest ∧ s.lines[i].target = none)

/-- The generation and the slot of a slot program in progress follow the highest generation and the write position
(R193). -/
def engineFollows (st : Store) : Bool :=
  match st.engine with
  | .checkpoint _ slot gen _ _ _ => gen == st.highestGen + 1 && slot == st.writePos + 1
  | .idle => true
  | .image _ _ _ => true

/-- The checkpoint writer (R190, R192, R193): the order holds each pending unit once, and exactly the units whose flag
is set; a program or a waiting store only while the main domain runs. -/
abbrev writerOk (s : State) : Prop :=
  s.store.order.Nodup ∧ (∀ u : Fin 6, u ∈ s.store.order ↔ s.store.flags[u].isSome = true)
    ∧ engineFollows s.store = true
    ∧ (s.store.engine ≠ .idle ∨ s.store.waiting.isSome = true → live s = true)

/-- The supply monitor (R183, R184, R189): the retention-valid flag is set in RUN and clear in OFF; a start is halted
only in RUN under an asserted reset line. -/
abbrev supplyOk (s : State) : Prop :=
  (s.supply.state = .run → s.supply.retention = true) ∧ (s.supply.state = .off → s.supply.retention = false)
    ∧ (s.supply.halted.isSome = true → s.supply.state = .run ∧ s.supply.resetLine = true)

/-- Every run time within its limit (R129). -/
abbrev runsOk (s : State) : Prop := ∀ u k : Fin 6, s.tally[u].run[k] ≤ Config.runLimit

/-- All of them. -/
abbrev allOk (s : State) : Prop :=
  clockOk s ∧ queuesOk s ∧ tripsOk s ∧ groupsOk s ∧ unitsOk s ∧ shiftsOk s ∧ handoverOk s ∧ linesOk s ∧ writerOk s
    ∧ supplyOk s ∧ runsOk s

/-- An entry that R80 lets LOAD_ENTRY carry: at most 4 byte tests, at most 8 code-map pairs and none to UNKNOWN, an
embedded pick for origin EMBEDDED only. -/
def carriable (e : Entry) : Bool :=
  e.tests.length ≤ 4 && match e.action with
    | .unit p => p.codeMap.length ≤ 8 && p.codeMap.all (fun q => q.2 != .unknown)
    | .trip p => p.embedded.isSome == (p.origin == .embedded)
    | .pass => true
    | .drop => true
    | .stamp _ => true
    | .beacon _ => true
    | .handover _ _ _ => true

/-- A transition of the seasonal rule within the ranges of R29. -/
abbrev transitionOk (t : Transition) : Prop :=
  (1 ≤ t.month ∧ t.month ≤ 12) ∧ (1 ≤ t.week ∧ t.week ≤ 5) ∧ (1 ≤ t.weekday ∧ t.weekday ≤ 7) ∧ t.hour ≤ 23

/-- Settings within the ranges of R208 (R22, R29, R32, R33, R169): the settings that SET_PARAM can leave and an image
can carry. -/
abbrev settingsOk (c : Settings) : Prop :=
  (100000 ≤ c.clock.window ∧ c.clock.window ≤ 10000000) ∧ (1000 ≤ c.clock.step ∧ c.clock.step ≤ 500000000)
    ∧ (100 ≤ c.clock.lock ∧ c.clock.lock ≤ 100000) ∧ c.clock.ki ≤ 12 ∧ c.clock.kp ≤ 10
    ∧ (60 ≤ c.clock.holdLimit ∧ c.clock.holdLimit ≤ 86400)
    ∧ (-56 ≤ c.cal.offset ∧ c.cal.offset ≤ 56) ∧ c.cal.amount ≤ 8 ∧ c.cal.lead ≤ 120
    ∧ transitionOk c.cal.start ∧ transitionOk c.cal.stop
    ∧ (∀ i : Fin 8, c.cal.entries[i].hour.all (fun n => n ≤ 23) = true ∧ c.cal.entries[i].minute ≤ 59
        ∧ 1 ≤ c.cal.entries[i].crew ∧ c.cal.entries[i].crew ≤ 15)
    ∧ (1 ≤ c.plausibility ∧ c.plausibility ≤ 60000)
    ∧ (∀ g : Fin 16, c.windows[g] ≤ 100) ∧ (∀ u : Fin 6, c.holdLen[u] ≤ 60)
    ∧ (1 ≤ c.overdueLen ∧ c.overdueLen ≤ 240) ∧ (1 ≤ c.lapseLen ∧ c.lapseLen ≤ 60)
    ∧ (1 ≤ c.initialCrew ∧ c.initialCrew ≤ 15)
    ∧ (∀ i : Fin 8, (1 ≤ c.lines[i].width ∧ c.lines[i].width ≤ 2000)
        ∧ (200 ≤ c.lines[i].gap ∧ c.lines[i].gap ≤ 5000) ∧ c.lines[i].hold ≤ 360)
    ∧ c.net.station.getLsbD 40 = false

/-- A checkpoint record whose numbers fit the layout of R191. -/
abbrev ckptOk (c : Ckpt) : Prop :=
  (1 ≤ c.gen ∧ c.gen < 2 ^ 32) ∧ (∀ k : Fin 6, c.run[k] ≤ Config.runLimit)
    ∧ (∀ k : Fin 5, c.starts[k] < 2 ^ 32 ∧ c.stops[k] < 2 ^ 32) ∧ c.trips < 2 ^ 32

/-- The commands that may set run times (R129, R184): a preset, a cold start, and those at which the retained domain
may be lost; BACKUP_ENTRY loses it below 2.2 V (R183). -/
def maySetRunTimes : Instr → Bool
  | .presetTally _ _ => true
  | .coldStart => true
  | .retentionValidCleared => true
  | .supplyOff => true
  | .backupEntry mv => mv < 2200
  | _ => false

/-! ### What a command leaves as it was -/

/-- The parts of State a frame names: the blocks and, with `n` before the name, each block's event counters. -/
inductive Part where
  | clock
  | cal
  | portU
  | portS
  | cls
  | recorder
  | ann
  | tally
  | shift
  | lines
  | store
  | supply
  | resp
  | cfg
  | choices
  | pending
  | nClock
  | nCal
  | nPortU
  | nPortS
  | nCls
  | nRecorder
  | nAnn
  | nTally
  | nShift
  | nLines
  | nStore
  | nResp
  deriving DecidableEq, Repr

/-- From `s` to `t` nothing changed but the parts listed. -/
structure Only (l : List Part) (s t : State) : Prop where
  clock : Part.clock ∉ l → t.clock = s.clock
  cal : Part.cal ∉ l → t.cal = s.cal
  portU : Part.portU ∉ l → t.portU = s.portU
  portS : Part.portS ∉ l → t.portS = s.portS
  cls : Part.cls ∉ l → t.cls = s.cls
  recorder : Part.recorder ∉ l → t.recorder = s.recorder
  ann : Part.ann ∉ l → t.ann = s.ann
  tally : Part.tally ∉ l → t.tally = s.tally
  shift : Part.shift ∉ l → t.shift = s.shift
  lines : Part.lines ∉ l → t.lines = s.lines
  store : Part.store ∉ l → t.store = s.store
  supply : Part.supply ∉ l → t.supply = s.supply
  resp : Part.resp ∉ l → t.resp = s.resp
  cfg : Part.cfg ∉ l → t.cfg = s.cfg
  choices : Part.choices ∉ l → t.choices = s.choices
  pending : Part.pending ∉ l → t.pending = s.pending
  nClock : Part.nClock ∉ l → t.cnt.clock = s.cnt.clock
  nCal : Part.nCal ∉ l → t.cnt.cal = s.cnt.cal
  nPortU : Part.nPortU ∉ l → t.cnt.portU = s.cnt.portU
  nPortS : Part.nPortS ∉ l → t.cnt.portS = s.cnt.portS
  nCls : Part.nCls ∉ l → t.cnt.cls = s.cnt.cls
  nRecorder : Part.nRecorder ∉ l → t.cnt.recorder = s.cnt.recorder
  nAnn : Part.nAnn ∉ l → t.cnt.ann = s.cnt.ann
  nTally : Part.nTally ∉ l → t.cnt.tally = s.cnt.tally
  nShift : Part.nShift ∉ l → t.cnt.shift = s.cnt.shift
  nLines : Part.nLines ∉ l → t.cnt.lines = s.cnt.lines
  nStore : Part.nStore ∉ l → t.cnt.store = s.cnt.store
  nResp : Part.nResp ∉ l → t.cnt.resp = s.cnt.resp

/-! ### What a statement about a request supposes -/

/-- The responder takes a request at once: the main domain runs, the responder is READY and none waits (R203). -/
abbrev answering (s : State) : Prop := live s = true ∧ s.resp.state = .ready ∧ s.resp.handed = []

/-- The same for an engineer request: the commission line is asserted too (R202). -/
abbrev commissioned (s : State) : Prop := answering s ∧ s.supply.commission = true

/-- The state with REQ_TAKEN one higher (R203). -/
def taken (s : State) : State := { s with cnt.resp.taken := s.cnt.resp.taken + 1 }

/-- The state with REQ_REFUSED one higher (R201). -/
def refusedOnce (s : State) : State := { s with cnt.resp.refused := s.cnt.resp.refused + 1 }

/-- A reply with a status code and data placed in the NOTICE queue of the request's port (R55, R200, R211). -/
def replied (h : ReqHead) (code status : Nat) (data : List Byte) (s : State) : State :=
  place h.port .notice
    ⟨buildFrame h.src s.cfg.net.station s.cfg.net.mtype (be 2 h.tag.toNat ++ be 1 code ++ be 1 status ++ data), false⟩ s

/-- The frame disposed of as its one acting entry asks (R52, R67, R69): forwarded by the other port in the class the
entry names, or consumed and counted on the arrival port. -/
def disposed (e : Entry) (w : Work) (bytes : List Byte) (s : State) : State :=
  if e.forward then place w.port.other (if e.urgent then .urgent else .bulk) ⟨bytes, false⟩ s
  else s.countPort w.port (fun c => { c with consumed := c.consumed + 1 })

/-- A schedule entry matches a local minute index (R33): it is enabled, the weekday of the minute's date is in its mask
(day 0 is a Saturday, R27), its hour is ANY or the minute's, and its minute is the minute's. -/
abbrev matchesMinute (e : ScheduleEntry) (m : Int) : Prop :=
  e.enabled = true ∧ e.mask.getLsbD ((m / 1440 + 5) % 7).toNat = true
    ∧ (e.hour = none ∨ e.hour = some (m % 1440 / 60).toNat) ∧ e.minute = (m % 1440 % 60).toNat

/-- The entry that one run of an examiner fires (R35, R37): the match of the latest minute in (l, n], and of lowest index
in that minute, where that span holds at most 1,440 minutes. -/
abbrev fires (es : Vector ScheduleEntry 8) (l n : Int) (e : Fin 8) : Prop :=
  n - l ≤ 1440 ∧ ∃ m, l < m ∧ m ≤ n ∧ matchesMinute es[e] m ∧ (∀ j : Fin 8, j < e → ¬matchesMinute es[j] m)
    ∧ ∀ (k : Int) (j : Fin 8), m < k → k ≤ n → ¬matchesMinute es[j] k

/-- The last minute an examiner keeps after a run at index `n` (R34, R35, R37): it never goes back. -/
def lastMinute (last : Option Int) (n : Int) : Option Int := some (last.elim n (fun l => max l n))

/-- The shift unit after a due event of an entry, for a window that its deadline ends (R150). -/
def dueTaken (u : ShiftUnit) (e : Fin 8) (crew : Nat) (deadline : Elapsed) : ShiftUnit :=
  match u.state with
  | .onShift => { u with
      state := .window, expected := some crew, window := some e, overdue := false, overdueAt := some deadline }
  | .due => { u with
      state := .window, expected := some crew, window := some e, overdue := false, overdueAt := some deadline }
  | .window => { u with expected := some crew, window := some e }
  | .offered =>
    if u.expected.isSome then { u with expected := some crew, window := some e }
    else { u with expected := some crew, window := some e, overdue := false, overdueAt := some deadline }
  | .acceptHeld => u

/-- The shift unit when an offer ends without a handover (R148, R154): a scheduled handover is back in its WINDOW, an
unscheduled one leaves nothing in progress. -/
def offerEnded (u : ShiftUnit) : ShiftUnit :=
  if u.expected.isSome then { u with state := .window, offer := none, accept := none, lapseAt := none }
  else { u with
    state := .onShift, expected := none, window := none, overdue := false, warned := none, offer := none, accept := none
    overdueAt := none, lapseAt := none }

/-- The target of a slave line's function at a local time (R172): the minute of the half day, or its half minute. -/
def targetAt (f : LineFunction) (t : LocalTime) : Nat :=
  if f = .slaveHalf then 2 * (t.hour % 12 * 60 + t.minute) + (if 30 ≤ t.second then 1 else 0)
  else t.hour % 12 * 60 + t.minute

/-- A slave line of a cycle after its target is renewed at an elapsed count (R172, R173): found at rest with a known dial
behind by 1 to the cycle less the hold span, it begins a pulse; else it rests, holds, or ends its drive or gap first. -/
def lineRenewed (c : LineCfg) (cy : Cycle) (target : Nat) (m : Elapsed) (l : Line) : Line :=
  let d := (target + cy.steps - l.pos) % cy.steps
  if l.pulse = .rest ∧ l.cycle = some cy ∧ 1 ≤ d
      ∧ d ≤ cy.steps - (if c.function = .slaveHalf then 2 * c.hold else c.hold) then
    { l with
      target := some target, pos := (l.pos + 1) % cy.steps, pol := if l.pol = .a then .b else .a
      pulse := .drive l.pol (m + BitVec.ofNat 48 (clampNat 20 2000 c.width)) }
  else { l with target := some target }

/-- A clock change as the lines take it, from `s` to `t` (R172, R173, R175): a slave line's target is renewed from the new
reading, or absent once the clock is UNSET; the other lines stay. -/
def linesRenewed (s t : State) : Prop :=
  ∀ (i : Fin 8) (c : LineCfg) (cy : Cycle), c = s.cfg.lines[i] →
    (c.function.cycle = none → t.lines[i] = s.lines[i])
    ∧ (c.function.cycle = some cy → s.lines[i].cycle = none ∨ s.lines[i].cycle = some cy →
      t.lines[i] = if t.clock.state = .unset then { s.lines[i] with target := none }
        else lineRenewed c cy (targetAt c.function (localTime s.cfg.cal t.clock.sec)) s.clock.m s.lines[i])

/-- What a change or dial setting makes, as it takes effect, of a line's configuration and records, and how many
realignments there were (R170, R172, R176, R179): a dial setting sets cycle, position and next polarity; a slave function
keeps the dial of its own cycle and loses any other; a new function takes its target from the present local time (log 20);
an hour meter whose selection is not its basis is realigned to the selected tally. -/
def changeTaken (s : State) : LineCfg × Line × Count → LineChange → LineCfg × Line × Count
  | (c, l, n), .dial p w => (c, { l with cycle := c.function.cycle, pos := p, pol := w }, n)
  | (c0, l, n), ch =>
    let c := c0.apply ch
    let sel : Selection := ⟨c.unit, c.modes, c.test⟩
    let realigned := c.function == .hourMeter && l.basis != some sel
    (c,
      { l with
        cycle := if c.function.cycle = none ∨ c.function.cycle = l.cycle then l.cycle else none
        target := if c.function = c0.function then l.target
          else if s.clock.state = .unset then none else slaveTarget c.function s.cal.fields
        mark := if realigned then tallySecs s sel / 36 * 36 else l.mark
        basis := if realigned then some sel else l.basis },
      n + (if realigned then 1 else 0))

/-- The bytes of a frame whose arrival stamp has been written at a payload offset, with a new check sequence
(R44, R56 to R59). -/
def stamped (wr : StampWrite) (w : Work) (c : CalCfg) : List Byte :=
  refresh (overwrite w.bytes (14 + wr.offset.toNat) (match wr.format with
    | .binary => be 4 w.stamp.sec.toNat ++ be 4 w.stamp.ns ++ be 1 w.stamp.cls.val
    | .bcd => encBcd w.stamp (localTime c w.stamp.sec)))

/-- The state an acknowledgement of a group leaves, its GROUP notice placed (R114, R119): every record of the group
acknowledged, the group ACKED, GROUP_ACKED one higher. -/
def acknowledged (g : Fin 16) (s : State) : State :=
  notice 0x82
    (be 1 g.val ++ be 1 3 ++ be 1 0 ++ encOpt 4 (s.ann[g].ref.map (fun q => be 4 q.toNat)) ++ be 2 s.ann[g].trips
      ++ encSet s.ann[g].lost)
    { s with
      recorder.list := s.recorder.list.map (fun r => if r.group = g then { r with acked := true } else r)
      ann := s.ann.set g { s.ann[g] with state := .acked }
      cnt.ann.acked := s.cnt.ann.acked + 1 }

end Sys2Proof.Safety
end

