-- ==== Sys2Proof/Certificates/Slice0/Obligations.lean ====
section
/-! DEFINITION. Certificates/Slice0/Obligations.lean: the statements about the part. A statement of a request has the
form `exec (request) s = .next (replied h code status data u)`: `u` is the state after the request's effect, before its
reply is placed. `Only l s t` says that nothing but the parts in `l` differs between `s` and `t`. -/

open Sys2Proof Sys2Proof.Machine Sys2Proof.Safety

/-! ### The queue of commands -/

/-- A step takes the command at the front of the queue and answers what its effect answers with the queue's rest. -/
def Obligations.StepRunsFrontCommand : Prop :=
  ∀ (c : Instr) (rest : List Instr) (s : State), s.pending = c :: rest → step s = exec c { s with pending := rest }

/-! ### Station clock -/

/-- SECOND_ROLLOVER (R2, R3, R27, R28, R31, R34 to R37, R149, R150, R171 to R173, R175, R177). The tick that carries
moves S on by one and N, F and the accumulator by the tick's increment; with the main domain live the calendar takes the
new second, and a SECOND_MARK line at rest begins its pulse and one in DRIVE misses its mark; every slave line renews
its target and, at rest with its dial behind by no more than the cycle less the hold span, begins a pulse. At a local
minute boundary or a seasonal switch, the clock not UNSET, both examiners run: each last minute advances to its index
and never goes back, a span above 1,440 minutes is skipped and counted, and the latest matching minute fires one event,
its lowest entry. The shift unit takes a due event by its state, before a warning event, which it takes in ON_SHIFT
alone. -/
def Obligations.SecondRollover : Prop :=
  ∀ (s : State) (es : Vector ScheduleEntry 8) (n : Int), ticks s = true → tickCarries s = true →
    s.clock.sec ≠ 0xFFFFFFFF#32 → es = s.cfg.cal.entries → n = minuteIndex s.cfg.cal (s.clock.sec + 1) →
    ∃ t, exec .secondRollover s = .next t
      ∧ t.clock.sec = s.clock.sec + 1
      ∧ t.clock.ns + 1000000000 = (advance s.clock.ns s.clock.frac (tickIncrement s)).1
      ∧ t.clock.frac = (advance s.clock.ns s.clock.frac (tickIncrement s)).2
      ∧ t.clock.accFrac = (advance s.clock.accNs s.clock.accFrac (tickIncrement s)).2
      ∧ (t.clock.m = s.clock.m ∧ t.clock.accNs = (advance s.clock.accNs s.clock.accFrac (tickIncrement s)).1
          ∧ t.clock.accNs < 1000000
        ∨ t.clock.m = s.clock.m + 1
          ∧ t.clock.accNs + 1000000 = (advance s.clock.accNs s.clock.accFrac (tickIncrement s)).1)
      ∧ t.clock.state = s.clock.state ∧ t.clock.trim = s.clock.trim ∧ t.clock.integral = s.clock.integral
      ∧ t.clock.good = s.clock.good ∧ t.clock.pendingDiff = s.clock.pendingDiff ∧ t.clock.held = s.clock.held
      ∧ t.clock.lastMarker = s.clock.lastMarker
      ∧ (live s = true →
          t.cal.flag = inForce s.cfg.cal (s.clock.sec + 1) ∧ t.cal.fields = localTime s.cfg.cal (s.clock.sec + 1)
            ∧ t.cnt.cal.seasonSwitch = s.cnt.cal.seasonSwitch + (if t.cal.flag = s.cal.flag then 0 else 1)
            ∧ t.cnt.lines = { s.cnt.lines with
                pulses := Vector.ofFn (fun i : Fin 8 =>
                  s.cnt.lines.pulses[i] + (if t.lines[i].pulse = s.lines[i].pulse then 0 else 1))
                markMissed := s.cnt.lines.markMissed + BitVec.ofNat 32 (if s.clock.state = .unset then 0
                  else (List.finRange 8).countP (fun i =>
                    s.cfg.lines[i].function == .secondMark && s.lines[i].pulse.wire.isSome)) }
            ∧ ∀ (i : Fin 8) (c : LineCfg) (cy : Cycle), c = s.cfg.lines[i] →
              (c.function = .secondMark → s.clock.state ≠ .unset → s.lines[i].pulse = .rest →
                t.lines[i] = { s.lines[i] with
                  pulse := .drive .a (t.clock.m + BitVec.ofNat 48 (clampNat 1 500 c.width)) })
              ∧ (c.function = .off ∨ c.function = .hourMeter
                  ∨ c.function = .secondMark ∧ (s.clock.state = .unset ∨ s.lines[i].pulse ≠ .rest) →
                t.lines[i] = s.lines[i])
              ∧ (c.function.cycle = some cy → s.lines[i].cycle = none ∨ s.lines[i].cycle = some cy →
                t.lines[i] = if s.clock.state = .unset then { s.lines[i] with target := none }
                  else lineRenewed c cy (targetAt c.function t.cal.fields) t.clock.m s.lines[i]))
      ∧ (live s = true →
          s.clock.state = .unset
            ∨ n = minuteIndex s.cfg.cal s.clock.sec ∧ inForce s.cfg.cal (s.clock.sec + 1) = s.cal.flag →
          t.cal.lastDue = s.cal.lastDue ∧ t.cal.lastWarn = s.cal.lastWarn ∧ t.shift = s.shift
            ∧ t.resp.noticeNo = s.resp.noticeNo
            ∧ t.cnt.cal = { s.cnt.cal with seasonSwitch := t.cnt.cal.seasonSwitch })
      ∧ (live s = true → s.clock.state ≠ .unset →
          n ≠ minuteIndex s.cfg.cal s.clock.sec ∨ inForce s.cfg.cal (s.clock.sec + 1) ≠ s.cal.flag →
          t.cal.lastDue = lastMinute s.cal.lastDue n
            ∧ t.cal.lastWarn
              = (if s.cfg.cal.lead = 0 then none else lastMinute s.cal.lastWarn (n + s.cfg.cal.lead))
            ∧ t.cnt.cal.scheduleSkip
              = s.cnt.cal.scheduleSkip + (if s.cal.lastDue.any (fun l => 1440 < n - l) then 1 else 0)
            ∧ t.cnt.cal.warningSkip = s.cnt.cal.warningSkip
              + (if s.cfg.cal.lead ≠ 0 ∧ s.cal.lastWarn.any (fun w => 1440 < n + s.cfg.cal.lead - w) = true
                then 1 else 0)
            ∧ (∀ l e, s.cal.lastDue = some l → fires es l n e →
                t.cnt.cal.dueFired = s.cnt.cal.dueFired + 1
                  ∧ t.shift = dueTaken s.shift e es[e].crew
                      (t.clock.m + BitVec.ofNat 48 (s.cfg.overdueLen * 60000))
                  ∧ t.resp.noticeNo = s.resp.noticeNo + (if s.shift.state = .acceptHeld then 0 else 1))
            ∧ (∀ w e, s.cfg.cal.lead ≠ 0 → s.cal.lastWarn = some w → fires es w (n + s.cfg.cal.lead) e →
                t.cnt.cal.warningFired = s.cnt.cal.warningFired + 1
                  ∧ ((∀ l j, s.cal.lastDue = some l → ¬fires es l n j) → s.shift.state = .onShift →
                      t.shift = { s.shift with warned := some (e, es[e].crew), state := .due }
                        ∧ t.resp.noticeNo = s.resp.noticeNo + 1))
            ∧ ((∀ l e, s.cal.lastDue = some l → ¬fires es l n e) →
                t.cnt.cal.dueFired = s.cnt.cal.dueFired
                  ∧ (s.shift.state ≠ .onShift → t.shift = s.shift ∧ t.resp.noticeNo = s.resp.noticeNo))
            ∧ ((∀ w e, s.cfg.cal.lead ≠ 0 → s.cal.lastWarn = some w → ¬fires es w (n + s.cfg.cal.lead) e) →
                t.cnt.cal.warningFired = s.cnt.cal.warningFired
                  ∧ ((∀ l e, s.cal.lastDue = some l → ¬fires es l n e) →
                      t.shift = s.shift ∧ t.resp.noticeNo = s.resp.noticeNo)))
      ∧ (live s = false → Only [.clock] s t)
      ∧ Only [.clock, .cal, .nCal, .shift, .nShift, .lines, .nLines, .portS, .resp, .nPortS, .nResp] s t

/-- RANGE_WRAP (R2): S wraps to 0 and the clock becomes UNSET; I, T and the held label are kept, the wrap is counted,
a live calendar re-examines itself at second 0 and loses both last minutes (R39), and the slave lines keep no target and
begin no pulse (R172, R175). -/
def Obligations.RangeWrap : Prop :=
  ∀ s : State, ticks s = true → tickCarries s = true → s.clock.sec = 0xFFFFFFFF#32 →
    ∃ t, exec .rangeWrap s = .next t
      ∧ t.clock.sec = 0 ∧ t.clock.state = .unset ∧ t.clock.good = 0 ∧ t.clock.pendingDiff = none
      ∧ t.clock.trim = s.clock.trim ∧ t.clock.integral = s.clock.integral ∧ t.clock.held = s.clock.held
      ∧ t.clock.lastMarker = s.clock.lastMarker
      ∧ qualityClass t = 3
      ∧ t.cnt.clock = { s.cnt.clock with rangeWrap := s.cnt.clock.rangeWrap + 1 }
      ∧ (live s = true →
          t.cal.fields = localTime s.cfg.cal 0 ∧ t.cal.lastDue = none ∧ t.cal.lastWarn = none
            ∧ ∀ i : Fin 8, t.lines[i] = if s.cfg.lines[i].function.cycle.isSome then { s.lines[i] with target := none }
                else s.lines[i])
      ∧ Only [.clock, .nClock, .cal, .nCal, .shift, .nShift, .lines, .nLines, .portS, .resp, .nPortS, .nResp] s t

/-- MARKER_EDGE, accepted or not (R5): it is accepted where no marker was accepted before it, more than 2 s after the
last accepted one, and within the window of 1 s after it, both limits included; it is then counted and its instant kept.
Within 2 s and outside the window it is a glitch, counted and nothing else; in BACKUP or OFF, and while the reset line
is asserted, it is not observed. Nothing is said of an edge at exactly 2 s (log 21). -/
def Obligations.MarkerGlitch : Prop :=
  ∀ (s : State) (t0 : Instant),
    (live s = true → s.clock.lastMarker = some t0 → elapsedNs t0 s.now < 2000000000 →
      (elapsedNs t0 s.now + s.cfg.clock.window < 1000000000 ∨ 1000000000 + s.cfg.clock.window < elapsedNs t0 s.now) →
      exec .markerEdge s = .next { s with cnt.clock.markerGlitch := s.cnt.clock.markerGlitch + 1 })
    ∧ (live s = false → exec .markerEdge s = .next s)
    ∧ (s.clock.lastMarker = none → acceptsEdge s = true)
    ∧ (s.clock.lastMarker = some t0 → elapsedNs t0 s.now ≠ 2000000000 →
      (acceptsEdge s = true ↔ 2000000000 < elapsedNs t0 s.now
        ∨ 1000000000 ≤ elapsedNs t0 s.now + s.cfg.clock.window
          ∧ elapsedNs t0 s.now ≤ 1000000000 + s.cfg.clock.window))
    ∧ (live s = true → acceptsEdge s = true →
      ∃ t, exec .markerEdge s = .next t ∧ t.clock.lastMarker = some s.now
        ∧ t.cnt.clock.markerAccepted = s.cnt.clock.markerAccepted + 1
        ∧ t.cnt.clock.markerGlitch = s.cnt.clock.markerGlitch)

/-- MARKER_EDGE, label applied (R8, R18): a held MANUAL label in any state, and a held BEACON label in UNSET and MANUAL,
gives S its value and N and F zero, and the clock becomes ACQUIRE; I, T and elapsed time are untouched. The calendar and
every slave line take the new second: the line's target is renewed, and at rest and behind it begins a pulse (R172,
R173). -/
def Obligations.MarkerAppliesLabel : Prop :=
  ∀ (s : State) (v : Second) (t0 : Instant) (manual : Bool), live s = true → acceptsEdge s = true →
    (if manual then s.clock.held = some (.manual v)
     else s.clock.held = some (.beacon v t0) ∧ (s.clock.state = .unset ∨ s.clock.state = .manual)) →
    ∃ t, exec .markerEdge s = .next t
      ∧ t.clock = { s.clock with
          sec := v, ns := 0, frac := 0, state := .acquire, good := 0, pendingDiff := none, held := none,
          lastMarker := some s.now }
      ∧ t.cnt.clock = (if manual then
          { s.cnt.clock with markerAccepted := s.cnt.clock.markerAccepted + 1, manualSet := s.cnt.clock.manualSet + 1 }
        else
          { s.cnt.clock with markerAccepted := s.cnt.clock.markerAccepted + 1, relabel := s.cnt.clock.relabel + 1 })
      ∧ t.cal.fields = localTime s.cfg.cal v
      ∧ linesRenewed s t
      ∧ Only [.clock, .nClock, .cal, .nCal, .shift, .nShift, .lines, .nLines, .portS, .resp, .nPortS, .nResp] s t

/-- MARKER_EDGE, slew and alignment (R8, R9, R10, R12, R13). Where no label is held, or in ACQUIRE, HOLDOVER or LOCKED a
BEACON label that agrees with the nearest second, the label is consumed without effect; with |e| at most X the servo sets
I and then T, the reading stands, the window stage moves the state, and there is no clock change. In UNSET with no label
held N and F become 0 and S stands; that is neither a clock change nor counted, and no notice is built. -/
def Obligations.MarkerSlews : Prop :=
  ∀ (s : State) (v : Second) (t0 : Instant), live s = true → acceptsEdge s = true →
    (s.clock.held = none ∧ s.clock.state ≠ .unset
        ∨ s.clock.held = some (.beacon v t0) ∧ v = nearestSecond s.clock.sec s.clock.ns
          ∧ (s.clock.state = .acquire ∨ s.clock.state = .holdover ∨ s.clock.state = .locked) →
      (phaseError s.clock.ns).natAbs ≤ s.cfg.clock.step →
      ∃ t, exec .markerEdge s = .next t
        ∧ t.clock.integral
            = clampInt (-150000) 150000 (s.clock.integral - roundDiv (phaseError s.clock.ns) (2 ^ s.cfg.clock.ki))
        ∧ t.clock.trim
            = clampInt (-150000) 150000 (t.clock.integral - roundDiv (phaseError s.clock.ns) (2 ^ s.cfg.clock.kp))
        ∧ t.clock.sec = s.clock.sec ∧ t.clock.ns = s.clock.ns ∧ t.clock.frac = s.clock.frac
        ∧ t.clock.lastMarker = some s.now ∧ t.clock.held = none
        ∧ (s.clock.state = .acquire → (phaseError s.clock.ns).natAbs ≤ s.cfg.clock.lock →
            if s.clock.good = 3 then t.clock.state = .locked
            else t.clock.state = .acquire ∧ t.clock.good = s.clock.good + 1)
        ∧ (s.clock.state = .acquire → s.cfg.clock.lock < (phaseError s.clock.ns).natAbs →
            t.clock.state = .acquire ∧ t.clock.good = 0)
        ∧ (s.clock.state = .locked → (phaseError s.clock.ns).natAbs ≤ 4 * s.cfg.clock.lock → t.clock.state = .locked)
        ∧ (s.clock.state = .locked → 4 * s.cfg.clock.lock < (phaseError s.clock.ns).natAbs →
            t.clock.state = .acquire ∧ t.clock.good = 0)
        ∧ (s.clock.state = .locked → t.clock.pendingDiff = none)
        ∧ (s.clock.state = .holdover ∨ s.clock.state = .manual →
            t.clock.state = .acquire
              ∧ t.clock.good = if (phaseError s.clock.ns).natAbs ≤ s.cfg.clock.lock then 1 else 0)
        ∧ t.cnt.clock = { s.cnt.clock with markerAccepted := s.cnt.clock.markerAccepted + 1 }
        ∧ Only [.clock, .nClock, .portS, .resp, .nPortS, .nResp] s t)
    ∧ (s.clock.held = none → s.clock.state = .unset →
      exec .markerEdge s = .next { s with
        clock := { s.clock with ns := 0, frac := 0, lastMarker := some s.now }
        cnt.clock.markerAccepted := s.cnt.clock.markerAccepted + 1 })

/-- MARKER_EDGE, step (R9, R10, R11). Where no label is held, or in ACQUIRE, HOLDOVER or LOCKED a BEACON label that
agrees with the nearest second, and |e| is above X, the reading lands on the nearest second and the clock becomes
ACQUIRE; a carry out of the range is a range wrap instead, and no STEP is counted. The calendar and every slave line take
the new reading (R172, R173). -/
def Obligations.MarkerSteps : Prop :=
  ∀ (s : State) (v : Second) (t0 : Instant), live s = true → acceptsEdge s = true →
    s.clock.held = none ∧ s.clock.state ≠ .unset
      ∨ s.clock.held = some (.beacon v t0) ∧ v = nearestSecond s.clock.sec s.clock.ns
        ∧ (s.clock.state = .acquire ∨ s.clock.state = .holdover ∨ s.clock.state = .locked) →
    s.cfg.clock.step < (phaseError s.clock.ns).natAbs →
    ∃ t, exec .markerEdge s = .next t
      ∧ (if 500000000 ≤ s.clock.ns ∧ s.clock.sec = 0xFFFFFFFF#32 then
          t.clock = { s.clock with
              sec := 0, ns := 0, frac := 0, state := .unset, good := 0, pendingDiff := none, held := none,
              lastMarker := some s.now }
            ∧ t.cnt.clock = { s.cnt.clock with
                markerAccepted := s.cnt.clock.markerAccepted + 1, rangeWrap := s.cnt.clock.rangeWrap + 1 }
        else
          t.clock = { s.clock with
              sec := if s.clock.ns < 500000000 then s.clock.sec else s.clock.sec + 1
              ns := 0, frac := 0, state := .acquire, good := 0, pendingDiff := none, held := none,
              lastMarker := some s.now }
            ∧ t.cnt.clock = { s.cnt.clock with
                markerAccepted := s.cnt.clock.markerAccepted + 1, step := s.cnt.clock.step + 1 })
      ∧ t.cal.fields = localTime s.cfg.cal t.clock.sec ∧ linesRenewed s t
      ∧ Only [.clock, .nClock, .cal, .nCal, .shift, .nShift, .lines, .nLines, .portS, .resp, .nPortS, .nResp] s t

/-- MARKER_EDGE, relabel (R9, R10, R11, R12, R13). In ACQUIRE and HOLDOVER a BEACON label that differs from the nearest
second by `d` moves S by `d`; in LOCKED it does so only when the last marker's label differed by the same `d`, and
otherwise the difference is kept and counted. The phase stage follows on the e already captured: a slew, or above X a
step, which after a relabel lands on the label's second, or is a range wrap where that carries S past its range. The
servo sets I and then T at a slew alone. At a clock change the calendar and every slave line take the new reading (R172,
R173); without one both stay. -/
def Obligations.MarkerRelabels : Prop :=
  ∀ (s : State) (v d : Second) (t0 : Instant), live s = true → acceptsEdge s = true →
    s.clock.held = some (.beacon v t0) → d = v - nearestSecond s.clock.sec s.clock.ns → d ≠ 0 →
    s.clock.state = .acquire ∨ s.clock.state = .holdover ∨ s.clock.state = .locked →
    ((phaseError s.clock.ns).natAbs ≤ s.cfg.clock.step →
      ∃ t, exec .markerEdge s = .next t ∧ t.clock.held = none ∧ t.clock.ns = s.clock.ns ∧ t.clock.frac = s.clock.frac
        ∧ t.clock.lastMarker = some s.now
        ∧ t.clock.integral
            = clampInt (-150000) 150000 (s.clock.integral - roundDiv (phaseError s.clock.ns) (2 ^ s.cfg.clock.ki))
        ∧ t.clock.trim
            = clampInt (-150000) 150000 (t.clock.integral - roundDiv (phaseError s.clock.ns) (2 ^ s.cfg.clock.kp))
        ∧ (s.clock.state = .acquire ∨ s.clock.state = .holdover
            ∨ s.clock.state = .locked ∧ s.clock.pendingDiff = some d.toInt →
            t.clock.sec = s.clock.sec + d ∧ t.clock.state = .acquire ∧ t.clock.pendingDiff = none
              ∧ t.clock.good = (if (phaseError s.clock.ns).natAbs ≤ s.cfg.clock.lock then 1 else 0)
              ∧ t.cnt.clock = { s.cnt.clock with
                  markerAccepted := s.cnt.clock.markerAccepted + 1, relabel := s.cnt.clock.relabel + 1 }
              ∧ t.cal.fields = localTime s.cfg.cal t.clock.sec ∧ linesRenewed s t)
        ∧ (s.clock.state = .locked → s.clock.pendingDiff ≠ some d.toInt →
            t.cnt.clock = { s.cnt.clock with
              markerAccepted := s.cnt.clock.markerAccepted + 1, labelMismatch := s.cnt.clock.labelMismatch + 1 }
            ∧ t.cal = s.cal ∧ t.lines = s.lines)
        ∧ (s.clock.state = .locked → s.clock.pendingDiff ≠ some d.toInt →
            (phaseError s.clock.ns).natAbs ≤ 4 * s.cfg.clock.lock →
            t.clock.sec = s.clock.sec ∧ t.clock.state = .locked ∧ t.clock.pendingDiff = some d.toInt)
        ∧ (s.clock.state = .locked → s.clock.pendingDiff ≠ some d.toInt →
            4 * s.cfg.clock.lock < (phaseError s.clock.ns).natAbs →
            t.clock.sec = s.clock.sec ∧ t.clock.state = .acquire ∧ t.clock.good = 0 ∧ t.clock.pendingDiff = none)
        ∧ Only [.clock, .nClock, .cal, .nCal, .shift, .nShift, .lines, .nLines, .portS, .resp, .nPortS, .nResp] s t)
    ∧ (s.cfg.clock.step < (phaseError s.clock.ns).natAbs →
      ∃ t, exec .markerEdge s = .next t ∧ t.clock.held = none ∧ t.clock.ns = 0 ∧ t.clock.frac = 0
        ∧ t.clock.good = 0 ∧ t.clock.pendingDiff = none ∧ t.clock.lastMarker = some s.now
        ∧ t.clock.integral = s.clock.integral ∧ t.clock.trim = s.clock.trim
        ∧ (s.clock.state = .acquire ∨ s.clock.state = .holdover
            ∨ s.clock.state = .locked ∧ s.clock.pendingDiff = some d.toInt →
            t.clock.sec = v
              ∧ (if 500000000 ≤ s.clock.ns ∧ v = 0 then
                  t.clock.state = .unset ∧ t.cnt.clock = { s.cnt.clock with
                    markerAccepted := s.cnt.clock.markerAccepted + 1, relabel := s.cnt.clock.relabel + 1
                    rangeWrap := s.cnt.clock.rangeWrap + 1 }
                else
                  t.clock.state = .acquire ∧ t.cnt.clock = { s.cnt.clock with
                    markerAccepted := s.cnt.clock.markerAccepted + 1, relabel := s.cnt.clock.relabel + 1
                    step := s.cnt.clock.step + 1 }))
        ∧ (s.clock.state = .locked → s.clock.pendingDiff ≠ some d.toInt →
            t.clock.sec = nearestSecond s.clock.sec s.clock.ns
              ∧ (if 500000000 ≤ s.clock.ns ∧ s.clock.sec = 0xFFFFFFFF#32 then
                  t.clock.state = .unset ∧ t.cnt.clock = { s.cnt.clock with
                    markerAccepted := s.cnt.clock.markerAccepted + 1, labelMismatch := s.cnt.clock.labelMismatch + 1
                    rangeWrap := s.cnt.clock.rangeWrap + 1 }
                else
                  t.clock.state = .acquire ∧ t.cnt.clock = { s.cnt.clock with
                    markerAccepted := s.cnt.clock.markerAccepted + 1, labelMismatch := s.cnt.clock.labelMismatch + 1
                    step := s.cnt.clock.step + 1 }))
        ∧ t.cal.fields = localTime s.cfg.cal t.clock.sec ∧ linesRenewed s t
        ∧ Only [.clock, .nClock, .cal, .nCal, .shift, .nShift, .lines, .nLines, .portS, .resp, .nPortS, .nResp] s t)

/-- BEACON_STALE, SILENCE_EXPIRY and HOLDOVER_LIMIT (R6, R14, R15), each where its span of elapsed time has run. That the
limit is taken once in a holdover is the model's item of log 14; in BACKUP the limit and the counter are lost items of the
main domain, at the values log 9 gives them. -/
def Obligations.ClockDeadlines : Prop :=
  ∀ (s : State) (t0 : Instant) (v : Second),
    (live s = true → s.clock.held = some (.beacon v t0) → 1500000000 ≤ elapsedNs t0 s.now →
      exec .beaconStale s
        = .next { s with clock.held := none, cnt.clock.beaconStale := s.cnt.clock.beaconStale + 1 })
    ∧ (s.supply.state = .run → s.clock.state = .acquire ∨ s.clock.state = .locked →
        s.clock.lastMarker = some t0 → 1500000000 ≤ elapsedNs t0 s.now →
        ∃ t, exec .silenceExpiry s = .next t
          ∧ t.clock.state = .holdover ∧ t.clock.trim = s.clock.integral ∧ t.clock.integral = s.clock.integral
          ∧ t.clock.good = 0 ∧ t.clock.pendingDiff = none ∧ t.clock.sec = s.clock.sec ∧ t.clock.ns = s.clock.ns
          ∧ t.clock.lastMarker = s.clock.lastMarker ∧ t.clock.held = s.clock.held
          ∧ t.cnt.clock = { s.cnt.clock with holdoverEntry := s.cnt.clock.holdoverEntry + 1 }
          ∧ (live s = true → t.resp.noticeNo = s.resp.noticeNo + 1)
          ∧ Only [.clock, .nClock, .portS, .resp, .nPortS, .nResp] s t)
    ∧ (ticks s = true → s.clock.state = .holdover → s.clock.limitTaken = false → s.clock.lastMarker = some t0 →
        s.cfg.clock.holdLimit * 1000000000 ≤ elapsedNs t0 s.now →
        ∃ t, exec .holdoverLimit s = .next t
          ∧ qualityClass t = 2 ∧ t.clock = { s.clock with limitTaken := true }
          ∧ t.cnt.clock = { s.cnt.clock with holdoverLimit := s.cnt.clock.holdoverLimit + 1 }
          ∧ (live s = true → t.resp.noticeNo = s.resp.noticeNo + 1)
          ∧ Only [.clock, .nClock, .portS, .resp, .nPortS, .nResp] s t)

/-- SET_TIME (R17, R18): NOW sets the reading with N clamped, MANUAL, T := I, and discards the held label, and the
calendar and every slave line take the new second as after a label (R172, R173); AT_MARKER places the second as a MANUAL
label and touches nothing else; another mode is BAD_VALUE. -/
def Obligations.SetTime : Prop :=
  ∀ (s : State) (h : ReqHead) (sec ns : Nat) (mode : Byte) (pad : List Byte), commissioned s →
    sec < 2 ^ 32 → ns < 2 ^ 32 →
    (mode = 0 → ∃ u, exec (.setTime h (be 4 sec ++ be 4 ns ++ mode :: pad)) s
          = .next (replied h 0x15 (if 999999999 < ns then 0x01 else 0x00) [] u)
        ∧ u.clock = { s.clock with
            sec := BitVec.ofNat 32 sec, ns := min ns 999999999, frac := 0, state := .manual, trim := s.clock.integral
            good := 0, pendingDiff := none, held := none }
        ∧ u.cnt.clock = { s.cnt.clock with manualSet := s.cnt.clock.manualSet + 1 }
        ∧ u.cal.fields = localTime s.cfg.cal (BitVec.ofNat 32 sec)
        ∧ linesRenewed s u
        ∧ Only [.clock, .nClock, .cal, .nCal, .shift, .nShift, .lines, .nLines, .portS, .resp, .nPortS, .nResp]
            (taken s) u)
    ∧ (mode = 1 → exec (.setTime h (be 4 sec ++ be 4 ns ++ mode :: pad)) s
          = .next (replied h 0x15 0x00 []
              { taken s with clock := { s.clock with held := some (.manual (BitVec.ofNat 32 sec)) } }))
    ∧ (1 < mode.toNat → exec (.setTime h (be 4 sec ++ be 4 ns ++ mode :: pad)) s
          = .next (replied h 0x15 0x11 [] (refusedOnce (taken s))))

/-! ### Frame path -/

/-- FRAME_START and FRAME_RECEIVED (R45, R46, R47): the stamp taken at the start delimiter stays with the frame; a
reception ends as a frame of bad length, a frame of bad check sequence, a good frame queued, or a good frame dropped at
a full queue, each counted. -/
def Obligations.Reception : Prop :=
  ∀ (s : State) (p : Port) (st : Stamp) (bytes : List Byte), live s = true →
    ((s.port p).rx = none → exec (.frameStart p) s
        = .next (s.withPort p { s.port p with rx := some ⟨s.clock.sec, s.clock.ns, qualityClass s⟩ }))
    ∧ ((s.port p).rx = some st → bytes.length < 64 ∨ 1522 < bytes.length → exec (.frameReceived p bytes) s
        = .next ((s.withPort p { s.port p with rx := none }).countPort p
            (fun c => { c with rxLength := c.rxLength + 1 })))
    ∧ ((s.port p).rx = some st → 64 ≤ bytes.length → bytes.length ≤ 1522 →
        bytes.drop (bytes.length - 4) ≠ fcs (bytes.take (bytes.length - 4)) → exec (.frameReceived p bytes) s
        = .next ((s.withPort p { s.port p with rx := none }).countPort p (fun c => { c with rxFcs := c.rxFcs + 1 })))
    ∧ ((s.port p).rx = some st → 64 ≤ bytes.length → bytes.length ≤ 1522 →
        bytes.drop (bytes.length - 4) = fcs (bytes.take (bytes.length - 4)) → (s.port p).ingress.length < 8 →
        exec (.frameReceived p bytes) s
          = .next ((s.withPort p { s.port p with rx := none, ingress := (s.port p).ingress ++ [⟨bytes, st⟩] }).countPort p
              (fun c => { c with rxGood := c.rxGood + 1 })))
    ∧ ((s.port p).rx = some st → 64 ≤ bytes.length → bytes.length ≤ 1522 →
        bytes.drop (bytes.length - 4) = fcs (bytes.take (bytes.length - 4)) → 8 ≤ (s.port p).ingress.length →
        exec (.frameReceived p bytes) s
          = .next ((s.withPort p { s.port p with rx := none }).countPort p
              (fun c => { c with rxGood := c.rxGood + 1, ingressFull := c.ingressFull + 1 })))

/-- FRAME_TAKE (R48, R49, R50): the idle classifier takes the head frame of the port its pointer names, or of the other
port when that queue is empty, with the network identity then in force; the pointer then names the port not taken
from. -/
def Obligations.FrameTake : Prop :=
  ∀ (s : State) (p : Port) (f : RxFrame) (rest : List RxFrame), live s = true → s.cls.work = none →
    s.resp.state = .ready → (s.port p).ingress = f :: rest →
    p = s.cls.pointer ∨ (s.port s.cls.pointer).ingress = [] →
    exec .frameTake s
      = .next { s.withPort p { s.port p with ingress := rest } with
          cls := { s.cls with
            work := some ⟨p, f.bytes, f.stamp, s.cfg.net.station, s.cfg.net.mtype, s.cfg.net.mgmtU⟩
            pointer := p.other } }

/-- TRANSMISSION_START and TRANSMISSION_COMPLETE (R54, R61): an idle transmitter starts the head of the highest class
that holds a frame; after (L + 20) × 80 ns the transmission is counted and the transmitter idle, and the reply of a
RESTART lets it take effect. -/
def Obligations.Transmission : Prop :=
  ∀ (s : State) (p : Port) (f : TxFrame) (rest : List TxFrame) (since : Instant), live s = true →
    ((s.port p).tx = none → s.resp.restartDue = false → (s.port p).urgent = f :: rest →
      exec (.transmissionStart p) s
        = .next (s.withPort p { s.port p with urgent := rest, tx := some ⟨f, s.now⟩ }))
    ∧ ((s.port p).tx = none → s.resp.restartDue = false → (s.port p).urgent = [] → (s.port p).notice = f :: rest →
      exec (.transmissionStart p) s
        = .next (s.withPort p { s.port p with notice := rest, tx := some ⟨f, s.now⟩ }))
    ∧ ((s.port p).tx = none → s.resp.restartDue = false → (s.port p).urgent = [] → (s.port p).notice = [] →
      (s.port p).bulk = f :: rest →
      exec (.transmissionStart p) s
        = .next (s.withPort p { s.port p with bulk := rest, tx := some ⟨f, s.now⟩ }))
    ∧ ((s.port p).tx = some ⟨f, since⟩ → (f.bytes.length + 20) * 80 ≤ elapsedNs since s.now →
      exec (.transmissionComplete p) s
        = .next { (s.withPort p { s.port p with tx := none }).countPort p
              (fun c => { c with txFrames := c.txFrames + 1 }) with
            resp := { s.resp with restartDue := s.resp.restartDue || f.restart } })

/-- CLASSIFICATION_DONE of a management frame on port U while management on U is not set (R51): dropped and counted, not
answered, not forwarded, and no entry's hit count changes. -/
def Obligations.ManagementFrameDroppedOnU : Prop :=
  ∀ (s : State) (w : Work), live s = true → s.cls.work = some w →
    frameDst w.bytes = w.station → frameType w.bytes = w.mtype → w.port = .u → w.mgmtU = false →
    exec .classificationDone s
      = .next { s with cls.work := none, cnt.portU.mgmtRefused := s.cnt.portU.mgmtRefused + 1 }

/-- CLASSIFICATION_DONE of a management frame on port S, or on port U with management on U set (R50, R52, R201): a
request of known code joins the requests handed to the responder; one of unknown code that a READY responder with none
waiting is handed is answered BAD_REQUEST at once. Either is counted in MGMT_TAKEN. That a known request then waits for
its own command is the model's (log 5). -/
def Obligations.ManagementFrameHanded : Prop :=
  ∀ (s : State) (w : Work), live s = true → s.cls.work = some w →
    frameDst w.bytes = w.station → frameType w.bytes = w.mtype → w.port = .s ∨ w.mgmtU = true →
    ((s.resp.handed ++ [requestOf w]).all (fun r => knownCode r.code) = true →
      exec .classificationDone s
        = .next ({ s with cls.work := none, resp.handed := s.resp.handed ++ [requestOf w] }.countPort w.port
            (fun c => { c with mgmtTaken := c.mgmtTaken + 1 })))
    ∧ (s.resp.state = .ready → s.resp.handed = [] → knownCode (requestOf w).code = false →
      exec .classificationDone s
        = .next (replied (requestOf w).head (requestOf w).code.toNat 0x10 []
            (refusedOnce (taken ({ s with cls.work := none }.countPort w.port
              (fun c => { c with mgmtTaken := c.mgmtTaken + 1 }))))))

/-- CLASSIFICATION_DONE of a plant frame that no entry matches (R52, R53, R54, R65): counted in the arrival port's
NO_MATCH and forwarded byte for byte by the other port: at once where its transmitter is idle and nothing waits, else at
the tail of its BULK queue, or dropped there and counted when that holds 64 frames. -/
def Obligations.UnmatchedFrameForwarded : Prop :=
  ∀ (s u : State) (w : Work) (q : Port), live s = true → s.cls.work = some w →
    frameDst w.bytes ≠ w.station ∨ frameType w.bytes ≠ w.mtype →
    (∀ i : Fin 128, s.cls.active[i].hits w = false) →
    w.port = .u ∧ q = .s ∧ u = { s with cls.work := none, cnt.cls.noMatchU := s.cnt.cls.noMatchU + 1 }
      ∨ w.port = .s ∧ q = .u ∧ u = { s with cls.work := none, cnt.cls.noMatchS := s.cnt.cls.noMatchS + 1 } →
    ((s.port q).tx = none → (s.port q).urgent = [] → (s.port q).notice = [] → (s.port q).bulk = [] →
      s.resp.restartDue = false →
      exec .classificationDone s
        = .next (u.withPort q { s.port q with tx := some ⟨⟨w.bytes, false⟩, s.now⟩ }))
    ∧ ((s.port q).tx.isSome = true ∨ (s.port q).urgent ≠ [] ∨ (s.port q).notice ≠ [] ∨ (s.port q).bulk ≠ []
        ∨ s.resp.restartDue = true →
      (s.port q).bulk.length < 64 →
      exec .classificationDone s
        = .next (u.withPort q { s.port q with bulk := (s.port q).bulk ++ [⟨w.bytes, false⟩] }))
    ∧ (64 ≤ (s.port q).bulk.length →
      exec .classificationDone s = .next (u.countPort q (fun c => { c with dropBulk := c.dropBulk + 1 })))

/-! ### Match banks and classifier -/

/-- A plant frame under a bank whose chains all lead upward, as R82 demands (R65, R66, R67): at most four entries act,
each of them matches the frame and is counted once, and no other hit count, no entry and no settings change. -/
def Obligations.AtMostFourEntriesAct : Prop :=
  ∀ (s t : State) (w : Work), s.cls.work = some w → isManagement w = false →
    (∀ i : Fin 128, s.cls.active[i].chain.all (fun c => i.val < c.toNat) = true) →
    exec .classificationDone s = .next t →
    t.cls.active = s.cls.active ∧ t.cls.standby = s.cls.standby ∧ t.cfg = s.cfg
      ∧ (∀ i : Fin 128, t.cls.hits[i] = s.cls.hits[i]
          ∨ s.cls.active[i].hits w = true ∧ t.cls.hits[i] = s.cls.hits[i] + 1)
      ∧ (List.finRange 128).countP (fun i => t.cls.hits[i] != s.cls.hits[i]) ≤ 4

/-- A matching entry acts (R63, R67 to R76, R124 to R126, R134): entry 0 without chain matches a plant frame; the hit is
counted and its action taken. UNIT: a mode or test flag other than the unit's is a change, which credits the interval
that ends, counts a start of a running mode newly entered but for the pre-outage mode, and asks for a checkpoint; one
that is the unit's is counted; under a trip hold a running mode is stale and STANDSTILL ends the hold; an unmapped mode
byte is counted. An entry from rest with the hour passed asks once (log 15), after the change's own request (log 32).
TRIP: the picked report goes to the recorder. BEACON: the label is held. HANDOVER: the report goes to the shift unit, or
is malformed and counted. STAMP: the arrival stamp is written, or is short and counted. A pick outside the payload is a
fault. The frame is then forwarded in the entry's class or consumed; DROP always consumes it. And what the shift unit
makes of each report in each state (R148, R151 to R154, R158 to R160): an OFFER of the crew on shift, an ACCEPT that
completes or is held while a group settles, a DECLINE or WITHDRAW that ends the offer, and the reports counted as misfit
or unoffered or ignored. -/
def Obligations.UnitFrameChangesMode : Prop :=
  (∀ (s a : State) (w : Work) (e : Entry) (pl : List Byte), live s = true → s.cls.work = some w →
    frameDst w.bytes ≠ w.station ∨ frameType w.bytes ≠ w.mtype →
    e = s.cls.active[0] → e.hits w = true → e.chain = none → pl = payload w.bytes →
    a = { s with cls := { s.cls with work := none, hits := s.cls.hits.set 0 (s.cls.hits[0] + 1) } } →
    (∀ (p : UnitParams) (u : Fin 6) (m : Nat) (mode : Mode) (test : Bool), e.action = .unit p →
      p.unit.toNat = u.val + 1 → pick pl p.modeOffset.toNat 1 = some m → mapMode p.codeMap m = some mode →
      (p.test = none ∧ test = false ∨ ∃ o k v, p.test = some (o, k) ∧ pick pl o.toNat 1 = some v
        ∧ test = (BitVec.ofNat 8 v &&& k != 0)) →
      (∀ d, s.tally[u].hold = some d → mode.running.isSome = true →
        exec .classificationDone s = .next (disposed e w w.bytes
          { a with cnt.tally.reports := s.cnt.tally.reports + 1, cnt.tally.stale := s.cnt.tally.stale + 1 }))
      ∧ (∀ d, s.tally[u].hold = some d → mode = .standstill →
        exec .classificationDone s = .next (disposed e w w.bytes
          { a with
            tally := s.tally.set u { s.tally[u] with hold := none }
            cnt.tally.reports := s.cnt.tally.reports + 1, cnt.tally.same := s.cnt.tally.same + 1 }))
      ∧ (s.tally[u].hold = none → mode = s.tally[u].mode → (test && mode.running.isSome) = s.tally[u].test →
        exec .classificationDone s = .next (disposed e w w.bytes
          { a with cnt.tally.reports := s.cnt.tally.reports + 1, cnt.tally.same := s.cnt.tally.same + 1 }))
      ∧ (s.tally[u].hold = none → mode ≠ s.tally[u].mode ∨ (test && mode.running.isSome) ≠ s.tally[u].test →
       ∃ t, exec .classificationDone s = .next (disposed e w w.bytes t)
        ∧ t.tally[u].mode = mode ∧ t.tally[u].test = (test && mode.running.isSome) ∧ t.tally[u].start = s.clock.m
        ∧ (∀ k : Fin 6, t.tally[u].run[k] = s.tally[u].value s.clock.m k)
        ∧ (∀ k : Fin 5, t.tally[u].starts[k] = if mode.running = some k ∧ mode ≠ s.tally[u].mode
              ∧ ¬(s.tally[u].mode = .unknown ∧ s.tally[u].preOutage = some mode)
            then min (s.tally[u].starts[k] + 1) 4294967295 else s.tally[u].starts[k])
        ∧ t.tally[u].stops = s.tally[u].stops ∧ t.tally[u].trips = s.tally[u].trips ∧ t.tally[u].hold = none
        ∧ t.tally[u].preOutage = (if s.tally[u].mode = .unknown then none else s.tally[u].preOutage)
        ∧ t.store.flags[u] = some (s.store.flags[u].getD .modeEnd)
        ∧ t.cnt.tally.hourly = s.cnt.tally.hourly + (if s.tally[u].mode.running = none ∧ mode.running.isSome = true
            ∧ 3600000 ≤ (s.clock.m - s.tally[u].lastCkpt).toNat ∧ s.tally[u].hourlyAsked = false then 1 else 0)
        ∧ (∀ v : Fin 6, v ≠ u → t.tally[v] = s.tally[v])
        ∧ t.cnt.tally.changes = s.cnt.tally.changes + 1 ∧ t.cnt.tally.reports = s.cnt.tally.reports + 1
        ∧ t.resp.noticeNo = s.resp.noticeNo + 1
        ∧ Only [.tally, .nTally, .store, .nStore, .portS, .nPortS, .resp, .nResp] a t))
    ∧ (∀ (p : UnitParams) (m : Nat), e.action = .unit p → p.test = none → pick pl p.modeOffset.toNat 1 = some m →
      (∀ q ∈ p.codeMap, q.1.toNat ≠ m) →
      exec .classificationDone s
        = .next (disposed e w w.bytes { a with cnt.cls.unitUnmapped := s.cnt.cls.unitUnmapped + 1 }))
    ∧ (∀ (p : TripParams) (no code : Nat) (emb : Option (Nat × Nat)) (bytes : List Byte), e.action = .trip p →
      pick pl p.stateOffset.toNat 2 = some no → pick pl p.codeOffset.toNat p.codeWidth.toNat = some code →
      (p.embedded = none ∧ emb = none ∨ ∃ o v, p.embedded = some o ∧ pick pl o.toNat 8 = some v
        ∧ emb = some (v / 2 ^ 32, v % 2 ^ 32)) →
      (p.write = none ∧ bytes = w.bytes ∨ ∃ wr, p.write = some wr ∧ wr.offset.toNat + wr.format.width ≤ pl.length
        ∧ bytes = stamped wr w s.cfg.cal) →
      exec .classificationDone s = .next (disposed e w bytes (tripReport
        { source := Fin.ofNat 64 p.source.toNat, group := Fin.ofNat 16 p.group.toNat
          unit := p.unit.bind (fun n => unitOfNo n.toNat), stateNo := BitVec.ofNat 16 no, code := BitVec.ofNat 16 code
          kind := if code = p.clearCode.toNat then .clear else .trip
          embedded := emb, compensation := p.compensation.toNat, unitStop := p.unitStop, stamp := w.stamp
          port := w.port } a)))
    ∧ (∀ (o : BitVec 16) (v : Nat), e.action = .beacon o →
      (pick pl o.toNat 4 = some v → exec .classificationDone s
        = .next (disposed e w w.bytes
            { a with clock := { s.clock with held := some (.beacon (BitVec.ofNat 32 v) s.now) } }))
      ∧ (pick pl o.toNat 4 = none → exec .classificationDone s
        = .next (disposed e w w.bytes { a with
            cls := { a.cls with
              fault := some (s.cls.fault.getD ⟨.pickOutside, 0, w.port, frameSrc w.bytes, w.stamp⟩) }
            cnt.cls.pickOutside := s.cnt.cls.pickOutside + 1 })))
    ∧ (∀ (vo co oo : BitVec 16) (n crew op : Nat) (v : Verb), e.action = .handover vo co oo →
      pick pl vo.toNat 1 = some n → pick pl co.toNat 1 = some crew → pick pl oo.toNat 2 = some op →
      ((n, v) ∈ [(1, Verb.offer), (2, .accept), (3, .decline), (4, .withdraw)] → 1 ≤ crew → crew ≤ 15 →
        exec .classificationDone s
          = .next (disposed e w w.bytes (handoverReport v ⟨crew, BitVec.ofNat 16 op, w.stamp⟩ a)))
      ∧ (n = 0 ∨ 4 < n ∨ crew = 0 ∨ 15 < crew →
        exec .classificationDone s
          = .next (disposed e w w.bytes { a with cnt.cls.handoverMalformed := s.cnt.cls.handoverMalformed + 1 })))
    ∧ (∀ wr : StampWrite, e.action = .stamp wr →
      (wr.offset.toNat + wr.format.width ≤ pl.length →
        exec .classificationDone s = .next (disposed e w (stamped wr w s.cfg.cal) a))
      ∧ (pl.length < wr.offset.toNat + wr.format.width →
        exec .classificationDone s
          = .next (disposed e w w.bytes (a.countPort w.port (fun c => { c with stampShort := c.stampShort + 1 })))))
    ∧ (e.action = .pass → exec .classificationDone s = .next (disposed e w w.bytes a))
    ∧ (e.action = .drop →
      exec .classificationDone s = .next (a.countPort w.port (fun c => { c with consumed := c.consumed + 1 }))))
  ∧ ∀ (r : HeldAccept) (s : State),
    (r.crew = s.shift.openRec.crew → s.shift.state = .onShift ∨ s.shift.state = .due ∨ s.shift.state = .window →
      (handoverReport .offer r s).shift = { s.shift with
          state := .offered, offer := some r.operator
          lapseAt := some (s.clock.m + BitVec.ofNat 48 (s.cfg.lapseLen * 60000))
          expected := if s.shift.state = .window then s.shift.expected else none
          window := if s.shift.state = .window then s.shift.window else none }
        ∧ (live s = true → (handoverReport .offer r s).resp.noticeNo = s.resp.noticeNo + 1)
        ∧ Only [.shift, .portS, .resp, .nPortS, .nResp] s (handoverReport .offer r s))
    ∧ (s.shift.state = .offered ∨ s.shift.state = .acceptHeld → handoverReport .offer r s = s)
    ∧ (s.shift.state = .acceptHeld → handoverReport .accept r s = s)
    ∧ (s.shift.state = .onShift ∨ s.shift.state = .due ∨ s.shift.state = .window →
      handoverReport .accept r s = { s with cnt.shift.acceptUnoffered := s.cnt.shift.acceptUnoffered + 1 }
        ∧ handoverReport .decline r s = s ∧ handoverReport .withdraw r s = s)
    ∧ (∀ v : Verb,
      v = .offer ∧ r.crew ≠ s.shift.openRec.crew
            ∧ (s.shift.state = .onShift ∨ s.shift.state = .due ∨ s.shift.state = .window)
        ∨ v = .withdraw ∧ r.crew ≠ s.shift.openRec.crew ∧ (s.shift.state = .offered ∨ s.shift.state = .acceptHeld)
        ∨ (v = .accept ∧ s.shift.state = .offered
            ∨ v = .decline ∧ (s.shift.state = .offered ∨ s.shift.state = .acceptHeld))
          ∧ s.shift.expected.elim (r.crew = s.shift.openRec.crew) (fun c => r.crew ≠ c) →
      handoverReport v r s = { s with cnt.shift.crewMisfit := s.cnt.shift.crewMisfit + 1 })
    ∧ (s.shift.state = .offered → s.shift.expected.elim (r.crew ≠ s.shift.openRec.crew) (fun c => r.crew = c) →
      ((∃ g : Fin 16, s.ann[g].state = .settling) →
        (handoverReport .accept r s).shift
            = { s.shift with state := .acceptHeld, accept := some r, lapseAt := none }
          ∧ (handoverReport .accept r s).cnt.shift = { s.cnt.shift with held := s.cnt.shift.held + 1 }
          ∧ (live s = true → (handoverReport .accept r s).resp.noticeNo = s.resp.noticeNo + 1)
          ∧ Only [.shift, .nShift, .portS, .resp, .nPortS, .nResp] s (handoverReport .accept r s))
      ∧ ∀ t, t = handoverReport .accept r s → (∀ g : Fin 16, s.ann[g].state ≠ .settling) →
        t.shift = { offerEnded { s.shift with expected := none } with openRec := t.shift.openRec, list := t.shift.list }
          ∧ t.shift.openRec.number = s.shift.openRec.number + 1 ∧ t.shift.openRec.crew = r.crew
          ∧ t.shift.openRec.opened = r.stamp ∧ t.shift.openRec.openedElapsed = s.clock.m
          ∧ t.shift.openRec.incoming = some r.operator ∧ t.shift.openRec.entry = s.shift.window
          ∧ t.shift.openRec.overdue = s.shift.overdue
          ∧ (∀ g : Fin 16, t.shift.openRec.inherited.getLsbD g.val = decide (s.ann[g].state = .announced))
          ∧ t.shift.openRec.trips = 0 ∧ t.shift.openRec.late = 0 ∧ t.shift.openRec.firstOut = 0
          ∧ (∀ v k : Fin 6, t.shift.openRec.snaps[v][k] = (s.tally[v].value s.clock.m k : Int))
          ∧ (∃ c, t.shift.list.getLast? = some c
            ∧ c.duration = (s.clock.m - s.shift.openRec.openedElapsed).toNat / 1000
            ∧ ∀ v k : Fin 6, s.shift.openRec.snaps[v][k] ≤ s.tally[v].value s.clock.m k →
              c.runSecs[v][k] = (s.tally[v].value s.clock.m k - s.shift.openRec.snaps[v][k]).toNat / 1000)
          ∧ t.shift.list.getLast?.any (fun c =>
              c.base == s.shift.openRec && c.outgoing == s.shift.offer && c.closed == r.stamp
                && c.closedElapsed == s.clock.m && c.handedOver == t.shift.openRec.inherited
                && c.closeVals == t.shift.openRec.snaps) = true
          ∧ (∀ v : Fin 6, t.store.flags[v] = some (s.store.flags[v].getD .shiftClose))
          ∧ t.cnt.shift = { s.cnt.shift with completed := s.cnt.shift.completed + 1 }
          ∧ (live s = true → t.resp.noticeNo = s.resp.noticeNo + 1)
          ∧ Only [.shift, .nShift, .tally, .nTally, .store, .nStore, .portS, .resp, .nPortS, .nResp] s t)
    ∧ (∀ (v : Verb) (c : ShiftCnt), s.shift.state = .offered ∨ s.shift.state = .acceptHeld →
      v = .withdraw ∧ r.crew = s.shift.openRec.crew
            ∧ c = { s.cnt.shift with withdrawn := s.cnt.shift.withdrawn + 1 }
        ∨ v = .decline ∧ s.shift.expected.elim (r.crew ≠ s.shift.openRec.crew) (fun x => r.crew = x)
            ∧ c = { s.cnt.shift with declined := s.cnt.shift.declined + 1 } →
      (handoverReport v r s).shift = offerEnded s.shift ∧ (handoverReport v r s).cnt.shift = c
        ∧ (live s = true → (handoverReport v r s).resp.noticeNo = s.resp.noticeNo + 1)
        ∧ Only [.shift, .nShift, .portS, .resp, .nPortS, .nResp] s (handoverReport v r s))

/-- LOAD_ENTRY then READ_ENTRY (R80, R81): a whole entry loaded at an index of the standby bank stands there and nowhere
else, and reading the standby bank returns it with hit count 0; an index above 127 is BAD_VALUE, and reading changes
nothing. The numbers of two-valued and optional items are those of logs 10 and 12. -/
def Obligations.LoadAndReadEntry : Prop :=
  ∀ (s : State) (h : ReqHead) (i : Nat) (e : Entry) (body pad : List Byte), commissioned s →
    readEntryBytes body = .ok (e, pad) →
    (∀ hi : i < 128, exec (.loadEntry h (BitVec.ofNat 8 i :: body)) s
        = .next (replied h 0x10 0x00 [] { taken s with cls.standby := s.cls.standby.set i e hi }))
    ∧ (128 ≤ i → i < 256 → exec (.loadEntry h (BitVec.ofNat 8 i :: body)) s
        = .next (replied h 0x10 0x11 [] (refusedOnce (taken s))))
    ∧ (∀ hi : i < 128, s.cls.standby[i] = e → exec (.readEntry h (1 :: BitVec.ofNat 8 i :: pad)) s
        = .next (replied h 0x11 0x00 (e.encode (be 4 0)) (taken s)))
    ∧ (∀ hi : i < 128, exec (.readEntry h (0 :: BitVec.ofNat 8 i :: pad)) s
        = .next (replied h 0x11 0x00 (s.cls.active[i].encode (be 4 s.cls.hits[i].toNat)) (taken s)))
    ∧ (128 ≤ i → i < 256 → exec (.readEntry h (0 :: BitVec.ofNat 8 i :: pad)) s
        = .next (replied h 0x11 0x11 [] (refusedOnce (taken s))))

/-- An entry is carried and read back whole (R80, R204): every field of every action kind. The layout is that of logs 10
and 12. -/
def Obligations.EntryLayoutRoundTrip : Prop :=
  ∀ (e : Entry) (rest : List Byte), carriable e = true → readEntryBytes (e.encode [] ++ rest) = .ok (e, rest)

/-- COMMIT_BANK and COMMIT_BANK_ACTIVATED (R82, R83): an entry is valid exactly when its chain, byte tests, stamp write,
picks and numbers pass the checks of R82; a bank whose first bad entry has index i is refused with it; a valid one becomes
active with hit counts 0, at once when no frame is in classification, else it waits until none is. -/
def Obligations.CommitBank : Prop :=
  ∀ (s : State) (h : ReqHead) (body : List Byte) (i : Fin 128) (r : Request) (e : Entry),
    (entryValid i e = true ↔
      (∀ c, e.chain = some c → i.val < c.toNat ∧ c.toNat ≤ 127)
      ∧ (∀ x ∈ e.tests, x.offset.toNat ≤ 511
          ∧ (x.width = 1 ∧ x.mask.toNat < 0x100 ∧ x.value.toNat < 0x100
            ∨ x.width = 2 ∧ x.mask.toNat < 0x10000 ∧ x.value.toNat < 0x10000 ∨ x.width = 4))
      ∧ (match e.action with
        | .pass => True
        | .drop => True
        | .stamp wr => wr.offset.toNat + (match wr.format with | .binary => 9 | .bcd => 11) ≤ 1504
        | .trip p => p.source.toNat ≤ 63 ∧ p.group.toNat ≤ 15 ∧ (∀ u, p.unit = some u → 1 ≤ u.toNat ∧ u.toNat ≤ 6)
          ∧ (p.codeWidth = 1 ∧ p.clearCode.toNat < 0x100 ∨ p.codeWidth = 2)
          ∧ p.stateOffset.toNat + 2 ≤ 1504 ∧ p.codeOffset.toNat + p.codeWidth.toNat ≤ 1504
          ∧ (∀ o, p.embedded = some o → o.toNat + 8 ≤ 1504)
          ∧ (∀ wr, p.write = some wr →
              wr.offset.toNat + (match wr.format with | .binary => 9 | .bcd => 11) ≤ 1504)
        | .unit p => 1 ≤ p.unit.toNat ∧ p.unit.toNat ≤ 6 ∧ p.codeMap ≠ [] ∧ p.modeOffset.toNat + 1 ≤ 1504
          ∧ (∀ t, p.test = some t → t.1.toNat + 1 ≤ 1504)
        | .beacon o => o.toNat + 4 ≤ 1504
        | .handover v c o => v.toNat + 1 ≤ 1504 ∧ c.toNat + 1 ≤ 1504 ∧ o.toNat + 2 ≤ 1504))
    ∧ (commissioned s → entryValid i s.cls.standby[i] = false →
      (∀ j : Fin 128, j < i → entryValid j s.cls.standby[j] = true) →
      exec (.commitBank h body) s = .next (replied h 0x12 0x24 [BitVec.ofNat 8 i.val] (refusedOnce (taken s))))
    ∧ (commissioned s → (∀ j : Fin 128, entryValid j s.cls.standby[j] = true) → s.cls.work = none →
      exec (.commitBank h body) s = .next (replied h 0x12 0x00 []
        { taken s with cls := { s.cls with active := s.cls.standby, hits := Vector.replicate 128 0 } }))
    ∧ (commissioned s → (∀ j : Fin 128, entryValid j s.cls.standby[j] = true) → s.cls.work.isSome = true →
      exec (.commitBank h body) s = .next
        { taken s with resp := { s.resp with state := .commitWait, inProgress := some ⟨h, 0x12, body⟩ } })
    ∧ (live s = true → s.resp.state = .commitWait → s.cls.work = none → s.resp.inProgress = some r → r.code = 0x12 →
      s.resp.handed = [] →
      exec .commitBankActivated s = .next (replied r.head 0x12 0x00 []
        { s with
          cls := { s.cls with active := s.cls.standby, hits := Vector.replicate 128 0 }
          resp := { s.resp with state := .ready, inProgress := none } }))

/-- READ_FAULT and CLEAR_FAULT (R79): reading returns the captured fault's fields, or that there is none, and changes
nothing; clearing empties the record, is answered OK whether or not it held a fault, and leaves the counters of R77,
which READ_COUNTERS clears. That the fields are one optional item is the model's layout (log 12). -/
def Obligations.FaultRecord : Prop :=
  ∀ (s : State) (h : ReqHead) (body : List Byte), answering s →
    exec (.readFault h body) s = .next (replied h 0x04 0x00
      (match s.cls.fault with
        | none => 0 :: List.replicate 18 0
        | some f => 1 :: (be 1 (match f.kind with | .chainLimit => 0 | .pickOutside => 1) ++ be 1 f.index
            ++ be 1 (match f.port with | .u => 0 | .s => 1) ++ be 6 f.source.toNat
            ++ be 4 f.stamp.sec.toNat ++ be 4 f.stamp.ns ++ be 1 f.stamp.cls.val)) (taken s))
    ∧ exec (.clearFault h body) s = .next (replied h 0x05 0x00 [] { taken s with cls.fault := none })
    ∧ exec (.readCounters h (4 :: 1 :: body)) s = .next (replied h 0x03 0x00
        (4 :: be 2 6 ++ [s.cnt.cls.noMatchU, s.cnt.cls.noMatchS, s.cnt.cls.chainLimit, s.cnt.cls.pickOutside,
          s.cnt.cls.unitUnmapped, s.cnt.cls.handoverMalformed].flatMap (fun c => be 4 c.toNat))
        { taken s with cnt.cls := {} })

/-! ### Trip recorder -/

/-- A trip report that R87 judges new (an unused slot, or d in 1..32,767) or a source restart (d in 32,768..65,535 and
state number 0 or 1) (R87, R89 to R100, R107 to R113, R131, R147). A source restart, and a state number still in the
list, raise the epoch, flag the record restart and are counted; that the list is searched before a record gives way, and
also for a report then lost, is the model's (log 29). With room in the list its record stands at the tail with the next
sequence number and the report's fields, the slot holds its state number, and a trip stop asked for stops a running
unit. The record belongs to the newest closed shift, with the late flag, when its stamp lies before the open shift's,
and a TRIP record is counted there. A TRIP record reaches its group: it is counted, a masked group changes in nothing
else, a QUIET one takes it as candidate and settles or, with no window, decides, a SETTLING one keeps the earlier
candidate, and after the decision it is counted and compared. With a full list the first record from the head that is
acknowledged, of an earlier shift and referred to by no group gives way to it and is counted, its source's slot no
longer naming it. Where none may give way the report is lost: its number is used up, the slot is updated with no latest
record, a TRIP report sets its group's lost flag and still reaches its unit. -/
def Obligations.TripReportMakesRecord : Prop :=
  ∀ (r : TripReport) (s t : State) (before after : List TripRecord) (x : TripRecord) (slot : SourceSlot) (d : Nat)
      (back same : Bool), t = tripReport r s →
    slot = s.recorder.slots[r.source] → d = (r.stateNo - slot.lastNo).toNat → back = (slot.used && 32768 ≤ d) →
    same = s.recorder.list.any (fun y => y.source == r.source && y.stateNo == r.stateNo) →
    slot.used = false ∨ 1 ≤ d ∧ d ≤ 32767 ∨ 32768 ≤ d ∧ r.stateNo.toNat ≤ 1 →
    t.recorder.slots[r.source].epoch = slot.epoch + (if back || same then 1 else 0)
    ∧ t.cnt.recorder.restart = s.cnt.recorder.restart + (if back then 1 else 0)
    ∧ t.cnt.recorder.wrap = s.cnt.recorder.wrap + (if same && !back then 1 else 0)
    ∧ t.recorder.slots[r.source].repeats = slot.repeats ∧ t.recorder.slots[r.source].stales = slot.stales
    ∧ t.cnt.recorder.repeats = s.cnt.recorder.repeats ∧ t.cnt.recorder.stale = s.cnt.recorder.stale
    ∧ (s.recorder.list.length < 512
        ∨ s.recorder.list = before ++ x :: after ∧ x.acked = true ∧ x.shiftNo < s.shift.openRec.number
          ∧ (∀ g : Fin 16, s.ann[g].ref ≠ some x.seq) →
      t.recorder.list.getLast?.any (fun y =>
          y.seq == s.recorder.nextSeq && y.kind == r.kind && y.source == r.source && y.group == r.group
            && y.unit == r.unit && y.code == r.code && y.stateNo == r.stateNo && y.port == r.port
            && y.stamp == (recordStamp s.cfg.plausibility r).1 && y.stamp.cls == r.stamp.cls
            && y.mode == r.unit.map (fun u => s.tally[u].mode) && y.restart == (back || same)
            && y.epoch == slot.epoch + (if back || same then 1 else 0)) = true
      ∧ t.recorder.slots[r.source].latest = some s.recorder.nextSeq
      ∧ t.cnt.recorder.records = s.cnt.recorder.records + 1 ∧ t.cnt.recorder.lost = s.cnt.recorder.lost
      ∧ (r.kind = .clear → t.ann = s.ann ∧ t.shift = s.shift ∧ t.cnt.ann = s.cnt.ann
        ∧ t.recorder.list.getLast?.any (fun y => y.acked && !y.earlier && !y.firstOut) = true)
      ∧ (∀ (l : List ClosedShift) (c : ClosedShift),
        s.shift.list = l ++ [c] → earlierThan (recordStamp s.cfg.plausibility r).1 s.shift.openRec.opened = true →
        t.recorder.list.getLast?.any (fun y => y.shiftNo == c.base.number && y.late) = true
        ∧ (r.kind = .trip → c.base.number ≠ s.shift.openRec.number → (∀ y ∈ l, y.base.number ≠ c.base.number) →
          s.shift.state ≠ .acceptHeld →
          t.shift.list = l ++ [{ c with
              base.trips := min (c.base.trips + 1) 4294967295, base.late := min (c.base.late + 1) 4294967295 }]
            ∧ t.shift.openRec.trips = s.shift.openRec.trips))
      ∧ (s.shift.list = [] ∨ earlierThan (recordStamp s.cfg.plausibility r).1 s.shift.openRec.opened = false →
        t.recorder.list.getLast?.any (fun y => y.shiftNo == s.shift.openRec.number && !y.late) = true
        ∧ (r.kind = .trip → s.shift.state ≠ .acceptHeld →
          t.shift.list = s.shift.list
            ∧ t.shift.openRec.trips = min (s.shift.openRec.trips + 1) 4294967295))
      ∧ (∀ (g : Fin 16) (x : Group) (e : Bool) (c : TripRecord), r.kind = .trip → g = r.group →
        x = { s.ann[g] with trips := min (s.ann[g].trips + 1) 65535 } →
        e = earlierThan (recordStamp s.cfg.plausibility r).1 c.stamp →
        (∀ j : Fin 16, j ≠ g → t.ann[j] = s.ann[j])
        ∧ (maskedGroup s g = true → t.ann[g] = x
          ∧ t.cnt.ann = { s.cnt.ann with masked := s.cnt.ann.masked + 1 } ∧ t.resp.noticeNo = s.resp.noticeNo
          ∧ t.recorder.list.getLast?.any (fun y => y.acked && !y.earlier && !y.firstOut) = true)
        ∧ (maskedGroup s g = false → s.ann[g].state = .quiet → s.cfg.windows[g] ≠ 0 →
          t.ann[g] = { x with
              state := .settling, ref := some s.recorder.nextSeq
              deadline := some { s.now with m := s.clock.m + BitVec.ofNat 48 s.cfg.windows[g] } }
          ∧ t.cnt.ann = s.cnt.ann
          ∧ t.recorder.list.getLast?.any (fun y => !y.acked && !y.earlier && !y.firstOut) = true)
        ∧ (maskedGroup s g = false → s.ann[g].state = .quiet → s.cfg.windows[g] = 0 →
          t.ann[g] = { x with state := .announced, ref := some s.recorder.nextSeq, deadline := none }
          ∧ t.cnt.ann = { s.cnt.ann with decided := s.cnt.ann.decided + 1 }
          ∧ t.recorder.list.getLast?.any (fun y => !y.acked && !y.earlier && y.firstOut) = true)
        ∧ (maskedGroup s g = false → (s.ann[g].ref.bind fun q => s.recorder.list.find? (fun y => y.seq = q)) = some c →
          (s.ann[g].state = .settling →
            t.ann[g] = { x with ref := if e then some s.recorder.nextSeq else s.ann[g].ref }
            ∧ t.cnt.ann = s.cnt.ann
            ∧ t.recorder.list.getLast?.any (fun y => !y.acked && !y.earlier && !y.firstOut) = true)
          ∧ (s.ann[g].state = .announced ∨ s.ann[g].state = .acked →
            t.ann[g] = x
            ∧ t.cnt.ann = { s.cnt.ann with
                afterDecision := s.cnt.ann.afterDecision + 1
                earlier := s.cnt.ann.earlier + (if e then 1 else 0) }
            ∧ t.recorder.list.getLast?.any (fun y =>
                y.acked == (s.ann[g].state == .acked) && y.earlier == e && !y.firstOut) = true))))
    ∧ (s.recorder.list.length < 512 →
      t.recorder.list.length = s.recorder.list.length + 1 ∧ t.cnt.recorder.overwrite = s.cnt.recorder.overwrite)
    ∧ (512 ≤ s.recorder.list.length → s.recorder.list = before ++ x :: after →
      x.acked = true → x.shiftNo < s.shift.openRec.number → (∀ g : Fin 16, s.ann[g].ref ≠ some x.seq) →
      (∀ y ∈ before, y.acked = false ∨ s.shift.openRec.number ≤ y.shiftNo ∨ ∃ g : Fin 16, s.ann[g].ref = some y.seq) →
      t.recorder.list.map TripRecord.seq = (before ++ after).map TripRecord.seq ++ [s.recorder.nextSeq]
      ∧ t.cnt.recorder.overwrite = s.cnt.recorder.overwrite + 1
      ∧ (x.source ≠ r.source → s.recorder.slots[x.source].latest = some x.seq →
          t.recorder.slots[x.source].latest = none))
    ∧ (512 ≤ s.recorder.list.length →
      (∀ y ∈ s.recorder.list,
        y.acked = false ∨ s.shift.openRec.number ≤ y.shiftNo ∨ ∃ g : Fin 16, s.ann[g].ref = some y.seq) →
      t.recorder.list = s.recorder.list ∧ t.recorder.slots[r.source].latest = none
      ∧ t.cnt.recorder.lost = s.cnt.recorder.lost + 1 ∧ t.cnt.recorder.records = s.cnt.recorder.records
      ∧ t.ann = (if r.kind = .trip then s.ann.set r.group { s.ann[r.group] with lost := true } else s.ann)
      ∧ t.shift = s.shift
      ∧ Only [.recorder, .nRecorder, .ann, .tally, .nTally, .store, .nStore] s t)
    ∧ t.recorder.nextSeq = (if s.recorder.nextSeq = 0xFFFFFFFF#32 then 1 else s.recorder.nextSeq + 1)
    ∧ t.recorder.slots[r.source].used = true ∧ t.recorder.slots[r.source].lastNo = r.stateNo
    ∧ (∀ (u : Fin 6) (k : Fin 5), r.kind = .trip → r.unit = some u → r.unitStop = true →
        s.tally[u].mode.running = some k →
        t.tally[u].mode = .standstill ∧ t.tally[u].test = false
          ∧ t.tally[u].trips = min (s.tally[u].trips + 1) 4294967295
          ∧ t.tally[u].stops[k] = min (s.tally[u].stops[k] + 1) 4294967295
          ∧ (0 < s.cfg.holdLen[u] →
              t.tally[u].hold = some (s.clock.m + BitVec.ofNat 48 (s.cfg.holdLen[u] * 1000))))

/-- A repeat (R88): a report with the state number of its source's slot makes no record; the slot's repeat count and
TRIP_REPEAT go up by one, and the repeat count of the slot's latest record, where it has one, goes up by one to 65,535
at most; nothing else changes, so no stamp, flag, notice, candidate, window or unit. A stale report (R87) raises the
slot's stale count and TRIP_STALE alone. Hence a report that is not stale makes no record when it is taken a second
time, uses no sequence number and reaches no other block. -/
def Obligations.RepeatedReportMakesNoRecord : Prop :=
  ∀ (r : TripReport) (s : State),
    (s.recorder.slots[r.source].used = true → s.recorder.slots[r.source].lastNo = r.stateNo →
      tripReport r s = { s with
        recorder := { s.recorder with
          slots := s.recorder.slots.set r.source
            { s.recorder.slots[r.source] with repeats := s.recorder.slots[r.source].repeats + 1 }
          list := match s.recorder.slots[r.source].latest with
            | none => s.recorder.list
            | some q => s.recorder.list.map
                (fun x => if x.seq = q then { x with repeats := min (x.repeats + 1) 65535 } else x) }
        cnt.recorder.repeats := s.cnt.recorder.repeats + 1 })
    ∧ (s.recorder.slots[r.source].used = true → 32768 ≤ (r.stateNo - s.recorder.slots[r.source].lastNo).toNat →
      2 ≤ r.stateNo.toNat →
      tripReport r s = { s with
        recorder.slots := s.recorder.slots.set r.source
          { s.recorder.slots[r.source] with stales := s.recorder.slots[r.source].stales + 1 }
        cnt.recorder.stale := s.cnt.recorder.stale + 1 })
    ∧ (s.recorder.slots[r.source].used = false ∨ (r.stateNo - s.recorder.slots[r.source].lastNo).toNat ≤ 32767
        ∨ r.stateNo.toNat ≤ 1 →
      Only [.recorder, .nRecorder] (tripReport r s) (tripReport r (tripReport r s))
      ∧ (tripReport r (tripReport r s)).recorder.list.map TripRecord.seq
          = (tripReport r s).recorder.list.map TripRecord.seq
      ∧ (tripReport r (tripReport r s)).recorder.nextSeq = (tripReport r s).recorder.nextSeq
      ∧ (tripReport r (tripReport r s)).recorder.slots[r.source].repeats
          = (tripReport r s).recorder.slots[r.source].repeats + 1
      ∧ (tripReport r (tripReport r s)).cnt.recorder
          = { (tripReport r s).cnt.recorder with repeats := (tripReport r s).cnt.recorder.repeats + 1 })

/-! ### Annunciation -/

/-- SETTLE_DEADLINE (R111, R118, R157): the candidate's first-out flag, ANNOUNCED without a deadline, the count and the
notice; the shift unit adds the group, and a held accept completes when no group is left SETTLING. -/
def Obligations.SettleDeadline : Prop :=
  ∀ (s : State) (g : Fin 16) (d : Instant) (q : BitVec 32) (a : HeldAccept), s.supply.state = .run →
    s.ann[g].state = .settling → s.ann[g].deadline = some d → reached d s.now = true → s.ann[g].ref = some q →
    ∃ t, exec (.settleDeadline g) s = .next t
      ∧ t.ann[g] = { s.ann[g] with state := .announced, deadline := none }
      ∧ (∀ j : Fin 16, j ≠ g → t.ann[j] = s.ann[j])
      ∧ t.recorder
        = { s.recorder with
            list := s.recorder.list.map (fun r => if r.seq = q then { r with firstOut := true } else r) }
      ∧ t.cnt.ann.decided = s.cnt.ann.decided + 1
      ∧ (s.shift.state ≠ .acceptHeld →
          t.shift = { s.shift with openRec.firstOut := s.shift.openRec.firstOut ||| (1#16 <<< g.val) }
            ∧ (live s = true → (findRecord q s.recorder.list).isSome = true →
                t.resp.noticeNo = s.resp.noticeNo + 1))
      ∧ (s.shift.state = .acceptHeld → s.shift.accept = some a → (∀ j : Fin 16, j ≠ g → s.ann[j].state ≠ .settling) →
          t.shift.state = .onShift ∧ t.shift.openRec.number = s.shift.openRec.number + 1
            ∧ t.shift.openRec.crew = a.crew ∧ t.shift.openRec.opened = a.stamp
            ∧ t.cnt.shift.completed = s.cnt.shift.completed + 1)
      ∧ (s.shift.state = .acceptHeld → (∃ j : Fin 16, j ≠ g ∧ s.ann[j].state = .settling) →
          t.shift.state = .acceptHeld ∧ t.shift.openRec.number = s.shift.openRec.number)
      ∧ Only [.ann, .nAnn, .recorder, .shift, .nShift, .tally, .nTally, .store, .nStore, .portS, .resp, .nPortS, .nResp]
          s t

/-- ACK_GROUP (R114): an ANNOUNCED group is acknowledged with all its records; in every other state the answer is
NOT_ANNOUNCED, and a number above 15 is BAD_VALUE, with nothing changed. The notice numbers its items as log 10 says, and
stands before the reply in port S's frames (log 23). -/
def Obligations.AckGroup : Prop :=
  ∀ (s : State) (h : ReqHead) (g : Fin 16) (n : Byte) (pad : List Byte), answering s →
    (s.ann[g].state = .announced →
      exec (.ackGroup h (BitVec.ofNat 8 g.val :: pad)) s = .next (replied h 0x07 0x00 [] (acknowledged g (taken s))))
    ∧ (s.ann[g].state ≠ .announced →
      exec (.ackGroup h (BitVec.ofNat 8 g.val :: pad)) s = .next (replied h 0x07 0x20 [] (refusedOnce (taken s))))
    ∧ (15 < n.toNat → exec (.ackGroup h (n :: pad)) s = .next (replied h 0x07 0x11 [] (refusedOnce (taken s))))

/-- ACK_NEXT (R115): the lowest-numbered ANNOUNCED group is acknowledged exactly as ACK_GROUP would and its number
carried in the reply; with none ANNOUNCED the answer is NOTHING_TO_ACK and no group changes. The notice numbers its
items as log 10 says, and stands before the reply in port S's frames (log 23). -/
def Obligations.AckNext : Prop :=
  ∀ (s : State) (h : ReqHead) (g : Fin 16) (body : List Byte), answering s →
    (s.ann[g].state = .announced → (∀ j : Fin 16, j < g → s.ann[j].state ≠ .announced) →
      exec (.ackNext h body) s
        = .next (replied h 0x08 0x00 [BitVec.ofNat 8 g.val] (acknowledged g (taken s))))
    ∧ ((∀ j : Fin 16, s.ann[j].state ≠ .announced) →
      exec (.ackNext h body) s = .next (replied h 0x08 0x21 [] (refusedOnce (taken s))))

/-- RESET_GROUP (R116), state by state, and a number above 15. The notice numbers its items as log 10 says, and stands
before the reply in port S's frames (log 23). -/
def Obligations.ResetGroup : Prop :=
  ∀ (s : State) (h : ReqHead) (g : Fin 16) (n : Byte) (pad : List Byte), answering s →
    (s.ann[g].state = .quiet →
      exec (.resetGroup h (BitVec.ofNat 8 g.val :: pad)) s
        = .next (replied h 0x09 0x00 []
            { taken s with ann := s.ann.set g { s.ann[g] with trips := 0, lost := false } }))
    ∧ (s.ann[g].state = .settling →
      exec (.resetGroup h (BitVec.ofNat 8 g.val :: pad)) s = .next (replied h 0x09 0x23 [] (refusedOnce (taken s))))
    ∧ (s.ann[g].state = .announced →
      exec (.resetGroup h (BitVec.ofNat 8 g.val :: pad)) s = .next (replied h 0x09 0x22 [] (refusedOnce (taken s))))
    ∧ (s.ann[g].state = .acked →
      exec (.resetGroup h (BitVec.ofNat 8 g.val :: pad)) s
        = .next (replied h 0x09 0x00 []
            (notice 0x82 (be 1 g.val ++ [0, 1, 0, 0, 0, 0, 0, 0, 0, 1])
              { taken s with
                ann := s.ann.set g { s.ann[g] with state := .quiet, ref := none, trips := 0, lost := false }
                cnt.ann.reset := s.cnt.ann.reset + 1 })))
    ∧ (15 < n.toNat → exec (.resetGroup h (n :: pad)) s = .next (replied h 0x09 0x11 [] (refusedOnce (taken s))))

/-- SET_MASK (R117): the group's mask becomes masked (0) or unmasked (1) and nothing else changes, the group's state
included; a group above 15 or another mask value is BAD_VALUE. The two numbers are those of log 10. -/
def Obligations.SetMask : Prop :=
  ∀ (s : State) (h : ReqHead) (g : Fin 16) (masked : Bool) (m : BitVec 16) (n v : Byte) (pad : List Byte),
    commissioned s →
    ((∀ j : Fin 16, m.getLsbD j.val = if j = g then masked else s.cfg.masks.getLsbD j.val) →
      exec (.setMask h (BitVec.ofNat 8 g.val :: (if masked then 0 else 1) :: pad)) s
        = .next (replied h 0x14 0x00 [] { taken s with cfg := { s.cfg with masks := m } }))
    ∧ (15 < n.toNat ∨ 1 < v.toNat →
      exec (.setMask h (n :: v :: pad)) s = .next (replied h 0x14 0x11 [] (refusedOnce (taken s))))

/-! ### Tally unit -/

/-- Crediting (R128) leaves the value of every run time as it was at that instant, for every stored run time within its
limit, and starts the interval anew. -/
def Obligations.CreditingKeepsValues : Prop :=
  ∀ (u : UnitRec) (m : Elapsed) (k : Fin 6), u.run[k] ≤ 3599999999999 →
    (u.credit m).value m k = u.value m k ∧ (u.credit m).start = m ∧ (u.credit m).mode = u.mode
      ∧ (u.credit m).test = u.test ∧ (u.credit m).starts = u.starts ∧ (u.credit m).stops = u.stops

/-- TRIP_HOLD_EXPIRY and HOURLY_REQUEST (R132, R134, R192): a trip hold whose deadline is reached becomes absent and
nothing else changes; a running unit an hour past its last checkpoint asks for one with reason HOURLY, which an already
pending flag coalesces; one that has asked asks for nothing further until the writer starts its checkpoint, by the model's
item of log 15. -/
def Obligations.TallyDeadlines : Prop :=
  ∀ (s : State) (u : Fin 6) (d : Elapsed) (why : Reason), s.supply.state = .run →
    (s.tally[u].hold = some d → reachedM d s.clock.m = true →
      exec (.tripHoldExpiry u) s = .next { s with tally := s.tally.set u { s.tally[u] with hold := none } })
    ∧ (s.tally[u].mode.running.isSome = true → 3600000 ≤ (s.clock.m - s.tally[u].lastCkpt).toNat →
        s.tally[u].hourlyAsked = false → s.store.flags[u] = none →
      exec (.hourlyRequest u) s = .next { s with
        tally := s.tally.set u { s.tally[u] with hourlyAsked := true }
        cnt.tally.hourly := s.cnt.tally.hourly + 1
        store.flags := s.store.flags.set u (some .hourly)
        store.order := s.store.order ++ [u] })
    ∧ (s.tally[u].mode.running.isSome = true → 3600000 ≤ (s.clock.m - s.tally[u].lastCkpt).toNat →
        s.tally[u].hourlyAsked = false → s.store.flags[u] = some why →
      exec (.hourlyRequest u) s = .next { s with
        tally := s.tally.set u { s.tally[u] with hourlyAsked := true }
        cnt.tally.hourly := s.cnt.tally.hourly + 1
        cnt.store.coalesced := s.cnt.store.coalesced + 1 })
    ∧ (s.tally[u].hourlyAsked = true → exec (.hourlyRequest u) s = .next s)

/-- PRESET_TALLY of one run time (R137, R138): clamped to its range, the run time takes the value, its saturated flag
says whether that is the limit, and the open shift's snapshot moves so that the time counted in the shift stays; the
other run times keep their values, the unit's hour meters are realigned without a pulse, and the unit's checkpoint is
pending. -/
def Obligations.PresetKeepsShiftRun : Prop :=
  ∀ (s : State) (h : ReqHead) (i k : Fin 6) (sec ms : Nat) (pad : List Byte), commissioned s →
    sec < 2 ^ 32 → ms < 2 ^ 16 →
    ∃ u, exec (.presetTally h (be 1 (i.val + 1) ++ [1, 0] ++ be 1 k.val ++ be 4 sec ++ be 2 ms ++ pad)) s
        = .next (replied h 0x16 (if 3599999999 < sec ∨ 999 < ms then 0x01 else 0x00) [] u)
      ∧ u.tally[i].run[k] = min sec 3599999999 * 1000 + min ms 999
      ∧ u.tally[i].saturated[k] = decide (3599999999 ≤ sec ∧ 999 ≤ ms)
      ∧ (∀ j : Fin 6, j ≠ k → u.tally[i].run[j] = s.tally[i].value s.clock.m j)
      ∧ (u.tally[i].run[k] : Int) - u.shift.openRec.snaps[i][k]
          = (s.tally[i].value s.clock.m k : Int) - s.shift.openRec.snaps[i][k]
      ∧ (∀ (v j : Fin 6), ¬(v = i ∧ j = k) → u.shift.openRec.snaps[v][j] = s.shift.openRec.snaps[v][j])
      ∧ (∀ v : Fin 6, v ≠ i → u.tally[v] = s.tally[v])
      ∧ u.tally[i].start = s.clock.m ∧ u.tally[i].mode = s.tally[i].mode ∧ u.tally[i].test = s.tally[i].test
      ∧ u.tally[i].starts = s.tally[i].starts ∧ u.tally[i].stops = s.tally[i].stops
      ∧ u.tally[i].trips = s.tally[i].trips ∧ u.tally[i].hold = s.tally[i].hold
      ∧ u.tally[i].preOutage = s.tally[i].preOutage
      ∧ u.store.flags[i] = some (s.store.flags[i].getD .preset)
      ∧ (∀ n : Fin 8, u.lines[n].pulse = s.lines[n].pulse
          ∧ (s.cfg.lines[n].function = .hourMeter → s.cfg.lines[n].unit = i →
              u.lines[n].mark ≤ tallySecs u s.cfg.lines[n].selection
                ∧ tallySecs u s.cfg.lines[n].selection < u.lines[n].mark + 36
                ∧ u.lines[n].basis = some s.cfg.lines[n].selection))
      ∧ Only [.tally, .nTally, .shift, .lines, .nLines, .store, .nStore] (taken s) u

/-- Run times (R129): from a state whose run times lie within their limit, every command but PRESET_TALLY, COLD_START
and those that lose the retained domain leaves each stored run time no lower than it was and within the limit. What a
lost run time reads until then is the model's (log 9). -/
def Obligations.RunTimesNeverDecrease : Prop :=
  ∀ (c : Instr) (s t : State), runsOk s → maySetRunTimes c = false → exec c s = .next t →
    ∀ u k : Fin 6, s.tally[u].run[k] ≤ t.tally[u].run[k] ∧ t.tally[u].run[k] ≤ 3599999999999

/-! ### Shift unit -/

/-- OVERDUE_EXPIRY and OFFER_LAPSE (R155, R156), each where its deadline is reached. -/
def Obligations.HandoverDeadlines : Prop :=
  ∀ (s : State) (d : Elapsed), s.supply.state = .run →
    (s.shift.overdueAt = some d → reachedM d s.clock.m = true →
      ∃ t, exec .overdueExpiry s = .next t
        ∧ t.shift = { s.shift with overdueAt := none, overdue := true }
        ∧ t.cnt.shift = { s.cnt.shift with overdue := s.cnt.shift.overdue + 1 }
        ∧ (live s = true → t.resp.noticeNo = s.resp.noticeNo + 1)
        ∧ Only [.shift, .nShift, .portS, .resp, .nPortS, .nResp] s t)
    ∧ (s.shift.state = .offered → s.shift.lapseAt = some d → reachedM d s.clock.m = true →
      ∃ t, exec .offerLapse s = .next t
        ∧ t.shift.offer = none ∧ t.shift.lapseAt = none ∧ t.shift.openRec = s.shift.openRec
        ∧ t.shift.list = s.shift.list
        ∧ (s.shift.expected.isSome = true →
            t.shift.state = .window ∧ t.shift.expected = s.shift.expected ∧ t.shift.window = s.shift.window
              ∧ t.shift.overdueAt = s.shift.overdueAt ∧ t.shift.overdue = s.shift.overdue)
        ∧ (s.shift.expected.isSome = false → t.shift.state = .onShift)
        ∧ t.cnt.shift = { s.cnt.shift with lapsed := s.cnt.shift.lapsed + 1 }
        ∧ (live s = true → t.resp.noticeNo = s.resp.noticeNo + 1)
        ∧ Only [.shift, .nShift, .portS, .resp, .nPortS, .nResp] s t)

/-- FORCE_HANDOVER (R158, R159, R160, R161): refused with SETTLING while any group settles; else the open record is
closed with the request's stamp and each run time in whole seconds since its snapshot, and the next one opened with the
same stamp, elapsed count and snapshot, the crew clamped, the announced groups handed over, the handover in progress
cleared and every unit's checkpoint pending. -/
def Obligations.ForceHandover : Prop :=
  ∀ (s : State) (h : ReqHead) (crew : Byte) (pad : List Byte), commissioned s →
    ((∀ g : Fin 16, s.ann[g].state ≠ .settling) →
      ∃ u, exec (.forceHandover h (crew :: pad)) s
          = .next (replied h 0x17 (if 1 ≤ crew.toNat ∧ crew.toNat ≤ 15 then 0x00 else 0x01) [] u)
        ∧ u.shift.state = .onShift ∧ u.shift.offer = none ∧ u.shift.accept = none ∧ u.shift.expected = none
        ∧ u.shift.overdueAt = none ∧ u.shift.lapseAt = none ∧ u.shift.warned = none
        ∧ u.shift.window = none ∧ u.shift.overdue = false
        ∧ (∃ c, u.shift.list.getLast? = some c
          ∧ ∀ v k : Fin 6, s.shift.openRec.snaps[v][k] ≤ s.tally[v].value s.clock.m k →
            c.runSecs[v][k] = (s.tally[v].value s.clock.m k - s.shift.openRec.snaps[v][k]).toNat / 1000)
        ∧ u.shift.openRec.number = s.shift.openRec.number + 1
        ∧ u.shift.openRec.crew = max 1 (min 15 crew.toNat)
        ∧ u.shift.openRec.opened = h.stamp ∧ u.shift.openRec.openedElapsed = s.clock.m
        ∧ u.shift.openRec.incoming = none ∧ u.shift.openRec.entry = s.shift.window
        ∧ u.shift.openRec.overdue = s.shift.overdue
        ∧ (∀ g : Fin 16, u.shift.openRec.inherited.getLsbD g.val = decide (s.ann[g].state = .announced))
        ∧ u.shift.openRec.trips = 0 ∧ u.shift.openRec.late = 0 ∧ u.shift.openRec.firstOut = 0
        ∧ (∀ v k : Fin 6, u.shift.openRec.snaps[v][k] = (s.tally[v].value s.clock.m k : Int))
        ∧ u.shift.list.getLast?.any (fun c =>
            c.base == s.shift.openRec && c.outgoing == s.shift.offer && c.closed == h.stamp
              && c.closedElapsed == s.clock.m && c.handedOver == u.shift.openRec.inherited
              && c.closeVals == u.shift.openRec.snaps
              && c.duration == (s.clock.m - s.shift.openRec.openedElapsed).toNat / 1000) = true
        ∧ u.shift.list.length = (if s.shift.list.length < 16 then s.shift.list.length + 1
            else max s.shift.list.length 1)
        ∧ (∀ v : Fin 6, u.store.flags[v] = some (s.store.flags[v].getD .shiftClose))
        ∧ u.cnt.shift = { s.cnt.shift with
            completed := s.cnt.shift.completed + 1, forced := s.cnt.shift.forced + 1 }
        ∧ Only [.shift, .nShift, .tally, .nTally, .store, .nStore, .portS, .resp, .nPortS, .nResp] (taken s) u)
    ∧ ((∃ g : Fin 16, s.ann[g].state = .settling) →
      exec (.forceHandover h (crew :: pad)) s = .next (replied h 0x17 0x23 [] (refusedOnce (taken s))))

/-! ### Pulse lines -/

/-- DRIVE_END (R170, R171, R176, R179): the wire is released, the pending changes and dial settings are applied in order
of taking, and the function then in force decides between a GAP and REST. The line's records agree with each change as it
is applied: a dial setting replaces cycle, position and next polarity, a new function keeps or loses the dial, and an hour
meter whose selection is not its basis is realigned and counted. The target of a new slave function is the model's (log
20). -/
def Obligations.DriveEnd : Prop :=
  ∀ (s : State) (i : Fin 8) (w : Wire) (e : Elapsed) (c : LineCfg) (l : Line) (n : Count), live s = true →
    s.lines[i].pulse = .drive w e → reachedM e s.clock.m = true →
    (c, l, n) = s.lines[i].pending.foldl (changeTaken s) (s.cfg.lines[i], s.lines[i], 0) →
    ∃ t, exec (.driveEnd i) s = .next t
      ∧ c = s.lines[i].pending.foldl LineCfg.apply s.cfg.lines[i]
      ∧ t.cfg = { s.cfg with lines := s.cfg.lines.set i c }
      ∧ t.lines[i] = { l with pulse := t.lines[i].pulse, pending := [] }
      ∧ t.cnt.lines = { s.cnt.lines with realign := s.cnt.lines.realign + n }
      ∧ t.lines[i].pulse = (match c.function with
          | .slaveMinute => .gap (s.clock.m + BitVec.ofNat 48 c.gap)
          | .slaveHalf => .gap (s.clock.m + BitVec.ofNat 48 c.gap)
          | .hourMeter => .gap (s.clock.m + BitVec.ofNat 48 c.gap)
          | .secondMark => .rest
          | .off => .rest)
      ∧ (s.lines[i].pending = [] → t.lines[i] = { s.lines[i] with pulse := t.lines[i].pulse })
      ∧ (∀ (p : Nat) (pol : Wire) (cy : Cycle), s.lines[i].pending = [.dial p pol] → c.function.cycle = some cy →
        t.lines[i] = { s.lines[i] with
          pulse := t.lines[i].pulse, pending := [], cycle := some cy, pos := p, pol := pol })
      ∧ (∀ j : Fin 8, j ≠ i → t.lines[j] = s.lines[j])
      ∧ Only [.lines, .nLines, .cfg] s t

/-- GAP_END and METER_THRESHOLD (R171, R173, R174, R178): at the end of its gap the line enters REST and decides. A
slave line with a known dial, `d` steps behind its target and not ahead by the hold span, begins a pulse with the
opposite polarity next; an hour meter does so when its tally has met the mark plus 36, as it does in REST when the tally
meets it; otherwise the line rests. Where a line's gap end falls together with a second rollover on an empty queue,
either is taken first: the renewal is recorded in the gap, or the pulse is decided on the old target and the renewal
recorded in its drive. The order is a free choice, for which log 30 says how the step takes it. -/
def Obligations.GapEndAndMeterThreshold : Prop :=
  ∀ (s : State) (i : Fin 8) (e : Elapsed) (cy : Cycle) (t0 d : Nat), live s = true →
    (s.lines[i].pulse = .gap e → reachedM e s.clock.m = true →
      (s.cfg.lines[i].function.cycle = some cy → s.clock.state ≠ .unset → s.lines[i].cycle = some cy →
        s.lines[i].target = some t0 → d = (t0 + cy.steps - s.lines[i].pos) % cy.steps →
        (1 ≤ d → d ≤ cy.steps - s.cfg.lines[i].holdSteps →
          exec (.gapEnd i) s = .next { s with
            lines := s.lines.set i { s.lines[i] with
              pulse := .drive s.lines[i].pol (s.clock.m + BitVec.ofNat 48 (clampNat 20 2000 s.cfg.lines[i].width))
              pos := (s.lines[i].pos + 1) % cy.steps
              pol := if s.lines[i].pol = .a then .b else .a }
            cnt.lines.pulses := s.cnt.lines.pulses.set i (s.cnt.lines.pulses[i] + 1) })
        ∧ (d = 0 ∨ cy.steps - s.cfg.lines[i].holdSteps < d →
          exec (.gapEnd i) s = .next { s with lines := s.lines.set i { s.lines[i] with pulse := .rest } }))
      ∧ (s.cfg.lines[i].function.cycle = some cy → s.clock.state = .unset ∨ s.lines[i].cycle = none →
          exec (.gapEnd i) s = .next { s with lines := s.lines.set i { s.lines[i] with pulse := .rest } })
      ∧ (s.cfg.lines[i].function = .hourMeter → s.lines[i].mark + 36 ≤ tallySecs s s.cfg.lines[i].selection →
          exec (.gapEnd i) s = .next { s with
            lines := s.lines.set i { s.lines[i] with
              pulse := .drive .a (s.clock.m + BitVec.ofNat 48 (clampNat 20 2000 s.cfg.lines[i].width))
              mark := s.lines[i].mark + 36 }
            cnt.lines.pulses := s.cnt.lines.pulses.set i (s.cnt.lines.pulses[i] + 1) })
      ∧ (s.cfg.lines[i].function = .hourMeter → tallySecs s s.cfg.lines[i].selection < s.lines[i].mark + 36 →
          exec (.gapEnd i) s = .next { s with lines := s.lines.set i { s.lines[i] with pulse := .rest } })
      ∧ (s.cfg.lines[i].function = .off ∨ s.cfg.lines[i].function = .secondMark →
          exec (.gapEnd i) s = .next { s with lines := s.lines.set i { s.lines[i] with pulse := .rest } }))
    ∧ (s.lines[i].pulse = .rest → s.cfg.lines[i].function = .hourMeter →
        s.lines[i].mark + 36 ≤ tallySecs s s.cfg.lines[i].selection →
      exec (.meterThreshold i) s = .next { s with
        lines := s.lines.set i { s.lines[i] with
          pulse := .drive .a (s.clock.m + BitVec.ofNat 48 (clampNat 20 2000 s.cfg.lines[i].width))
          mark := s.lines[i].mark + 36 }
        cnt.lines.pulses := s.cnt.lines.pulses.set i (s.cnt.lines.pulses[i] + 1) })
    ∧ (∀ (x u : State) (l : Line), s.pending = [] → dueEvents s = [] → s.cls.work = none → ticks s = true →
      tickCarries s = true → s.clock.sec ≠ 0xFFFFFFFF#32 →
      x = { elapsedTick s with choices := s.choices + 1 } → dueEvents x = [.gapEnd i] →
      s.cfg.lines[i].function.cycle = some cy → s.clock.state ≠ .unset → s.lines[i].cycle = some cy →
      s.lines[i].target = some t0 → d = (t0 + cy.steps - s.lines[i].pos) % cy.steps → 1 ≤ d →
      d ≤ cy.steps - s.cfg.lines[i].holdSteps →
      l = { s.lines[i] with
        pulse := .drive s.lines[i].pol (x.clock.m + BitVec.ofNat 48 (clampNat 20 2000 s.cfg.lines[i].width))
        pos := (s.lines[i].pos + 1) % cy.steps
        pol := if s.lines[i].pol = .a then .b else .a } →
      u = { x with
        lines := x.lines.set i l
        cnt.lines.pulses := x.cnt.lines.pulses.set i (x.cnt.lines.pulses[i] + 1) } → dueEvents u = [] →
      ∃ t, step s = .next t ∧ t.clock.sec = s.clock.sec + 1
        ∧ (t.lines[i] = { s.lines[i] with
              target := some (targetAt s.cfg.lines[i].function (localTime s.cfg.cal (s.clock.sec + 1))) }
          ∨ t.lines[i] = { l with
              target := some (targetAt s.cfg.lines[i].function (localTime s.cfg.cal (s.clock.sec + 1))) }))

/-- SET_DIAL (R176): refused for a line or polarity outside its set, for a line that will not be a slave line, and with
BUSY in DRIVE behind 8 changes; else the dial is set, its position clamped: at once in GAP, behind the drive in DRIVE, and
in REST with a pulse decision. -/
def Obligations.SetDial : Prop :=
  ∀ (s : State) (h : ReqHead) (i : Fin 8) (w : Wire) (pos t0 p : Nat) (cy : Cycle) (n v : Byte) (pad : List Byte),
    answering s → pos < 65536 → p = min pos (cy.steps - 1) →
    (7 < n.toNat ∨ 1 < v.toNat →
      exec (.setDial h (n :: be 2 pos ++ v :: pad)) s = .next (replied h 0x0F 0x11 [] (refusedOnce (taken s))))
    ∧ (s.lines[i].pending = [] → s.cfg.lines[i].function.cycle = none →
      exec (.setDial h (BitVec.ofNat 8 i.val :: be 2 pos ++ BitVec.ofNat 8 w.code :: pad)) s
        = .next (replied h 0x0F 0x25 [] (refusedOnce (taken s))))
    ∧ ((projectedCfg i s).function.cycle = some cy → s.lines[i].pulse.wire.isSome = true →
        8 ≤ s.lines[i].pending.length →
      exec (.setDial h (BitVec.ofNat 8 i.val :: be 2 pos ++ BitVec.ofNat 8 w.code :: pad)) s
        = .next (replied h 0x0F 0x13 [] (refusedOnce (taken s))))
    ∧ ((projectedCfg i s).function.cycle = some cy → s.lines[i].pulse.wire.isSome = true →
        s.lines[i].pending.length < 8 →
      exec (.setDial h (BitVec.ofNat 8 i.val :: be 2 pos ++ BitVec.ofNat 8 w.code :: pad)) s
        = .next (replied h 0x0F (if cy.steps ≤ pos then 0x01 else 0x00) []
            { taken s with
              lines := s.lines.set i { s.lines[i] with pending := s.lines[i].pending ++ [.dial p w] }
              cnt.lines.dialSet := s.cnt.lines.dialSet + 1 }))
    ∧ (s.lines[i].pending = [] → s.cfg.lines[i].function.cycle = some cy → s.lines[i].pulse.wire.isSome = false →
        s.lines[i].pulse.ends.isSome = true ∨ s.clock.state = .unset ∨ s.lines[i].target = none
          ∨ s.lines[i].target = some p →
      exec (.setDial h (BitVec.ofNat 8 i.val :: be 2 pos ++ BitVec.ofNat 8 w.code :: pad)) s
        = .next (replied h 0x0F (if cy.steps ≤ pos then 0x01 else 0x00) []
            { taken s with
              lines := s.lines.set i { s.lines[i] with cycle := some cy, pos := p, pol := w }
              cnt.lines.dialSet := s.cnt.lines.dialSet + 1 }))
    ∧ (s.lines[i].pending = [] → s.cfg.lines[i].function.cycle = some cy → s.lines[i].pulse = .rest →
        s.clock.state ≠ .unset → s.lines[i].target = some t0 → 1 ≤ (t0 + cy.steps - p) % cy.steps →
        (t0 + cy.steps - p) % cy.steps ≤ cy.steps - s.cfg.lines[i].holdSteps →
      exec (.setDial h (BitVec.ofNat 8 i.val :: be 2 pos ++ BitVec.ofNat 8 w.code :: pad)) s
        = .next (replied h 0x0F (if cy.steps ≤ pos then 0x01 else 0x00) []
            { taken s with
              lines := s.lines.set i { s.lines[i] with
                cycle := some cy, pos := (p + 1) % cy.steps, pol := if w = .a then .b else .a
                pulse := .drive w (s.clock.m + BitVec.ofNat 48 (clampNat 20 2000 s.cfg.lines[i].width)) }
              cnt.lines := { s.cnt.lines with
                pulses := s.cnt.lines.pulses.set i (s.cnt.lines.pulses[i] + 1)
                dialSet := s.cnt.lines.dialSet + 1 } }))

/-! ### Supply, start sequences, reset line -/

/-- BACKUP_ENTRY (R23, R105, R120, R142, R166, R181, R183, R186, R192, R195). The clock holds over with T := I, every
unit's interval is credited and the unit UNKNOWN with its pre-outage mode, settling groups are announced, an offer in
progress ends and no handover deadline stands, lines rest and keep their dials and marks, every checkpoint request is
discarded, a program in flight leaves its slot or the image torn, and VBACKUP is judged at once; below 2.2 V the
retained domain is lost. Of the main domain the statement says only what R186 says; the rest of its lost items stand at
values of the model (log 9). -/
def Obligations.BackupEntry : Prop :=
  ∀ (s : State) (mv : Nat), s.supply.state = .run →
    ∃ t, exec (.backupEntry mv) s = .next t
      ∧ t.supply.state = (if mv < 1800 then .off else .backup)
      ∧ t.supply.retention = (if mv < 2200 then false else s.supply.retention)
      ∧ t.supply.commission = s.supply.commission ∧ t.supply.resetLine = s.supply.resetLine
      ∧ (2200 ≤ mv →
          t.supply.backupEntry = some s.clock.m
          ∧ (s.clock.state = .acquire ∨ s.clock.state = .locked →
              t.clock.state = .holdover ∧ t.clock.trim = s.clock.integral)
          ∧ (s.clock.state ≠ .acquire → s.clock.state ≠ .locked →
              t.clock.state = s.clock.state ∧ t.clock.trim = s.clock.trim)
          ∧ t.clock.sec = s.clock.sec ∧ t.clock.ns = s.clock.ns ∧ t.clock.frac = s.clock.frac ∧ t.clock.m = s.clock.m
          ∧ t.clock.accNs = s.clock.accNs ∧ t.clock.accFrac = s.clock.accFrac
          ∧ t.clock.integral = s.clock.integral ∧ t.clock.lastMarker = s.clock.lastMarker
          ∧ t.clock.held = none ∧ t.clock.good = 0 ∧ t.clock.pendingDiff = none
          ∧ (∀ u : Fin 6, t.tally[u].mode = .unknown ∧ t.tally[u].test = false ∧ t.tally[u].hold = none
              ∧ t.tally[u].start = s.clock.m
              ∧ t.tally[u].preOutage
                  = (if s.tally[u].mode = .unknown then s.tally[u].preOutage else some s.tally[u].mode)
              ∧ t.tally[u].starts = s.tally[u].starts ∧ t.tally[u].stops = s.tally[u].stops
              ∧ t.tally[u].trips = s.tally[u].trips
              ∧ ∀ k : Fin 6, t.tally[u].run[k] = s.tally[u].value s.clock.m k)
          ∧ (∀ g : Fin 16,
              t.ann[g] = (if s.ann[g].state = .settling then { s.ann[g] with state := .announced, deadline := none }
                else s.ann[g]))
          ∧ t.recorder.slots = s.recorder.slots ∧ t.recorder.nextSeq = s.recorder.nextSeq
          ∧ t.recorder.list.map TripRecord.seq = s.recorder.list.map TripRecord.seq
          ∧ t.shift.openRec = s.shift.openRec ∧ t.shift.list = s.shift.list
          ∧ t.shift.overdueAt = none ∧ t.shift.lapseAt = none
          ∧ (s.shift.state = .offered ∨ s.shift.state = .acceptHeld →
              t.shift.state = (if s.shift.expected.isSome then .window else .onShift)
                ∧ t.shift.offer = none ∧ t.shift.accept = none)
          ∧ (s.shift.state ≠ .offered → s.shift.state ≠ .acceptHeld →
              t.shift = { s.shift with overdueAt := none, lapseAt := none })
          ∧ (∀ i : Fin 8, t.lines[i] = { s.lines[i] with pulse := .rest, pending := [], target := none })
          ∧ t.store.highestGen = s.store.highestGen ∧ t.store.writePos = s.store.writePos)
      ∧ t.store.flags = Vector.replicate 6 none ∧ t.store.order = [] ∧ t.store.engine = .idle
      ∧ t.store.waiting = none
      ∧ t.store.slots = (match s.store.engine with
          | .checkpoint _ slot _ _ _ _ => s.store.slots.set slot .torn
          | .idle => s.store.slots
          | .image _ _ _ => s.store.slots)
      ∧ t.store.image = (match s.store.engine with
          | .image _ _ _ => .torn
          | .idle => s.store.image
          | .checkpoint _ _ _ _ _ _ => s.store.image)
      ∧ t.portU = PortPath.empty ∧ t.portS = PortPath.empty ∧ t.cls.work = none

/-- RETENTION_VALID_CLEARED, SUPPLY_OFF and COMMISSION_CHANGE (R183, R184, R202): in BACKUP the first clears the flag
and the second leaves OFF, and neither touches the nonvolatile store; the third sets the debounced level alone. -/
def Obligations.SupplyEvents : Prop :=
  ∀ (s : State) (asserted : Bool),
    (s.supply.state = .backup → ∃ t, exec .retentionValidCleared s = .next t
      ∧ t.supply.state = .backup ∧ t.supply.retention = false
      ∧ t.store.slots = s.store.slots ∧ t.store.image = s.store.image ∧ t.store.serial = s.store.serial
      ∧ coldStartDue t = true ∧ warmStartDue t = false)
    ∧ (s.supply.state = .backup → ∃ t, exec .supplyOff s = .next t
      ∧ t.supply.state = .off ∧ t.supply.retention = false
      ∧ t.store.slots = s.store.slots ∧ t.store.image = s.store.image ∧ t.store.serial = s.store.serial
      ∧ coldStartDue t = true ∧ warmStartDue t = false)
    ∧ exec (.commissionChange asserted) s = .next { s with supply.commission := asserted }

/-- The retention-valid flag (R184): set in RUN, clear in OFF, and once cleared it stays clear until the next cold start:
no other command sets it. -/
def Obligations.RetentionFlag : Prop :=
  ∀ (c : Instr) (s t : State), supplyOk s → exec c s = .next t →
    supplyOk t ∧ (c ≠ .coldStart → s.supply.retention = false → t.supply.retention = false)

/-- COLD_START (R25, R106, R122, R144, R168, R182, R188, R197, R198). Each unit's tallies come from its valid record of
highest generation, or are 0; the retained domain stands at its initial values and the flag is set. With the reset line
released the image, or the defaults, is loaded and a POWER notice is emitted; under an asserted line the sequence halts,
and its release goes on to the state the cold start would have reached without it (R189). That the sequence takes no
time is the model's (log 18). -/
def Obligations.ColdStart : Prop :=
  ∀ (s : State) (j : Fin 1024) (r : Ckpt), coldStartDue s = true →
    ∃ t, exec .coldStart s = .next t
      ∧ (s.store.slots[j].record = some r →
          (∀ i : Fin 1024, i ≠ j →
            s.store.slots[i].record.all (fun q => q.unit != r.unit || q.gen < r.gen) = true) →
          t.tally[r.unit].run = r.run ∧ t.tally[r.unit].starts = r.starts ∧ t.tally[r.unit].stops = r.stops
            ∧ t.tally[r.unit].trips = r.trips)
      ∧ (∀ u : Fin 6, (∀ i : Fin 1024, s.store.slots[i].record.all (fun q => q.unit != u) = true) →
          t.tally[u].run = Vector.replicate 6 0 ∧ t.tally[u].starts = Vector.replicate 5 0
            ∧ t.tally[u].stops = Vector.replicate 5 0 ∧ t.tally[u].trips = 0)
      ∧ (∀ u : Fin 6, t.tally[u].mode = .unknown ∧ t.tally[u].test = false ∧ t.tally[u].start = 0
          ∧ t.tally[u].preOutage = none ∧ t.tally[u].hold = none ∧ t.tally[u].lastCkpt = 0)
      ∧ (s.store.slots[j].record = some r →
          (∀ i : Fin 1024, i ≠ j → s.store.slots[i].record.all (fun q => q.gen < r.gen) = true) →
          t.store.highestGen = r.gen ∧ t.store.writePos = j)
      ∧ ((∀ i : Fin 1024, s.store.slots[i].record = none) → t.store.highestGen = 0 ∧ t.store.writePos = 1023)
      ∧ t.store.slots = s.store.slots ∧ t.store.image = s.store.image
      ∧ t.store.flags = Vector.replicate 6 none ∧ t.store.order = [] ∧ t.store.engine = .idle
      ∧ t.store.waiting = none
      ∧ t.clock = Clock.cold
      ∧ t.recorder.list = [] ∧ t.recorder.nextSeq = 1
      ∧ (∀ n : Fin 64, t.recorder.slots[n].used = false ∧ t.recorder.slots[n].repeats = 0
          ∧ t.recorder.slots[n].stales = 0)
      ∧ (∀ g : Fin 16, t.ann[g] = { state := .quiet, ref := none, deadline := none, trips := 0, lost := false })
      ∧ t.shift.openRec.number = 1 ∧ t.shift.list = [] ∧ t.shift.state = .onShift
      ∧ (∀ u k : Fin 6, t.shift.openRec.snaps[u][k] = (t.tally[u].run[k] : Int))
      ∧ (∀ i : Fin 8, t.lines[i].cycle = none ∧ t.lines[i].pol = .a ∧ t.lines[i].pulse = .rest
          ∧ t.lines[i].target = none)
      ∧ t.supply = { s.supply with
          state := .run, retention := true, backupEntry := none
          halted := if s.supply.resetLine then some .cold else none }
      ∧ (s.supply.resetLine = false →
          t.cfg = (imageToLoad s.store).1 ∧ t.cls.active = (imageToLoad s.store).2
            ∧ t.cls.standby = (imageToLoad s.store).2 ∧ t.cls.hits = Vector.replicate 128 0
            ∧ t.cls.fault = none ∧ t.cls.work = none ∧ t.cls.pointer = .u
            ∧ t.store.configInvalid = (validImage s.store).isNone
            ∧ t.shift.openRec.crew = t.cfg.initialCrew
            ∧ t.resp.state = .ready ∧ t.resp.handed = [] ∧ t.resp.noticeNo = 1
            ∧ t.portU = PortPath.empty ∧ t.portS = { PortPath.empty with tx := t.portS.tx }
            ∧ t.portS.tx.isSome = true
            ∧ t.cnt.resp.notices = 1 ∧ t.cnt.tally = {} ∧ t.cnt.lines = {}
            ∧ t.cnt.store = {
                invalidSlots :=
                  BitVec.ofNat 32 ((List.finRange 1024).countP (fun i => s.store.slots[i].record.isNone)) })
      ∧ (s.supply.resetLine = true →
          exec .resetReleased t = exec .coldStart { s with supply.resetLine := false })

/-- WARM_START (R24, R60, R167, R181, R189, R192, R198, R199). The retained domain goes on as it stands but for T := I,
a WINDOW's new overdue deadline and the lines' starting gaps; the image, or the defaults, is loaded, every unit's
checkpoint is pending with reason WARM, and a POWER notice is emitted. Under an asserted reset line the sequence halts,
and its release goes on to the state the warm start would have reached without it. That it takes no time is the model's
(log 18). -/
def Obligations.WarmStart : Prop :=
  ∀ s : State, warmStartDue s = true →
    (s.supply.resetLine = false → ∃ t, exec .warmStart s = .next t
      ∧ t.supply = { s.supply with state := .run, backupEntry := none, halted := none }
      ∧ t.clock.trim = s.clock.integral ∧ t.clock.integral = s.clock.integral ∧ t.clock.state = s.clock.state
      ∧ t.clock.sec = s.clock.sec ∧ t.clock.ns = s.clock.ns ∧ t.clock.m = s.clock.m
      ∧ t.clock.lastMarker = s.clock.lastMarker ∧ t.clock.held = none
      ∧ t.tally = s.tally ∧ t.ann = s.ann ∧ t.recorder = s.recorder
      ∧ t.cfg = (imageToLoad s.store).1 ∧ t.cls.active = (imageToLoad s.store).2
      ∧ t.cls.standby = (imageToLoad s.store).2 ∧ t.cls.hits = Vector.replicate 128 0
      ∧ t.cal.flag = inForce t.cfg.cal s.clock.sec ∧ t.cal.fields = localTime t.cfg.cal s.clock.sec
      ∧ t.store.configInvalid = (validImage s.store).isNone
      ∧ t.store.slots = s.store.slots ∧ t.store.image = s.store.image
      ∧ (∀ u : Fin 6, t.store.flags[u] = some (s.store.flags[u].getD .warm))
      ∧ ((∀ u : Fin 6, s.store.flags[u] = none) → t.store.order = s.store.order ++ [0, 1, 2, 3, 4, 5])
      ∧ t.shift = { s.shift with
          overdueAt := if s.shift.state = .window ∧ s.shift.overdue = false
            then some (s.clock.m + BitVec.ofNat 48 (t.cfg.overdueLen * 60000)) else s.shift.overdueAt }
      ∧ (∀ i : Fin 8,
          ((t.cfg.lines[i].function.cycle.isSome = true ∨ t.cfg.lines[i].function = .hourMeter) →
            t.lines[i].pulse = .gap (s.clock.m + BitVec.ofNat 48 t.cfg.lines[i].gap))
          ∧ (t.cfg.lines[i].function = .off ∨ t.cfg.lines[i].function = .secondMark → t.lines[i].pulse = .rest)
          ∧ t.lines[i].pos = s.lines[i].pos ∧ t.lines[i].pol = s.lines[i].pol
          ∧ (∀ cy : Cycle, t.cfg.lines[i].function.cycle = some cy → s.lines[i].cycle = some cy →
              t.lines[i].cycle = some cy))
      ∧ t.portU = PortPath.empty ∧ t.portS = { PortPath.empty with tx := t.portS.tx }
      ∧ t.portS.tx.isSome = true ∧ t.resp.noticeNo = 1 ∧ t.resp.state = .ready ∧ t.resp.handed = []
      ∧ t.cnt.clock = {} ∧ t.cnt.resp.notices = 1)
    ∧ (s.supply.resetLine = true → ∃ t, exec .warmStart s = .next t
      ∧ t.supply = { s.supply with state := .run, halted := some .warm }
      ∧ t.clock.trim = s.clock.integral ∧ t.clock.state = s.clock.state
      ∧ exec .resetReleased t = exec .warmStart { s with supply.resetLine := false }
      ∧ Only [.supply, .clock] s t)

/-- RESET_ASSERTED and RESET_RELEASED (R24, R61, R190, R195). At assertion in RUN the frame path is emptied, requests are
lost, lines are silenced and a program in flight is abandoned, its unit pending again at the head of the order; the rest
of the retained domain stands. At release the image, or the defaults, is loaded, classifier and responder start afresh,
the lines start and the counters are 0; flags, order, slots and retained state are kept and no notice is emitted. -/
def Obligations.ResetLine : Prop :=
  ∀ s : State, s.supply.state = .run →
    (s.supply.resetLine = false → ∃ t, exec .resetAsserted s = .next t
      ∧ t.supply = { s.supply with resetLine := true }
      ∧ t.clock = { s.clock with held := none, good := 0, pendingDiff := none }
      ∧ t.portU = PortPath.empty ∧ t.portS = PortPath.empty ∧ t.cls = { s.cls with work := none }
      ∧ t.resp.state = .ready ∧ t.resp.inProgress = none ∧ t.resp.handed = []
      ∧ (∀ i : Fin 8, t.lines[i] = { s.lines[i] with pulse := .rest, pending := [], target := none })
      ∧ t.cnt.lines = { s.cnt.lines with
          pulseCut := s.cnt.lines.pulseCut
            + BitVec.ofNat 32 ((List.finRange 8).countP (fun i => s.lines[i].pulse.wire.isSome)) }
      ∧ t.store = (match s.store.engine with
          | .idle => { s.store with waiting := none }
          | .checkpoint u slot _ why _ _ =>
            { s.store with
              slots := s.store.slots.set slot .torn, flags := s.store.flags.set u (some why)
              order := u :: s.store.order.filter (fun v => v != u), engine := .idle, waiting := none, abandoned := true }
          | .image _ _ _ => { s.store with image := .torn, engine := .idle, waiting := none })
      ∧ Only [.supply, .clock, .portU, .portS, .cls, .resp, .lines, .nLines, .store] s t)
    ∧ (s.supply.resetLine = true → s.supply.halted = none → ∃ t, exec .resetReleased s = .next t
      ∧ t.supply = { s.supply with resetLine := false }
      ∧ t.cfg = (imageToLoad s.store).1 ∧ t.cls.active = (imageToLoad s.store).2
      ∧ t.cls.standby = (imageToLoad s.store).2 ∧ t.cls.hits = Vector.replicate 128 0
      ∧ t.cls.fault = none ∧ t.cls.work = none ∧ t.cls.pointer = .u
      ∧ t.resp = { state := .ready, inProgress := none, handed := [], noticeNo := 0, restartDue := false }
      ∧ t.portU = PortPath.empty ∧ t.portS = PortPath.empty
      ∧ t.cal.flag = inForce t.cfg.cal s.clock.sec ∧ t.cal.fields = localTime t.cfg.cal s.clock.sec
      ∧ t.cnt = { store := { abandoned := if s.store.abandoned then 1 else 0 } }
      ∧ t.store = { s.store with configInvalid := (validImage s.store).isNone, abandoned := false }
      ∧ (∀ i : Fin 8,
          t.lines[i].pulse = (if t.cfg.lines[i].function.cycle.isSome = true ∨ t.cfg.lines[i].function = .hourMeter
            then .gap (s.clock.m + BitVec.ofNat 48 t.cfg.lines[i].gap) else .rest)
          ∧ t.lines[i].pos = s.lines[i].pos ∧ t.lines[i].pol = s.lines[i].pol)
      ∧ t.clock = { s.clock with limitTaken := t.clock.limitTaken }
      ∧ Only [.supply, .clock, .cal, .portU, .portS, .cls, .resp, .lines, .store, .cfg, .nClock, .nCal, .nPortU,
          .nPortS, .nCls, .nRecorder, .nAnn, .nTally, .nShift, .nLines, .nStore, .nResp] s t)

/-- RESTART and RESTART_TAKES_EFFECT (R54, R55, R61, R190, R195, R203): the request is answered OK and the responder waits
for that reply to leave, or to be dropped at a full queue; then RESTART takes effect and leaves what an assertion and
release of the reset line leave: the frame path is empty, the image, or the defaults, is loaded, classifier and responder
start afresh, the lines start with the gaps of their configuration, the counters are 0 but for an abandoned program, whose
unit is pending again at the head of the order, and the rest of the retained domain is kept. -/
def Obligations.Restart : Prop :=
  ∀ (s : State) (h : ReqHead) (body : List Byte) (f : TxFrame),
    f = ⟨buildFrame h.src s.cfg.net.station s.cfg.net.mtype (be 2 h.tag.toNat ++ [0x1A, 0x00]), true⟩ →
    (commissioned s → (s.port h.port).tx = none → (s.port h.port).urgent = [] → (s.port h.port).notice = [] →
      (s.port h.port).bulk = [] → s.resp.restartDue = false →
      exec (.restart h body) s
        = .next { (taken s).withPort h.port { s.port h.port with tx := some ⟨f, s.now⟩ } with
            resp := { s.resp with state := .restartPending, inProgress := some ⟨h, 0x1A, body⟩, restartDue := false } })
    ∧ (commissioned s →
      (s.port h.port).tx.isSome = true ∨ (s.port h.port).urgent ≠ [] ∨ (s.port h.port).notice ≠ []
        ∨ (s.port h.port).bulk ≠ [] ∨ s.resp.restartDue = true →
      (s.port h.port).notice.length < 16 →
      exec (.restart h body) s
        = .next { (taken s).withPort h.port { s.port h.port with notice := (s.port h.port).notice ++ [f] } with
            resp := { s.resp with state := .restartPending, inProgress := some ⟨h, 0x1A, body⟩, restartDue := false } })
    ∧ (commissioned s → 16 ≤ (s.port h.port).notice.length →
      exec (.restart h body) s
        = .next { (taken s).countPort h.port (fun c => { c with dropNotice := c.dropNotice + 1 }) with
            resp := { s.resp with state := .restartPending, inProgress := some ⟨h, 0x1A, body⟩, restartDue := true } })
    ∧ (live s = true → s.resp.state = .restartPending → s.resp.restartDue = true →
      ∃ t, exec .restartTakesEffect s = .next t
        ∧ (s.supply.halted = none → ∃ u, exec .resetAsserted s = .next u ∧ exec .resetReleased u = .next t)
        ∧ t.portU = PortPath.empty ∧ t.portS = PortPath.empty
        ∧ t.resp = { state := .ready, inProgress := none, handed := [], noticeNo := 0, restartDue := false }
        ∧ t.cfg = (imageToLoad t.store).1 ∧ t.cls.active = (imageToLoad t.store).2
        ∧ t.cls.standby = (imageToLoad t.store).2 ∧ t.cls.hits = Vector.replicate 128 0
        ∧ t.cls.fault = none ∧ t.cls.work = none ∧ t.cls.pointer = .u
        ∧ t.cal.flag = inForce t.cfg.cal s.clock.sec ∧ t.cal.fields = localTime t.cfg.cal s.clock.sec
        ∧ t.store = (match s.store.engine with
            | .idle => { s.store with
                waiting := none, abandoned := false, configInvalid := (validImage s.store).isNone }
            | .checkpoint u slot _ why _ _ => { s.store with
                slots := s.store.slots.set slot .torn, flags := s.store.flags.set u (some why)
                order := u :: s.store.order.filter (fun v => v != u), engine := .idle, waiting := none
                abandoned := false, configInvalid := (validImage s.store).isNone }
            | .image _ _ _ => { s.store with
                image := .torn, engine := .idle, waiting := none, abandoned := false, configInvalid := true })
        ∧ t.cnt = { store := { abandoned := if s.store.engine.code = 1 ∨ s.store.abandoned then 1 else 0 } }
        ∧ t.clock = { s.clock with
            held := none, good := 0, pendingDiff := none, limitTaken := t.clock.limitTaken }
        ∧ (∀ i : Fin 8,
            t.lines[i].pulse = (if t.cfg.lines[i].function.cycle.isSome = true ∨ t.cfg.lines[i].function = .hourMeter
              then .gap (s.clock.m + BitVec.ofNat 48 t.cfg.lines[i].gap) else .rest)
            ∧ t.lines[i].pending = [] ∧ t.lines[i].pos = s.lines[i].pos ∧ t.lines[i].pol = s.lines[i].pol)
        ∧ Only [.clock, .cal, .portU, .portS, .cls, .resp, .lines, .store, .cfg, .nClock, .nCal, .nPortU, .nPortS,
            .nCls, .nRecorder, .nAnn, .nTally, .nShift, .nLines, .nStore, .nResp] s t)

/-! ### Nonvolatile store -/

/-- CHECKPOINT_PROGRAM_START, CHECKPOINT_PROGRAM_COMPLETE and CHECKPOINT_NOW (R136, R191, R192, R193, R199): the head of
the order is taken with its reason and its tallies credited, into the slot after the write position with the next
generation; 3 ms later the slot holds the record and generation and write position follow. -/
def Obligations.CheckpointProgram : Prop :=
  ∀ (s : State) (u : Fin 6) (rest : List (Fin 6)) (why : Reason) (slot : Fin 1024) (gen : Nat) (bytes : List Byte)
      (e : Instant) (h : ReqHead) (body : List Byte),
    (live s = true → s.store.engine = .idle → s.store.waiting = none → s.store.order = u :: rest →
      s.store.flags[u] = some why → s.store.highestGen < 4294967295 →
      ∃ t, exec .checkpointProgramStart s = .next t
        ∧ t.store = { s.store with
            order := rest, flags := s.store.flags.set u none
            engine := .checkpoint u (s.store.writePos + 1) (s.store.highestGen + 1) why
              (Ckpt.encode
                { gen := s.store.highestGen + 1, unit := u, reason := why, run := t.tally[u].run,
                  starts := s.tally[u].starts, stops := s.tally[u].stops, trips := s.tally[u].trips })
              ⟨s.clock.m + 3, s.clock.accNs⟩ }
        ∧ (∀ k : Fin 6, t.tally[u].run[k] = s.tally[u].value s.clock.m k)
        ∧ t.tally[u].lastCkpt = s.clock.m ∧ t.tally[u].start = s.clock.m ∧ t.tally[u].mode = s.tally[u].mode
        ∧ t.tally[u].test = s.tally[u].test
        ∧ (∀ v : Fin 6, v ≠ u → t.tally[v] = s.tally[v])
        ∧ Only [.tally, .nTally, .store] s t)
    ∧ (live s = true → s.store.engine = .checkpoint u slot gen why bytes e → reached e s.now = true →
      exec .checkpointProgramComplete s = .next { s with
        store := { s.store with
          slots := s.store.slots.set slot (.bytes bytes), highestGen := gen, writePos := slot, engine := .idle }
        cnt.store.written := s.cnt.store.written + 1 })
    ∧ (commissioned s → (∀ v : Fin 6, s.store.flags[v] = none) →
      exec (.checkpointNow h body) s = .next (replied h 0x18 0x00 []
        { taken s with
          store := { s.store with
            flags := Vector.replicate 6 (some .request), order := s.store.order ++ [0, 1, 2, 3, 4, 5] } }))
    ∧ (commissioned s → (∀ v : Fin 6, s.store.flags[v].isSome = true) →
      exec (.checkpointNow h body) s = .next (replied h 0x18 0x00 []
        { taken s with cnt.store.coalesced := s.cnt.store.coalesced + 6 }))

/-- A checkpoint record is 88 bytes and is read back whole: its check value agrees, so a slot that holds it is valid
(R191). -/
def Obligations.CheckpointRecordRoundTrip : Prop :=
  ∀ c : Ckpt, ckptOk c → c.encode.length = 88 ∧ (Slot.bytes c.encode).record = some c

/-- STORE_CONFIG, IMAGE_PROGRAM_START and IMAGE_PROGRAM_COMPLETE (R194, R196): the image in force is captured when the
program starts, at once or when the slot in flight has completed; a store waiting or in progress makes another BUSY; the
reply comes at completion and carries the pages. -/
def Obligations.ImageProgram : Prop :=
  ∀ (s : State) (h : ReqHead) (body bytes : List Byte) (r : Request) (e : Instant),
    (commissioned s → s.store.engine = .idle → s.store.waiting = none →
      exec (.storeConfig h body) s = .next
        { taken s with
          store.engine := .image (imageBytes s.cfg s.cls.active) ⟨h, 0x19, body⟩
            (s.now.addMs (3 * (((imageBytes s.cfg s.cls.active).length + 63) / 64))) })
    ∧ (commissioned s → s.store.engine.code = 1 → s.store.waiting = none →
      exec (.storeConfig h body) s = .next { taken s with store.waiting := some ⟨h, 0x19, body⟩ })
    ∧ (commissioned s → s.store.engine.code = 2 ∨ s.store.waiting.isSome = true →
      exec (.storeConfig h body) s = .next (replied h 0x19 0x13 [] (refusedOnce (taken s))))
    ∧ (live s = true → s.store.engine = .idle → s.store.waiting = some r →
      exec .imageProgramStart s = .next
        { s with
          store.engine := .image (imageBytes s.cfg s.cls.active) r
            (s.now.addMs (3 * (((imageBytes s.cfg s.cls.active).length + 63) / 64)))
          store.waiting := none })
    ∧ (live s = true → s.store.engine = .image bytes r e → reached e s.now = true →
      exec .imageProgramComplete s = .next (replied r.head r.code.toNat 0x00 (be 2 ((bytes.length + 63) / 64))
        { s with
          store.image := .bytes bytes, store.configInvalid := false, store.engine := .idle
          cnt.store.configStored := s.cnt.store.configStored + 1 }))

/-- The configuration image is read back whole (R196, R198): every setting within its range, the masks and the 128
entries, and its check value agrees. Its entries are laid out as logs 10 and 12 say. -/
def Obligations.ImageRoundTrip : Prop :=
  ∀ (serial : BitVec 32) (c : Settings) (bank : Vector Entry 128), settingsOk c →
    (∀ i : Fin 128, carriable bank[i] = true) → readImage serial (imageBytes c bank) = some (c, bank)

/-! ### Management responder -/

/-- SET_PARAM (R15, R22, R32, R33, R38, R104, R139, R165, R169, R170, R179, R201, R208, R209): an identifier outside the
catalogue, a short payload; each numeric setting with its clamp; each setting from a set, and its values outside the
set; a whole schedule entry, judged field by field; the station address, the management type and the notice destination;
the seasonal settings, which the calendar takes up at once; the warning lead; the holdover limit, whose class follows at
once with a CLOCK notice at a change of class; and each of a line's settings: between pulses, where the line's records
agree with it and no pulse is called for, behind a drive, and behind 8 pending changes. That the limit's own event,
still due, is then taken first is the model's (log 14), that a width behind a drive is answered as its function, once
changed, will hold it (log 31), that a value equal to the one in force is taken like any other, the warning lead and a
line's settings included (log 25), and the target of a new slave function (log 20); meter test is numbered as log 10
says. -/
def Obligations.SetParam : Prop :=
  ∀ (s : State) (h : ReqHead) (g : Fin 16) (i : Fin 8) (v : Fin 6) (id n : Nat) (b : Byte) (pad : List Byte),
    commissioned s →
    (id ∈ [0x0000, 0x0100, 0x0107, 0x0200, 0x020D, 0x0306, 0x0340, 0x0400, 0x0402, 0x0510, 0x0600, 0x0607, 0x0610,
        0x0617, 0x0700, 0x0704, 0x0807, 0x0880, 0x0900, 0x0905, 0xFFFF] →
      exec (.setParam h (be 2 id ++ pad)) s = .next (replied h 0x13 0x11 [] (refusedOnce (taken s))))
    ∧ exec (.setParam h (be 2 (0x0500 + g.val))) s = .next (replied h 0x13 0x10 [] (refusedOnce (taken s)))
    ∧ exec (.setParam h (be 2 (0x0500 + g.val) ++ b :: pad)) s
        = .next (replied h 0x13 (if 100 < b.toNat then 0x01 else 0x00) (be 2 (0x0500 + g.val) ++ be 1 (min b.toNat 100))
            { taken s with cfg.windows := s.cfg.windows.set g (min b.toNat 100) })
    ∧ (n < 2 ^ 48 → n / 2 ^ 40 % 2 = 1 →
      exec (.setParam h (be 2 0x0901 ++ be 6 n ++ pad)) s = .next (replied h 0x13 0x11 [] (refusedOnce (taken s))))
    ∧ (n < 2 ^ 48 → n / 2 ^ 40 % 2 = 0 →
      exec (.setParam h (be 2 0x0901 ++ be 6 n ++ pad)) s
        = .next (replied h 0x13 0x00 (be 2 0x0901 ++ be 6 n) { taken s with cfg.net.station := BitVec.ofNat 48 n }))
    ∧ (b.toNat ≤ 1 →
      exec (.setParam h (be 2 0x0903 ++ b :: pad)) s
        = .next (replied h 0x13 0x00 (be 2 0x0903 ++ [b]) { taken s with cfg.net.mgmtU := b == 1 }))
    ∧ (1 < b.toNat →
      exec (.setParam h (be 2 0x0903 ++ b :: pad)) s = .next (replied h 0x13 0x11 [] (refusedOnce (taken s))))
    ∧ (∃ u, exec (.setParam h (be 2 0x0201 ++ b :: pad)) s
          = .next (replied h 0x13 (if b.toInt < -56 ∨ 56 < b.toInt then 0x01 else 0x00)
              (be 2 0x0201 ++ beInt 1 (clampInt (-56) 56 b.toInt)) u)
        ∧ u.cfg = { s.cfg with cal := { s.cfg.cal with offset := clampInt (-56) 56 b.toInt } }
        ∧ u.cal.flag = inForce u.cfg.cal s.clock.sec ∧ u.cal.fields = localTime u.cfg.cal s.clock.sec
        ∧ Only [.cfg, .cal, .nCal, .shift, .nShift, .portS, .resp, .nPortS, .nResp] (taken s) u)
    ∧ (∀ (width x y : Nat) (ch : LineChange), n < 256 ^ width →
      y = (if id = 0x0801 + 16 * i.val then
          if (s.lines[i].pending.foldl LineCfg.apply s.cfg.lines[i]).function = .secondMark then min 500 x else max 20 x
        else x) →
      id = 0x0800 + 16 * i.val ∧ width = 1 ∧ x = n
          ∧ (∃ f, (n, f) ∈ [(0, LineFunction.off), (1, .slaveMinute), (2, .slaveHalf), (3, .secondMark), (4, .hourMeter)]
            ∧ ch = .function f)
        ∨ id = 0x0801 + 16 * i.val ∧ width = 2 ∧ x = max 1 (min 2000 n) ∧ ch = .width x
        ∨ id = 0x0802 + 16 * i.val ∧ width = 2 ∧ x = max 200 (min 5000 n) ∧ ch = .gap x
        ∨ id = 0x0803 + 16 * i.val ∧ width = 2 ∧ x = min 360 n ∧ ch = .hold x
        ∨ id = 0x0804 + 16 * i.val ∧ width = 1 ∧ x = n ∧ n = v.val + 1 ∧ ch = .unit v
        ∨ id = 0x0805 + 16 * i.val ∧ width = 1 ∧ x = n ∧ n < 32 ∧ ch = .modes (BitVec.ofNat 5 n)
        ∨ id = 0x0806 + 16 * i.val ∧ width = 1 ∧ x = n ∧ n < 2 ∧ ch = .test (n == 0) →
      (s.lines[i].pulse.wire.isSome = true → s.lines[i].pending.length < 8 →
        exec (.setParam h (be 2 id ++ be width n ++ pad)) s
          = .next (replied h 0x13 (if x = n then 0x00 else 0x01) (be 2 id ++ be width y)
              { taken s with
                lines := s.lines.set i { s.lines[i] with pending := s.lines[i].pending ++ [ch] } }))
      ∧ (s.lines[i].pulse.wire.isSome = true → 8 ≤ s.lines[i].pending.length →
        exec (.setParam h (be 2 id ++ be width n ++ pad)) s = .next (replied h 0x13 0x13 [] (refusedOnce (taken s))))
      ∧ (∀ (c : LineCfg) (l : Line) (tally : Nat) (realigned : Bool), s.lines[i].pulse.wire.isSome = false →
        s.lines[i].pending = [] → c = s.cfg.lines[i].apply ch → tally = tallySecs s ⟨c.unit, c.modes, c.test⟩ →
        realigned = (c.function == .hourMeter && s.lines[i].basis != some ⟨c.unit, c.modes, c.test⟩) →
        l = { s.lines[i] with
          cycle := if c.function.cycle = none ∨ c.function.cycle = s.lines[i].cycle then s.lines[i].cycle else none
          target := if c.function = s.cfg.lines[i].function then s.lines[i].target
            else if s.clock.state = .unset then none else slaveTarget c.function s.cal.fields
          mark := if realigned then tally / 36 * 36 else s.lines[i].mark
          basis := if realigned then some ⟨c.unit, c.modes, c.test⟩ else s.lines[i].basis } →
        s.lines[i].pulse.ends.isSome = true ∨ c.function = .off ∨ c.function = .secondMark
          ∨ c.function = .hourMeter ∧ tally < l.mark + 36
          ∨ c.function.cycle.isSome = true
            ∧ (s.clock.state = .unset ∨ l.cycle = none ∨ l.target = none ∨ l.target = some l.pos) →
        exec (.setParam h (be 2 id ++ be width n ++ pad)) s
          = .next (replied h 0x13 (if x = n then 0x00 else 0x01) (be 2 id ++ be width y)
              { taken s with
                cfg.lines := s.cfg.lines.set i c
                lines := s.lines.set i l
                cnt.lines.realign := s.cnt.lines.realign + (if realigned then 1 else 0) })))
    ∧ (∀ x : Byte, id = 0x0800 + 16 * i.val ∧ 4 < x.toNat ∨ id = 0x0804 + 16 * i.val ∧ (x = 0 ∨ 6 < x.toNat)
        ∨ id = 0x0805 + 16 * i.val ∧ 31 < x.toNat ∨ id = 0x0806 + 16 * i.val ∧ 1 < x.toNat →
      exec (.setParam h (be 2 id ++ x :: pad)) s = .next (replied h 0x13 0x11 [] (refusedOnce (taken s))))
    ∧ (∀ (width lo hi x : Nat) (c : Settings), n < 256 ^ width → x = max lo (min hi n) →
      (width = 4 ∧ (id = 0x0101 ∧ lo = 100000 ∧ hi = 10000000 ∧ c = { s.cfg with clock.window := x }
          ∨ id = 0x0102 ∧ lo = 1000 ∧ hi = 500000000 ∧ c = { s.cfg with clock.step := x }
          ∨ id = 0x0103 ∧ lo = 100 ∧ hi = 100000 ∧ c = { s.cfg with clock.lock := x })
        ∨ width = 2 ∧ id = 0x0401 ∧ lo = 1 ∧ hi = 60000 ∧ c = { s.cfg with plausibility := x }
        ∨ width = 1 ∧ (id = 0x0104 ∧ lo = 0 ∧ hi = 12 ∧ c = { s.cfg with clock.ki := x }
          ∨ id = 0x0105 ∧ lo = 0 ∧ hi = 10 ∧ c = { s.cfg with clock.kp := x }
          ∨ id = 0x0303 + 8 * i.val ∧ lo = 0 ∧ hi = 59
            ∧ c = { s.cfg with cal.entries := s.cfg.cal.entries.set i { s.cfg.cal.entries[i] with minute := x } }
          ∨ id = 0x0304 + 8 * i.val ∧ lo = 1 ∧ hi = 15
            ∧ c = { s.cfg with cal.entries := s.cfg.cal.entries.set i { s.cfg.cal.entries[i] with crew := x } }
          ∨ id = 0x0601 + v.val ∧ lo = 0 ∧ hi = 60 ∧ c = { s.cfg with holdLen := s.cfg.holdLen.set v x }
          ∨ id = 0x0701 ∧ lo = 1 ∧ hi = 240 ∧ c = { s.cfg with overdueLen := x }
          ∨ id = 0x0702 ∧ lo = 1 ∧ hi = 60 ∧ c = { s.cfg with lapseLen := x }
          ∨ id = 0x0703 ∧ lo = 1 ∧ hi = 15 ∧ c = { s.cfg with initialCrew := x })) →
      exec (.setParam h (be 2 id ++ be width n ++ pad)) s
        = .next (replied h 0x13 (if n < lo ∨ hi < n then 0x01 else 0x00) (be 2 id ++ be width x)
            { taken s with cfg := c }))
    ∧ (∀ (val : List Byte) (c : Settings),
      (id = 0x0300 + 8 * i.val ∧ b.toNat ≤ 1 ∧ val = [b]
          ∧ c = { s.cfg with
              cal.entries := s.cfg.cal.entries.set i { s.cfg.cal.entries[i] with enabled := b == 1 } }
        ∨ id = 0x0301 + 8 * i.val ∧ b.toNat < 128 ∧ val = [b]
          ∧ c = { s.cfg with
              cal.entries := s.cfg.cal.entries.set i { s.cfg.cal.entries[i] with mask := BitVec.ofNat 7 b.toNat } }
        ∨ id = 0x0302 + 8 * i.val ∧ (b.toNat ≤ 23 ∨ b = 0xFF) ∧ val = [b]
          ∧ c = { s.cfg with
              cal.entries :=
                s.cfg.cal.entries.set i { s.cfg.cal.entries[i] with hour := if b = 0xFF then none else some b.toNat } }
        ∨ id = 0x0611 + v.val ∧ b.toNat < 64 ∧ val = [b]
          ∧ c = { s.cfg with totalSel := s.cfg.totalSel.set v (BitVec.ofNat 6 b.toNat) }
        ∨ id = 0x0902 ∧ n < 65536 ∧ val = be 2 n ∧ c = { s.cfg with net.mtype := BitVec.ofNat 16 n }
        ∨ id = 0x0904 ∧ n < 2 ^ 48 ∧ val = be 6 n ∧ c = { s.cfg with net.notice := BitVec.ofNat 48 n }) →
      exec (.setParam h (be 2 id ++ val ++ pad)) s
        = .next (replied h 0x13 0x00 (be 2 id ++ val) { taken s with cfg := c }))
    ∧ (∀ en mask hour minute crew : Byte, id = 0x0305 + 8 * i.val →
      (en.toNat ≤ 1 → mask.toNat < 128 → hour.toNat ≤ 23 ∨ hour = 0xFF →
        exec (.setParam h (be 2 id ++ [en, mask, hour, minute, crew] ++ pad)) s
          = .next (replied h 0x13 (if 59 < minute.toNat ∨ crew = 0 ∨ 15 < crew.toNat then 0x01 else 0x00)
              (be 2 id ++ [en, mask, hour] ++ be 1 (min 59 minute.toNat) ++ be 1 (max 1 (min 15 crew.toNat)))
              { taken s with
                cfg.cal.entries := s.cfg.cal.entries.set i
                  ⟨en == 1, BitVec.ofNat 7 mask.toNat, if hour = 0xFF then none else some hour.toNat,
                    min 59 minute.toNat, max 1 (min 15 crew.toNat)⟩ }))
      ∧ (1 < en.toNat ∨ 127 < mask.toNat ∨ 23 < hour.toNat ∧ hour.toNat < 255 →
        exec (.setParam h (be 2 id ++ [en, mask, hour, minute, crew] ++ pad)) s
          = .next (replied h 0x13 0x11 [] (refusedOnce (taken s)))))
    ∧ (id = 0x0202 ∧ 1 < b.toNat ∨ id = 0x0300 + 8 * i.val ∧ 1 < b.toNat ∨ id = 0x0301 + 8 * i.val ∧ 127 < b.toNat
        ∨ id = 0x0302 + 8 * i.val ∧ 23 < b.toNat ∧ b.toNat < 255 ∨ id = 0x0611 + v.val ∧ 63 < b.toNat →
      exec (.setParam h (be 2 id ++ b :: pad)) s = .next (replied h 0x13 0x11 [] (refusedOnce (taken s))))
    ∧ (∀ (lo hi x : Nat) (c : CalCfg), x = max lo (min hi b.toNat) →
      (id = 0x0202 ∧ b.toNat ≤ 1 ∧ lo = 0 ∧ hi = 1 ∧ c = { s.cfg.cal with enabled := b == 1 }
        ∨ id = 0x0203 ∧ lo = 0 ∧ hi = 8 ∧ c = { s.cfg.cal with amount := x }
        ∨ id = 0x0204 ∧ lo = 1 ∧ hi = 12 ∧ c = { s.cfg.cal with start.month := x }
        ∨ id = 0x0205 ∧ lo = 1 ∧ hi = 5 ∧ c = { s.cfg.cal with start.week := x }
        ∨ id = 0x0206 ∧ lo = 1 ∧ hi = 7 ∧ c = { s.cfg.cal with start.weekday := x }
        ∨ id = 0x0207 ∧ lo = 0 ∧ hi = 23 ∧ c = { s.cfg.cal with start.hour := x }
        ∨ id = 0x0208 ∧ lo = 1 ∧ hi = 12 ∧ c = { s.cfg.cal with stop.month := x }
        ∨ id = 0x0209 ∧ lo = 1 ∧ hi = 5 ∧ c = { s.cfg.cal with stop.week := x }
        ∨ id = 0x020A ∧ lo = 1 ∧ hi = 7 ∧ c = { s.cfg.cal with stop.weekday := x }
        ∨ id = 0x020B ∧ lo = 0 ∧ hi = 23 ∧ c = { s.cfg.cal with stop.hour := x }) →
      ∃ u, exec (.setParam h (be 2 id ++ b :: pad)) s
          = .next (replied h 0x13 (if b.toNat < lo ∨ hi < b.toNat then 0x01 else 0x00) (be 2 id ++ be 1 x) u)
        ∧ u.cfg = { s.cfg with cal := c }
        ∧ u.cal.flag = inForce c s.clock.sec ∧ u.cal.fields = localTime c s.clock.sec
        ∧ Only [.cfg, .cal, .nCal, .shift, .nShift, .portS, .resp, .nPortS, .nResp] (taken s) u)
    ∧ exec (.setParam h (be 2 0x020C ++ b :: pad)) s
        = .next (replied h 0x13 (if 120 < b.toNat then 0x01 else 0x00) (be 2 0x020C ++ be 1 (min b.toNat 120))
            { taken s with
              cfg.cal.lead := min b.toNat 120
              cal.lastWarn := if b = 0 then none else if s.clock.state = .unset then s.cal.lastWarn
                else some (minuteIndex s.cfg.cal s.clock.sec + (min b.toNat 120 : Nat)) })
    ∧ (∀ t0 : Instant, n < 2 ^ 32 → ∃ u, exec (.setParam h (be 2 0x0106 ++ be 4 n ++ pad)) s
          = .next (replied h 0x13 (if n < 60 ∨ 86400 < n then 0x01 else 0x00)
              (be 2 0x0106 ++ be 4 (max 60 (min 86400 n))) u)
        ∧ u.cfg = { s.cfg with clock.holdLimit := max 60 (min 86400 n) }
        ∧ (s.clock.state = .holdover → s.clock.lastMarker = some t0 →
            qualityClass u = (if max 60 (min 86400 n) * 1000000000 ≤ elapsedNs t0 s.now then 2 else 1)
              ∧ u.cnt.clock = { s.cnt.clock with
                  holdoverLimit := s.cnt.clock.holdoverLimit + (if s.clock.limitTaken = false
                    ∧ s.cfg.clock.holdLimit * 1000000000 ≤ elapsedNs t0 s.now then 1 else 0) }
              ∧ (s.clock.limitTaken = true ∨ elapsedNs t0 s.now < s.cfg.clock.holdLimit * 1000000000 →
                  u.resp.noticeNo = s.resp.noticeNo + (if qualityClass u = qualityClass s then 0 else 1)))
        ∧ (s.clock.state ≠ .holdover → u.cnt.clock = s.cnt.clock ∧ u.resp = s.resp)
        ∧ u.clock = { s.clock with limitTaken := u.clock.limitTaken }
        ∧ Only [.cfg, .clock, .nClock, .portS, .resp, .nPortS, .nResp] (taken s) u)

/-- Engineer requests without the commission line (R202): each of the eleven is refused NOT_COMMISSIONING, counted, and
changes nothing else, whatever its body. -/
def Obligations.EngineerNeedsCommission : Prop :=
  ∀ (s : State) (h : ReqHead) (body : List Byte) (u : State), answering s → s.supply.commission = false →
    u = refusedOnce { taken s with cnt.resp.authority := s.cnt.resp.authority + 1 } →
    exec (.loadEntry h body) s = .next (replied h 0x10 0x12 [] u)
    ∧ exec (.readEntry h body) s = .next (replied h 0x11 0x12 [] u)
    ∧ exec (.commitBank h body) s = .next (replied h 0x12 0x12 [] u)
    ∧ exec (.setParam h body) s = .next (replied h 0x13 0x12 [] u)
    ∧ exec (.setMask h body) s = .next (replied h 0x14 0x12 [] u)
    ∧ exec (.setTime h body) s = .next (replied h 0x15 0x12 [] u)
    ∧ exec (.presetTally h body) s = .next (replied h 0x16 0x12 [] u)
    ∧ exec (.forceHandover h body) s = .next (replied h 0x17 0x12 [] u)
    ∧ exec (.checkpointNow h body) s = .next (replied h 0x18 0x12 [] u)
    ∧ exec (.storeConfig h body) s = .next (replied h 0x19 0x12 [] u)
    ∧ exec (.restart h body) s = .next (replied h 0x1A 0x12 [] u)

/-- The reading requests (R103, R118, R140, R162, R163, R180, R205, R206, R207): each is answered with the items its
rule lists, as they stand, and changes nothing but, for READ_COUNTERS with its clear option, the counters of its block.
Numbers of two-valued and conditional items are those of logs 10, 11 and 12, the milliseconds of the holdover age those
of log 28; what READ_TRIPS answers from start number 0 is the model's (log 22), and so is that READ_LINES carries a
line's width as set (log 31). -/
def Obligations.ReadingRequests : Prop :=
  ∀ (s : State) (h : ReqHead) (l : LocalTime) (i : Fin 6) (q : Nat) (n : Byte) (pad : List Byte)
      (trips : List TripRecord) (shifts : List ClosedShift), answering s → q < 2 ^ 32 →
    (l = localTime s.cfg.cal s.clock.sec →
      exec (.readClock h pad) s = .next (replied h 0x01 0x00
        (be 4 s.clock.sec.toNat ++ be 4 s.clock.ns ++ be 1 s.clock.state.code ++ be 1 (qualityClass s).val
          ++ beInt 4 s.clock.trim ++ beInt 4 s.clock.integral ++ be 6 (holdoverAge s / 1000000) ++ be 6 s.clock.m.toNat
          ++ (be 2 l.year ++ be 1 l.month ++ be 1 l.day ++ be 1 l.hour ++ be 1 l.minute ++ be 1 l.second
            ++ be 1 l.weekday)
          ++ be 1 (if s.cal.flag then 0 else 1)
          ++ (match s.clock.held with
            | none => be 1 0 ++ be 1 0
            | some (.beacon _ _) => be 1 1 ++ be 1 0
            | some (.manual _) => be 1 1 ++ be 1 1)) (taken s)))
    ∧ exec (.readStatus h pad) s = .next (replied h 0x02 0x00
        ([0, if s.supply.retention then 0 else 1, if s.store.configInvalid then 0 else 1,
          if 4294967295 ≤ s.store.highestGen then 1 else 0, if s.supply.commission then 1 else 0,
          if s.cfg.net.mgmtU then 1 else 0, if s.cls.fault.isSome then 1 else 0]
          ++ be 1 s.shift.state.code ++ be 1 s.store.engine.code ++ be 1 s.store.order.length
          ++ be 1 (if s.store.waiting.isSome then 1 else 0)) (taken s))
    ∧ (trips = (s.recorder.list.dropWhile (fun r => 2147483647 < seqSteps q r.seq.toNat)).take
          (max 1 (min 8 n.toNat)) →
      exec (.readTrips h (be 4 q ++ n :: pad)) s
        = .next (replied h 0x06 (if 1 ≤ n.toNat ∧ n.toNat ≤ 8 then 0x00 else 0x01)
        (be 1 (if trips.head?.any (fun r => r.seq.toNat != q) then 1 else 0) ++ be 4 s.recorder.nextSeq.toNat
          ++ be 2 s.recorder.list.length ++ be 1 trips.length ++ trips.flatMap TripRecord.encode) (taken s)))
    ∧ exec (.pollGroups h pad) s = .next (replied h 0x0A 0x00
        (([0, 1, 2, 3, 4, 5, 6, 7, 8, 9, 10, 11, 12, 13, 14, 15] : List (Fin 16)).flatMap (fun g =>
            be 1 s.ann[g].state.code ++ be 1 (if s.cfg.masks.getLsbD g.val then 0 else 1) ++ be 1 s.cfg.windows[g]
              ++ (match s.ann[g].ref with
                | none => be 1 0 ++ be 4 0
                | some x => be 1 1 ++ be 4 x.toNat)
              ++ be 2 s.ann[g].trips ++ be 1 (if s.ann[g].lost then 0 else 1))
          ++ (match (List.finRange 16).find? (fun g => s.ann[g].state == .announced) with
            | none => be 1 0 ++ be 1 0
            | some g => be 1 1 ++ be 1 g.val)) (taken s))
    ∧ (∀ (u : UnitRec) (value : Fin 6 → Nat), u = s.tally[i] → (∀ k, value k = u.value s.clock.m k) →
      exec (.readTally h (BitVec.ofNat 8 (i.val + 1) :: pad)) s = .next (replied h 0x0B 0x00
        (be 1 u.mode.code ++ be 1 (if u.test then 0 else 1)
          ++ (match u.preOutage with
            | none => be 1 0 ++ be 1 0
            | some p => be 1 1 ++ be 1 p.code)
          ++ (match u.hold with
            | none => be 1 0 ++ be 6 0
            | some d => be 1 1 ++ be 6 (if reachedM d s.clock.m then 0 else (d - s.clock.m).toNat))
          ++ ([0, 1, 2, 3, 4] : List (Fin 5)).flatMap (fun k =>
            be 4 (value k.castSucc / 1000) ++ be 2 (value k.castSucc % 1000)
              ++ be 1 (if u.saturated[k.castSucc] = true ∨ value k.castSucc = 3599999999999 then 0 else 1)
              ++ be 4 u.starts[k] ++ be 4 u.stops[k])
          ++ be 4 (value 5 / 1000) ++ be 2 (value 5 % 1000)
          ++ be 1 (if u.saturated[5] = true ∨ value 5 = 3599999999999 then 0 else 1) ++ be 4 u.trips
          ++ be 6 ((([0, 1, 2, 3, 4, 5] : List (Fin 6)).map (fun k =>
              if s.cfg.totalSel[i].getLsbD k.val then value k else 0)).sum / 1000)
          ++ be 2 ((([0, 1, 2, 3, 4, 5] : List (Fin 6)).map (fun k =>
              if s.cfg.totalSel[i].getLsbD k.val then value k else 0)).sum % 1000)
          ++ be 1 s.cfg.totalSel[i].toNat ++ be 6 s.clock.m.toNat) (taken s)))
    ∧ (n = 0 ∨ 6 < n.toNat →
      exec (.readTally h (n :: pad)) s = .next (replied h 0x0B 0x11 [] (refusedOnce (taken s))))
    ∧ exec (.readTally h []) s = .next (replied h 0x0B 0x10 [] (refusedOnce (taken s)))
    ∧ (∀ (o : OpenShift) (u : ShiftUnit), u = s.shift → o = u.openRec →
      exec (.readShift h pad) s = .next (replied h 0x0C 0x00
        ((be 4 o.number ++ be 1 o.crew ++ encStamp o.opened ++ be 6 o.openedElapsed.toNat
            ++ (match o.incoming with
              | none => be 1 0 ++ be 2 0
              | some x => be 1 1 ++ be 2 x.toNat)
            ++ (match o.entry with
              | none => be 1 0 ++ be 1 0
              | some e => be 1 1 ++ be 1 e.val)
            ++ be 1 (if o.overdue then 0 else 1) ++ be 2 o.inherited.toNat ++ be 4 o.trips ++ be 4 o.late
            ++ be 2 o.firstOut.toNat
            ++ ([0, 1, 2, 3, 4, 5] : List (Fin 6)).flatMap (fun v =>
              ([0, 1, 2, 3, 4, 5] : List (Fin 6)).flatMap (fun k => beInt 6 o.snaps[v][k])))
          ++ ([0, 1, 2, 3, 4, 5] : List (Fin 6)).flatMap (fun v =>
            ([0, 1, 2, 3, 4, 5] : List (Fin 6)).flatMap (fun k =>
              be 4 ((((s.tally[v].value s.clock.m k : Int) - o.snaps[v][k]).tdiv 1000).toNat)))
          ++ be 6 (s.clock.m - o.openedElapsed).toNat ++ be 1 u.state.code
          ++ (match u.expected with
            | none => be 1 0 ++ be 1 0
            | some c => be 1 1 ++ be 1 c)
          ++ (match u.window with
            | none => be 1 0 ++ be 1 0
            | some e => be 1 1 ++ be 1 e.val)
          ++ be 1 (if u.overdue then 0 else 1)
          ++ (match u.warned with
            | none => be 1 0 ++ be 2 0
            | some e => be 1 1 ++ be 1 e.1.val ++ be 1 e.2)
          ++ (match u.offer with
            | none => be 1 0 ++ be 2 0
            | some x => be 1 1 ++ be 2 x.toNat)
          ++ (match u.accept with
            | none => be 1 0 ++ be 6 0 ++ be 6 0
            | some a => be 1 1 ++ be 1 a.crew ++ be 2 a.operator.toNat ++ encStamp a.stamp)
          ++ (match u.overdueAt with
            | none => be 1 0 ++ be 6 0
            | some d => be 1 1 ++ be 6 (if reachedM d s.clock.m then 0 else (d - s.clock.m).toNat))
          ++ (match u.lapseAt with
            | none => be 1 0 ++ be 6 0
            | some d => be 1 1 ++ be 6 (if reachedM d s.clock.m then 0 else (d - s.clock.m).toNat))) (taken s)))
    ∧ (shifts = (s.shift.list.dropWhile (fun c => c.base.number < q)).take (max 1 (min 4 n.toNat)) →
      exec (.readShifts h (be 4 q ++ n :: pad)) s
        = .next (replied h 0x0D (if 1 ≤ n.toNat ∧ n.toNat ≤ 4 then 0x00 else 0x01)
          (be 1 (if shifts.head?.any (fun c => c.base.number != q) then 1 else 0) ++ be 4 s.shift.openRec.number
            ++ be 1 s.shift.list.length ++ be 1 shifts.length ++ shifts.flatMap ClosedShift.encode) (taken s)))
    ∧ (∀ (c : Fin 8 → LineCfg) (x : Fin 8 → Line), (∀ j, c j = s.cfg.lines[j]) → (∀ j, x j = s.lines[j]) →
      exec (.readLines h pad) s = .next (replied h 0x0E 0x00
        (([0, 1, 2, 3, 4, 5, 6, 7] : List (Fin 8)).flatMap (fun j =>
          be 1 (c j).function.code ++ be 2 (c j).width ++ be 2 (c j).gap ++ be 2 (c j).hold
            ++ be 1 ((c j).unit.val + 1) ++ be 1 (c j).modes.toNat ++ be 1 (if (c j).test then 0 else 1)
            ++ be 1 (if (x j).pending = [] then 0 else 1)
            ++ (match (x j).pulse with
              | .rest => be 1 0 ++ be 1 0 ++ be 1 0 ++ be 1 0 ++ be 6 0
              | .drive w d => be 1 1 ++ be 1 1 ++ be 1 w.code ++ be 1 1
                ++ be 6 (if reachedM d s.clock.m then 0 else (d - s.clock.m).toNat)
              | .gap d => be 1 2 ++ be 1 0 ++ be 1 0 ++ be 1 1
                ++ be 6 (if reachedM d s.clock.m then 0 else (d - s.clock.m).toNat))
            ++ (match (x j).cycle with
              | none => be 1 2 ++ be 1 0 ++ be 2 0
              | some .c720 => be 1 0 ++ be 1 1 ++ be 2 (x j).pos
              | some .c1440 => be 1 1 ++ be 1 1 ++ be 2 (x j).pos)
            ++ be 1 (x j).pol.code
            ++ (if (c j).function.cycle.isSome = true ∧ s.clock.state ≠ .unset then
                (match (x j).cycle, (x j).target with
                  | some cy, some t => be 1 1 ++ be 2 t ++ be 2 ((t + cy.steps - (x j).pos) % cy.steps)
                    ++ be 1 (if (t + cy.steps - (x j).pos) % cy.steps = 0 then 0
                      else if (t + cy.steps - (x j).pos) % cy.steps ≤ cy.steps - (c j).holdSteps then 1 else 2)
                  | none, _ => be 1 0 ++ be 5 0
                  | some _, none => be 1 0 ++ be 5 0)
              else be 1 0 ++ be 5 0)
            ++ be 6 (x j).mark
            ++ (match (x j).basis with
              | none => be 1 0 ++ be 3 0
              | some z => be 1 1 ++ be 1 (z.unit.val + 1) ++ be 1 z.modes.toNat ++ be 1 (if z.test then 0 else 1))
            ++ (if (c j).function = .hourMeter then be 1 1 ++ be 6 (tallySecs s (c j).selection)
              else be 1 0 ++ be 6 0))) (taken s)))
    ∧ (∀ (sel opt : Byte) (k : Counters) (u : State) (counts : List Count), k = (taken s).cnt →
      sel = 0 ∧ u = { taken s with cnt.clock := {} }
          ∧ counts = [k.clock.markerAccepted, k.clock.markerGlitch, k.clock.beaconStale, k.clock.labelMismatch,
              k.clock.relabel, k.clock.step, k.clock.manualSet, k.clock.rangeWrap, k.clock.holdoverEntry,
              k.clock.holdoverLimit]
        ∨ sel = 1 ∧ u = { taken s with cnt.cal := {} }
          ∧ counts = [k.cal.seasonSwitch, k.cal.dueFired, k.cal.warningFired, k.cal.scheduleSkip, k.cal.warningSkip]
        ∨ sel = 2 ∧ u = { taken s with cnt.portU := {} }
          ∧ counts = [k.portU.rxGood, k.portU.rxFcs, k.portU.rxLength, k.portU.ingressFull, k.portU.mgmtTaken,
              k.portU.mgmtRefused, k.portU.consumed, k.portU.dropUrgent, k.portU.dropNotice, k.portU.dropBulk,
              k.portU.txFrames, k.portU.stampShort]
        ∨ sel = 3 ∧ u = { taken s with cnt.portS := {} }
          ∧ counts = [k.portS.rxGood, k.portS.rxFcs, k.portS.rxLength, k.portS.ingressFull, k.portS.mgmtTaken,
              k.portS.consumed, k.portS.dropUrgent, k.portS.dropNotice, k.portS.dropBulk, k.portS.txFrames,
              k.portS.stampShort]
        ∨ sel = 4 ∧ u = { taken s with cnt.cls := {} }
          ∧ counts = [k.cls.noMatchU, k.cls.noMatchS, k.cls.chainLimit, k.cls.pickOutside, k.cls.unitUnmapped,
              k.cls.handoverMalformed]
        ∨ sel = 5 ∧ u = { taken s with
              cnt.recorder := {}
              recorder.slots := s.recorder.slots.map (fun x => { x with repeats := 0, stales := 0 }) }
          ∧ counts = [k.recorder.records, k.recorder.repeats, k.recorder.stale, k.recorder.restart, k.recorder.wrap,
              k.recorder.overwrite, k.recorder.lost, k.recorder.fallback]
            ++ s.recorder.slots.toList.map (fun x => x.repeats) ++ s.recorder.slots.toList.map (fun x => x.stales)
        ∨ sel = 6 ∧ u = { taken s with cnt.ann := {} }
          ∧ counts = [k.ann.masked, k.ann.afterDecision, k.ann.earlier, k.ann.decided, k.ann.acked, k.ann.reset]
        ∨ sel = 7 ∧ u = { taken s with cnt.tally := {} }
          ∧ counts = [k.tally.reports, k.tally.changes, k.tally.same, k.tally.stale, k.tally.stopsTaken,
              k.tally.stopIdle, k.tally.hourly, k.tally.saturated]
        ∨ sel = 8 ∧ u = { taken s with cnt.shift := {} }
          ∧ counts = [k.shift.completed, k.shift.forced, k.shift.held, k.shift.acceptUnoffered, k.shift.crewMisfit,
              k.shift.declined, k.shift.withdrawn, k.shift.lapsed, k.shift.overdue]
        ∨ sel = 9 ∧ u = { taken s with cnt.lines := {} }
          ∧ counts = k.lines.pulses.toList ++ [k.lines.markMissed, k.lines.dialSet, k.lines.realign, k.lines.pulseCut]
        ∨ sel = 10 ∧ u = { taken s with cnt.store := {} }
          ∧ counts = [k.store.written, k.store.coalesced, k.store.abandoned, k.store.invalidSlots,
              k.store.configStored]
        ∨ sel = 11 ∧ u = { taken s with cnt.resp := {} }
          ∧ counts = [s.cnt.resp.taken + 1, k.resp.refused, k.resp.authority, k.resp.notices] →
      opt = 0 ∨ opt = 1 →
      exec (.readCounters h (sel :: opt :: pad)) s = .next (replied h 0x03 0x00
        (sel :: be 2 counts.length ++ counts.flatMap (fun x => be 4 x.toNat)) (if opt = 1 then u else taken s)))
    ∧ (∀ sel opt : Byte, 11 < sel.toNat ∨ 1 < opt.toNat →
      exec (.readCounters h (sel :: opt :: pad)) s = .next (replied h 0x03 0x11 [] (refusedOnce (taken s))))
    ∧ exec (.readCounters h [n]) s = .next (replied h 0x03 0x10 [] (refusedOnce (taken s)))

/-! ### Reset and the invariants -/

/-- The state after reset (R25, R42, R60, R62, R78, R86, R106, R122, R144, R168, R182, R188, R197, R198): the values the
rules give, all invariants hold, and it is what a cold start of a part with a never-programmed store reaches. That the
model's machine begins there, with serial number 0, is its choice (logs 7, 8). -/
def Obligations.ResetValues : Prop :=
  State.reset.clock = Clock.cold ∧ qualityClass State.reset = 3
    ∧ State.reset.cal.lastDue = none ∧ State.reset.cal.lastWarn = none ∧ State.reset.cal.flag = false
    ∧ State.reset.cal.fields = localTime State.reset.cfg.cal 0
    ∧ (∀ i : Fin 128, State.reset.cls.active[i] = Entry.empty ∧ State.reset.cls.standby[i] = Entry.empty
        ∧ State.reset.cls.hits[i] = 0)
    ∧ State.reset.cls.work = none ∧ State.reset.cls.pointer = .u ∧ State.reset.cls.fault = none
    ∧ State.reset.portU = PortPath.empty
    ∧ (∀ n : Fin 64, State.reset.recorder.slots[n].used = false) ∧ State.reset.recorder.list = []
    ∧ State.reset.recorder.nextSeq = 1
    ∧ (∀ g : Fin 16, State.reset.ann[g].state = .quiet ∧ State.reset.ann[g].trips = 0
        ∧ State.reset.ann[g].lost = false)
    ∧ (∀ u : Fin 6, State.reset.tally[u].mode = .unknown ∧ State.reset.tally[u].run = Vector.replicate 6 0)
    ∧ State.reset.shift.openRec.number = 1 ∧ State.reset.shift.openRec.crew = 1 ∧ State.reset.shift.state = .onShift
    ∧ State.reset.shift.list = []
    ∧ (∀ i : Fin 8, State.reset.lines[i].cycle = none ∧ State.reset.lines[i].pulse = .rest
        ∧ State.reset.lines[i].pol = .a ∧ State.reset.lines[i].mark = 0 ∧ State.reset.lines[i].basis = none)
    ∧ State.reset.store.highestGen = 0 ∧ State.reset.store.writePos = 1023 ∧ State.reset.store.engine = .idle
    ∧ State.reset.store.order = [] ∧ State.reset.store.configInvalid = true
    ∧ State.reset.supply.state = .run ∧ State.reset.supply.retention = true
    ∧ State.reset.cfg.clock.holdLimit = 3600 ∧ State.reset.cfg.net.mtype = 0x9A4C#16
    ∧ State.reset.cnt.store.invalidSlots = 1024
    ∧ allOk State.reset ∧ settingsOk State.reset.cfg
    ∧ exec .coldStart (State.unpowered 0) = .next State.reset

/-- Every step keeps the clock's ranges (01, table of items; R1, R2, R12, R13). -/
def Obligations.StepKeepsClock : Prop :=
  ∀ s t : State, clockOk s → step s = .next t → clockOk t

/-- Every step keeps the queues within R47 and R53. -/
def Obligations.StepKeepsQueues : Prop :=
  ∀ s t : State, queuesOk s → step s = .next t → queuesOk t

/-- Every step keeps the trip list and the groups (R94, R97, R98): 512 records at most, no number twice for a source but
after a restart, and no group refers to a record that is gone. -/
def Obligations.StepKeepsTripsAndGroups : Prop :=
  ∀ s t : State, tripsOk s → groupsOk s → step s = .next t → tripsOk t ∧ groupsOk t

/-- Every step keeps the units (R123, R131, R142). -/
def Obligations.StepKeepsUnits : Prop :=
  ∀ s t : State, unitsOk s → step s = .next t → unitsOk t

/-- Every step keeps the shifts and the handover in progress (R146, R148, R153, R157). -/
def Obligations.StepKeepsShifts : Prop :=
  ∀ s t : State, shiftsOk s → handoverOk s → step s = .next t → shiftsOk t ∧ handoverOk t

/-- Every step keeps the pulse lines (R170, R172, R178, R181, R182). -/
def Obligations.StepKeepsLines : Prop :=
  ∀ s t : State, linesOk s → step s = .next t → linesOk t

/-- Every step keeps the checkpoint writer (R190, R192, R193): the order holds exactly the pending units, once each, and
the program in progress writes the next generation in the next slot. -/
def Obligations.StepKeepsWriter : Prop :=
  ∀ s t : State, writerOk s → step s = .next t → writerOk t
end

