-- ==== Sys2Proof/Laws/Frame.lean ====
section
/-! SUPPORT. Laws/Frame.lean: frames. `Only l s t` says once what an operation leaves as it was; these lemmas compose
frames and give one for each shared operation. -/

namespace Sys2Proof.Safety

open Sys2Proof.Machine

theorem Only.refl (l : List Part) (s : State) : Only l s s := by
  constructor <;> intro _ <;> rfl

theorem Only.mono {a b : List Part} {s t : State} (h : Only a s t) (hab : ∀ x ∈ a, x ∈ b) : Only b s t :=
  ⟨fun n => h.clock (fun m => n (hab _ m)),
   fun n => h.cal (fun m => n (hab _ m)),
   fun n => h.portU (fun m => n (hab _ m)),
   fun n => h.portS (fun m => n (hab _ m)),
   fun n => h.cls (fun m => n (hab _ m)),
   fun n => h.recorder (fun m => n (hab _ m)),
   fun n => h.ann (fun m => n (hab _ m)),
   fun n => h.tally (fun m => n (hab _ m)),
   fun n => h.shift (fun m => n (hab _ m)),
   fun n => h.lines (fun m => n (hab _ m)),
   fun n => h.store (fun m => n (hab _ m)),
   fun n => h.supply (fun m => n (hab _ m)),
   fun n => h.resp (fun m => n (hab _ m)),
   fun n => h.cfg (fun m => n (hab _ m)),
   fun n => h.choices (fun m => n (hab _ m)),
   fun n => h.pending (fun m => n (hab _ m)),
   fun n => h.nClock (fun m => n (hab _ m)),
   fun n => h.nCal (fun m => n (hab _ m)),
   fun n => h.nPortU (fun m => n (hab _ m)),
   fun n => h.nPortS (fun m => n (hab _ m)),
   fun n => h.nCls (fun m => n (hab _ m)),
   fun n => h.nRecorder (fun m => n (hab _ m)),
   fun n => h.nAnn (fun m => n (hab _ m)),
   fun n => h.nTally (fun m => n (hab _ m)),
   fun n => h.nShift (fun m => n (hab _ m)),
   fun n => h.nLines (fun m => n (hab _ m)),
   fun n => h.nStore (fun m => n (hab _ m)),
   fun n => h.nResp (fun m => n (hab _ m))⟩

theorem Only.trans {l : List Part} {s t u : State} (h : Only l s t) (k : Only l t u) : Only l s u :=
  ⟨fun n => (k.clock n).trans (h.clock n),
   fun n => (k.cal n).trans (h.cal n),
   fun n => (k.portU n).trans (h.portU n),
   fun n => (k.portS n).trans (h.portS n),
   fun n => (k.cls n).trans (h.cls n),
   fun n => (k.recorder n).trans (h.recorder n),
   fun n => (k.ann n).trans (h.ann n),
   fun n => (k.tally n).trans (h.tally n),
   fun n => (k.shift n).trans (h.shift n),
   fun n => (k.lines n).trans (h.lines n),
   fun n => (k.store n).trans (h.store n),
   fun n => (k.supply n).trans (h.supply n),
   fun n => (k.resp n).trans (h.resp n),
   fun n => (k.cfg n).trans (h.cfg n),
   fun n => (k.choices n).trans (h.choices n),
   fun n => (k.pending n).trans (h.pending n),
   fun n => (k.nClock n).trans (h.nClock n),
   fun n => (k.nCal n).trans (h.nCal n),
   fun n => (k.nPortU n).trans (h.nPortU n),
   fun n => (k.nPortS n).trans (h.nPortS n),
   fun n => (k.nCls n).trans (h.nCls n),
   fun n => (k.nRecorder n).trans (h.nRecorder n),
   fun n => (k.nAnn n).trans (h.nAnn n),
   fun n => (k.nTally n).trans (h.nTally n),
   fun n => (k.nShift n).trans (h.nShift n),
   fun n => (k.nLines n).trans (h.nLines n),
   fun n => (k.nStore n).trans (h.nStore n),
   fun n => (k.nResp n).trans (h.nResp n)⟩

/-- Two operations one after the other. -/
theorem Only.seq {a b l : List Part} {s t u : State} (h : Only a s t) (k : Only b t u) (ha : ∀ x ∈ a, x ∈ l)
    (hb : ∀ x ∈ b, x ∈ l) : Only l s u := (h.mono ha).trans (k.mono hb)

/-- An operation repeated over a list. -/
theorem Only.foldl {α : Type} {l : List Part} (f : State → α → State) (h : ∀ s x, Only l s (f s x)) :
    ∀ (xs : List α) (s : State), Only l s (xs.foldl f s)
  | [], s => Only.refl l s
  | x :: xs, s => (h s x).trans (Only.foldl f h xs (f s x))

/-- A choice between two operations. -/
theorem Only.ite {l : List Part} {s t u : State} (b : Prop) [Decidable b] (h : Only l s t) (k : Only l s u) :
    Only l s (if b then t else u) := by
  split
  · exact h
  · exact k

theorem only_countClock (s : State) (f : ClockCnt → ClockCnt) :
    Only [.nClock] s (s.countClock f) := by
  constructor <;> intro h <;> first | rfl | exact absurd (by decide) h

theorem only_countCal (s : State) (f : CalCnt → CalCnt) :
    Only [.nCal] s (s.countCal f) := by
  constructor <;> intro h <;> first | rfl | exact absurd (by decide) h

theorem only_countCls (s : State) (f : ClsCnt → ClsCnt) :
    Only [.nCls] s (s.countCls f) := by
  constructor <;> intro h <;> first | rfl | exact absurd (by decide) h

theorem only_countRec (s : State) (f : RecCnt → RecCnt) :
    Only [.nRecorder] s (s.countRec f) := by
  constructor <;> intro h <;> first | rfl | exact absurd (by decide) h

theorem only_countAnn (s : State) (f : AnnCnt → AnnCnt) :
    Only [.nAnn] s (s.countAnn f) := by
  constructor <;> intro h <;> first | rfl | exact absurd (by decide) h

theorem only_countTally (s : State) (f : TallyCnt → TallyCnt) :
    Only [.nTally] s (s.countTally f) := by
  constructor <;> intro h <;> first | rfl | exact absurd (by decide) h

theorem only_countShift (s : State) (f : ShiftCnt → ShiftCnt) :
    Only [.nShift] s (s.countShift f) := by
  constructor <;> intro h <;> first | rfl | exact absurd (by decide) h

theorem only_countLines (s : State) (f : LineCnt → LineCnt) :
    Only [.nLines] s (s.countLines f) := by
  constructor <;> intro h <;> first | rfl | exact absurd (by decide) h

theorem only_countStore (s : State) (f : StoreCnt → StoreCnt) :
    Only [.nStore] s (s.countStore f) := by
  constructor <;> intro h <;> first | rfl | exact absurd (by decide) h

theorem only_countResp (s : State) (f : RespCnt → RespCnt) :
    Only [.nResp] s (s.countResp f) := by
  constructor <;> intro h <;> first | rfl | exact absurd (by decide) h

theorem only_countPort (s : State) (p : Port) (f : PortCnt → PortCnt) :
    Only [.nPortU, .nPortS] s (s.countPort p f) := by
  cases p <;>
  constructor <;> intro h <;> first | rfl | exact absurd (by decide) h

theorem only_withPort (s : State) (p : Port) (x : PortPath) :
    Only [.portU, .portS] s (s.withPort p x) := by
  cases p <;>
  constructor <;> intro h <;> first | rfl | exact absurd (by decide) h

theorem only_withUnit (s : State) (i : Fin 6) (u : UnitRec) :
    Only [.tally] s (s.withUnit i u) := by
  constructor <;> intro h <;> first | rfl | exact absurd (by decide) h

theorem only_withLine (s : State) (i : Fin 8) (u : Line) :
    Only [.lines] s (s.withLine i u) := by
  constructor <;> intro h <;> first | rfl | exact absurd (by decide) h

theorem only_withLineCfg (s : State) (i : Fin 8) (u : LineCfg) :
    Only [.cfg] s (s.withLineCfg i u) := by
  constructor <;> intro h <;> first | rfl | exact absurd (by decide) h

theorem only_withGroup (s : State) (i : Fin 16) (u : Group) :
    Only [.ann] s (s.withGroup i u) := by
  constructor <;> intro h <;> first | rfl | exact absurd (by decide) h

theorem only_withSlot (s : State) (i : Fin 64) (u : SourceSlot) :
    Only [.recorder] s (s.withSlot i u) := by
  constructor <;> intro h <;> first | rfl | exact absurd (by decide) h

theorem only_set_clock (s : State) (x : Clock) :
    Only [.clock] s ({ s with clock := x }) := by
  constructor <;> intro h <;> first | rfl | exact absurd (by decide) h

theorem only_set_cal (s : State) (x : Calendar) :
    Only [.cal] s ({ s with cal := x }) := by
  constructor <;> intro h <;> first | rfl | exact absurd (by decide) h

theorem only_set_cls (s : State) (x : Classifier) :
    Only [.cls] s ({ s with cls := x }) := by
  constructor <;> intro h <;> first | rfl | exact absurd (by decide) h

theorem only_set_recorder (s : State) (x : Recorder) :
    Only [.recorder] s ({ s with recorder := x }) := by
  constructor <;> intro h <;> first | rfl | exact absurd (by decide) h

theorem only_set_shift (s : State) (x : ShiftUnit) :
    Only [.shift] s ({ s with shift := x }) := by
  constructor <;> intro h <;> first | rfl | exact absurd (by decide) h

theorem only_set_store (s : State) (x : Store) :
    Only [.store] s ({ s with store := x }) := by
  constructor <;> intro h <;> first | rfl | exact absurd (by decide) h

theorem only_set_resp (s : State) (x : Responder) :
    Only [.resp] s ({ s with resp := x }) := by
  constructor <;> intro h <;> first | rfl | exact absurd (by decide) h

theorem only_set_cfg (s : State) (x : Settings) :
    Only [.cfg] s ({ s with cfg := x }) := by
  constructor <;> intro h <;> first | rfl | exact absurd (by decide) h

theorem only_set_ann (s : State) (x : Vector Group 16) :
    Only [.ann] s ({ s with ann := x }) := by
  constructor <;> intro h <;> first | rfl | exact absurd (by decide) h

theorem only_set_tally (s : State) (x : Vector UnitRec 6) :
    Only [.tally] s ({ s with tally := x }) := by
  constructor <;> intro h <;> first | rfl | exact absurd (by decide) h

theorem only_set_lines (s : State) (x : Vector Line 8) :
    Only [.lines] s ({ s with lines := x }) := by
  constructor <;> intro h <;> first | rfl | exact absurd (by decide) h

end Sys2Proof.Safety
end

