-- ==== Sys2Proof/Laws/Ops.lean ====
section
/-! SUPPORT. Laws/Ops.lean: the frame of each shared operation: all that it can change. -/

namespace Sys2Proof.Safety

open Sys2Proof.Machine

/-- What a notice changes. -/
abbrev noticeParts : List Part := [.portS, .resp, .nPortS, .nResp]
/-- What a checkpoint request changes. -/
abbrev requestParts : List Part := [.store, .nStore]
/-- What a crediting changes. -/
abbrev creditParts : List Part := [.tally, .nTally]
/-- What the tally unit changes. -/
abbrev tallyParts : List Part := [.tally, .nTally, .store, .nStore, .portS, .resp, .nPortS, .nResp]
/-- What the shift unit changes without a completion. -/
abbrev shiftParts : List Part := [.shift, .nShift, .portS, .resp, .nPortS, .nResp]
/-- What a completion changes. -/
abbrev completeParts : List Part :=
  [.shift, .nShift, .tally, .nTally, .store, .nStore, .portS, .resp, .nPortS, .nResp]
/-- What the annunciation unit changes, a completion included. -/
abbrev groupParts : List Part :=
  [.ann, .nAnn, .recorder, .shift, .nShift, .tally, .nTally, .store, .nStore, .portS, .resp, .nPortS, .nResp]
/-- What a trip report changes. -/
abbrev tripParts : List Part :=
  [.ann, .nAnn, .recorder, .nRecorder, .shift, .nShift, .tally, .nTally, .store, .nStore, .portS, .resp, .nPortS,
   .nResp]
/-- What the calendar changes. -/
abbrev calParts : List Part := [.cal, .nCal, .shift, .nShift, .portS, .resp, .nPortS, .nResp]
/-- What the lines change. -/
abbrev lineParts : List Part := [.lines, .nLines]
/-- What a clock event changes beside the clock itself. -/
abbrev clockParts : List Part :=
  [.clock, .nClock, .cal, .nCal, .shift, .nShift, .lines, .nLines, .portS, .resp, .nPortS, .nResp]
/-- What a reply changes. -/
abbrev replyParts : List Part := [.portU, .portS, .nPortU, .nPortS, .nResp]

/-! ### Egress, notices, checkpoint requests -/

theorem only_place (p : Port) (c : EgressClass) (f : TxFrame) (s : State) :
    Only [.portU, .portS, .nPortU, .nPortS] s (place p c f s) :=
  Only.ite _ ((only_withPort s p _).mono (by decide))
    (Only.ite _ ((only_withPort s p _).mono (by decide)) ((only_countPort s p _).mono (by decide)))

theorem only_place_s (c : EgressClass) (f : TxFrame) (s : State) : Only [.portS, .nPortS] s (place .s c f s) := by
  unfold place
  repeat' split
  all_goals constructor <;> intro h <;> first | rfl | exact absurd (by decide) h

/-- All that placing a frame can do (R53, R54): start it, queue it, or drop and count it. -/
theorem place_cases (p : Port) (c : EgressClass) (f : TxFrame) (s : State) :
    startsAtOnce s p = true ∧ place p c f s = s.withPort p { s.port p with tx := some ⟨f, s.now⟩ }
    ∨ startsAtOnce s p = false ∧ hasRoom s p c = true
      ∧ place p c f s = s.withPort p ((s.port p).withQueue c ((s.port p).queue c ++ [f]))
    ∨ startsAtOnce s p = false ∧ hasRoom s p c = false ∧ place p c f s = s.countPort p (countDrop c) := by
  unfold place
  cases startsAtOnce s p <;> cases hasRoom s p c <;> simp

theorem only_notice (code : Nat) (body : List Byte) (s : State) : Only noticeParts s (notice code body s) := by
  unfold notice
  split
  · exact ((only_set_resp s _).mono (by decide)).trans
      (((only_countResp _ _).mono (by decide)).trans ((only_place_s .notice _ _).mono (by decide)))
  · exact Only.refl _ s

theorem only_requestCheckpoint (u : Fin 6) (why : Reason) (s : State) :
    Only requestParts s (requestCheckpoint u why s) := by
  unfold requestCheckpoint
  split
  · exact (only_set_store s _).mono (by decide)
  · exact (only_countStore s _).mono (by decide)

theorem only_requestAllCheckpoints (why : Reason) (s : State) : Only requestParts s (requestAllCheckpoints why s) :=
  Only.foldl _ (fun s u => only_requestCheckpoint u why s) allUnits s

theorem only_reply (r : Request) (a : Answer) (s : State) : Only replyParts s (reply r a s) := by
  unfold reply
  split
  · exact ((only_countResp s _).mono (by decide)).trans ((only_place _ _ _ _).mono (by decide))
  · exact (only_place _ _ _ _).mono (by decide)

/-! ### Tally unit -/

theorem only_creditUnit (i : Fin 6) (s : State) : Only creditParts s (creditUnit i s) := by
  unfold creditUnit
  dsimp only
  split
  · exact (only_withUnit s i _).seq (only_countTally _ _) (by decide) (by decide)
  · exact (only_withUnit s i _).mono (by decide)

theorem only_creditAll (s : State) : Only creditParts s (creditAll s) :=
  Only.foldl _ (fun s i => only_creditUnit i s) allUnits s

theorem only_askHourly (i : Fin 6) (s : State) : Only [.tally, .nTally, .store, .nStore] s (askHourly i s) :=
  ((only_withUnit s i _).seq (only_countTally _ _) (by decide) (by decide)).trans
    ((only_requestCheckpoint _ _ _).mono (by decide))

theorem only_unitChange (i : Fin 6) (mode : Mode) (test : Bool) (t : Stamp) (s : State) :
    Only tallyParts s (unitChange i mode test t s) := by
  unfold unitChange
  dsimp only
  refine Only.trans ?_ (Only.ite _ ((only_askHourly i _).mono (by decide)) (Only.refl _ _))
  exact (((only_creditUnit i s).seq (only_withUnit _ i _) (by decide) (by decide)).trans
    ((only_notice _ _ _).mono (by decide))).trans
    ((only_requestCheckpoint i _ _).seq (only_countTally _ _) (by decide) (by decide))

theorem only_unitReport (i : Fin 6) (mode : Mode) (test : Bool) (t : Stamp) (s : State) :
    Only tallyParts s (unitReport i mode test t s) := by
  unfold unitReport
  dsimp only
  refine Only.trans
    ((only_countTally s (fun c => { c with reports := c.reports + 1 })).mono (by decide)) ?_
  split
  · split
    · exact (only_countTally _ _).mono (by decide)
    · exact (only_withUnit _ i _).seq (only_countTally _ _) (by decide) (by decide)
  · split
    · exact (only_countTally _ _).mono (by decide)
    · exact only_unitChange _ _ _ _ _

theorem only_tripStop (i : Fin 6) (s : State) : Only [.tally, .nTally, .store, .nStore] s (tripStop i s) := by
  unfold tripStop
  dsimp only
  split
  · exact (only_countTally s _).mono (by decide)
  · exact (((only_creditUnit i s).seq (only_withUnit _ i _) (by decide) (by decide))).trans
      ((only_requestCheckpoint i _ _).seq (only_countTally _ _) (by decide) (by decide))

theorem only_tallyTrip (i : Fin 6) (stop : Bool) (s : State) :
    Only [.tally, .nTally, .store, .nStore] s (tallyTrip i stop s) := by
  unfold tallyTrip
  dsimp only
  exact ((only_withUnit s i _).mono (by decide)).trans (Only.ite _ (only_tripStop i _) (Only.refl _ _))

theorem only_checkpointSnapshot (i : Fin 6) (s : State) : Only creditParts s (checkpointSnapshot i s) :=
  (only_creditUnit i s).seq (only_withUnit _ i _) (by decide) (by decide)

/-! ### Shift unit -/

theorem only_handoverNotice (ev : HandoverEvent) (rep : Option HeldAccept) (s : State) :
    Only noticeParts s (handoverNotice ev rep s) := only_notice _ _ s

theorem only_shiftNotice (ev : HandoverEvent) (rep : Option HeldAccept) (u : ShiftUnit) (s : State) :
    Only shiftParts s (handoverNotice ev rep { s with shift := u }) :=
  (only_set_shift s u).seq (only_handoverNotice _ _ _) (by decide) (by decide)

theorem only_shiftWarning (e : Fin 8) (crew : Nat) (s : State) : Only shiftParts s (shiftWarning e crew s) :=
  Only.ite _ (only_shiftNotice _ _ _ s) (Only.refl _ s)

theorem only_shiftDue (e : Fin 8) (crew : Nat) (s : State) : Only shiftParts s (shiftDue e crew s) := by
  unfold shiftDue
  dsimp only
  split
  · exact only_shiftNotice _ _ _ s
  · exact only_shiftNotice _ _ _ s
  · exact only_shiftNotice _ _ _ s
  · exact Only.ite _ (only_shiftNotice _ _ _ s) (only_shiftNotice _ _ _ s)
  · exact Only.refl _ s

theorem only_shiftOffer (r : HeldAccept) (s : State) : Only shiftParts s (shiftOffer r s) := by
  unfold shiftOffer
  dsimp only
  have misfit : Only shiftParts s (s.countShift (fun c => { c with crewMisfit := c.crewMisfit + 1 })) :=
    (only_countShift s _).mono (by decide)
  split
  · exact Only.ite _ (only_shiftNotice _ _ _ s) misfit
  · exact Only.ite _ (only_shiftNotice _ _ _ s) misfit
  · exact Only.ite _ (only_shiftNotice _ _ _ s) misfit
  · exact Only.refl _ s
  · exact Only.refl _ s

theorem only_complete (ev : HandoverEvent) (closing : Stamp) (crew : Nat) (incoming : Option (BitVec 16))
    (rep : Option HeldAccept) (s : State) : Only completeParts s (complete ev closing crew incoming rep s) := by
  unfold complete
  dsimp only
  exact (((only_creditAll s).seq (only_set_shift _ _) (by decide) (by decide)).trans
    ((only_requestAllCheckpoints _ _).mono (by decide))).trans
    ((only_notice _ _ _).seq (only_countShift _ _) (by decide) (by decide))

theorem only_completeAccept (r : HeldAccept) (s : State) : Only completeParts s (completeAccept r s) :=
  only_complete _ _ _ _ _ s

theorem only_shiftAccept (r : HeldAccept) (s : State) : Only completeParts s (shiftAccept r s) := by
  unfold shiftAccept
  split
  · split
    · split
      · exact ((only_set_shift s _).seq (only_countShift _ _) (by decide) (by decide)).trans
          ((only_handoverNotice _ _ _).mono (by decide))
      · exact only_completeAccept r s
    · exact (only_countShift s _).mono (by decide)
  · exact Only.refl _ s
  · exact (only_countShift s _).mono (by decide)
  · exact (only_countShift s _).mono (by decide)
  · exact (only_countShift s _).mono (by decide)

theorem only_endOffer (ev : HandoverEvent) (valid : Bool) (count : ShiftCnt → ShiftCnt) (r : HeldAccept) (s : State) :
    Only completeParts s (endOffer ev valid count r s) := by
  unfold endOffer
  split
  · split
    · exact ((only_set_shift s _).seq (only_countShift _ _) (by decide) (by decide)).trans
        ((only_handoverNotice _ _ _).mono (by decide))
    · exact (only_countShift s _).mono (by decide)
  · exact Only.refl _ s

theorem only_handoverReport (v : Verb) (r : HeldAccept) (s : State) : Only completeParts s (handoverReport v r s) := by
  cases v
  · exact (only_shiftOffer r s).mono (by decide)
  · exact only_shiftAccept r s
  · exact only_endOffer _ _ _ r s
  · exact only_endOffer _ _ _ r s

theorem only_shiftDecision (g : Fin 16) (s : State) : Only completeParts s (shiftDecision g s) := by
  unfold shiftDecision
  extract_lets u o s1
  refine Only.trans (t := s1) ((only_set_shift s _).mono (by decide)) ?_
  split
  · exact Only.ite _ (Only.refl _ _) (only_completeAccept _ _)
  · exact Only.refl _ _

theorem only_countShiftTrip (no : Nat) (late : Bool) (s : State) : Only [.shift] s (countShiftTrip no late s) := by
  unfold countShiftTrip
  exact Only.ite _ (only_set_shift s _) (only_set_shift s _)

theorem only_overdueExpires (s : State) : Only shiftParts s (overdueExpires s) :=
  ((only_set_shift s _).seq (only_countShift _ _) (by decide) (by decide)).trans
    ((only_handoverNotice _ _ _).mono (by decide))

theorem only_offerLapses (s : State) : Only shiftParts s (offerLapses s) :=
  ((only_set_shift s _).seq (only_countShift _ _) (by decide) (by decide)).trans
    ((only_handoverNotice _ _ _).mono (by decide))

theorem only_restartHandoverTimer (s : State) : Only [.shift] s (restartHandoverTimer s) :=
  Only.ite _ (only_set_shift s _) (Only.refl _ s)

/-! ### Annunciation unit and recorder -/

theorem only_decideGroup (g : Fin 16) (s : State) : Only [.ann, .nAnn, .recorder] s (decideGroup g s) := by
  unfold decideGroup
  dsimp only
  exact ((only_set_recorder s _).seq (only_withGroup _ g _) (by decide) (by decide)).trans
    ((only_countAnn _ _).mono (by decide))

theorem only_firstOutNotice (g : Fin 16) (s : State) : Only noticeParts s (firstOutNotice g s) := by
  unfold firstOutNotice
  split
  · exact only_notice _ _ s
  · exact Only.refl _ s

theorem only_groupDecides (g : Fin 16) (s : State) : Only groupParts s (groupDecides g s) :=
  (((only_decideGroup g s).seq (only_firstOutNotice g _) (by decide) (by decide))).trans
    ((only_shiftDecision g _).mono (by decide))

theorem only_setFlags (seq : BitVec 32) (a e : Bool) (s : State) : Only [.recorder] s (setFlags seq a e s) :=
  only_set_recorder s _

theorem only_unmaskedRecord (r : TripRecord) (s : State) : Only groupParts s (unmaskedRecord r s) := by
  unfold unmaskedRecord
  dsimp only
  split
  · refine Only.trans (t := setFlags r.seq false false s) ((only_setFlags _ _ _ s).mono (by decide)) ?_
    exact Only.ite _ (((only_withGroup _ _ _).mono (by decide)).trans (only_groupDecides _ _))
      ((only_withGroup _ _ _).mono (by decide))
  · refine Only.ite _ ?_ ((only_setFlags _ _ _ s).mono (by decide))
    exact (only_setFlags _ _ _ s).seq (only_withGroup _ _ _) (by decide) (by decide)
  · exact (only_setFlags _ _ _ s).seq (only_countAnn _ _) (by decide) (by decide)
  · exact (only_setFlags _ _ _ s).seq (only_countAnn _ _) (by decide) (by decide)

theorem only_groupRecord (r : TripRecord) (s : State) : Only groupParts s (groupRecord r s) := by
  unfold groupRecord
  extract_lets x s1
  refine Only.trans (t := s1) ((only_withGroup s _ _).mono (by decide)) ?_
  split
  · exact (only_setFlags _ _ _ _).seq (only_countAnn _ _) (by decide) (by decide)
  · exact only_unmaskedRecord _ _

theorem only_ackGroup (g : Fin 16) (s : State) :
    Only [.ann, .nAnn, .recorder, .portS, .resp, .nPortS, .nResp] s (ackGroup g s) := by
  unfold ackGroup
  dsimp only
  exact (((only_set_recorder s _).seq (only_withGroup _ g _) (by decide) (by decide))).trans
    ((only_countAnn _ _).seq (only_notice _ _ _) (by decide) (by decide))

theorem only_resetGroup (g : Fin 16) (s : State) :
    Only [.ann, .nAnn, .portS, .resp, .nPortS, .nResp] s (resetGroup g s) := by
  unfold resetGroup
  dsimp only
  exact ((only_withGroup s g _).seq (only_countAnn _ _) (by decide) (by decide)).trans
    ((only_notice _ _ _).mono (by decide))

theorem only_groupsBackup (s : State) : Only [.ann, .nAnn, .recorder] s (groupsBackup s) :=
  Only.foldl _ (fun s g => Only.ite _ (only_decideGroup g s) (Only.refl _ s)) allGroups s

theorem only_removeRecord (r : TripRecord) (s : State) : Only [.recorder, .nRecorder] s (removeRecord r s) := by
  unfold removeRecord
  extract_lets slot rc s1 s2
  refine Only.trans (t := s1) ((only_set_recorder s _).mono (by decide)) ?_
  refine Only.trans (t := s2) ?_ ((only_countRec _ _).mono (by decide))
  exact Only.ite _ ((only_withSlot _ _ _).mono (by decide)) (Only.refl _ _)

theorem only_makeRoom {s t : State} (h : makeRoom s = some t) : Only [.recorder, .nRecorder] s t := by
  unfold makeRoom at h
  split at h
  · cases h
    exact Only.refl _ s
  · obtain ⟨r, -, rfl⟩ := Option.map_eq_some_iff.mp h
    exact only_removeRecord r s

theorem only_tallyTripOpt (u : Option (Fin 6)) (stop : Bool) (s : State) :
    Only [.tally, .nTally, .store, .nStore] s (match u with | some u => tallyTrip u stop s | none => s) := by
  cases u
  · exact Only.refl _ s
  · exact only_tallyTrip _ _ _

theorem only_handOn (r : TripReport) (x : TripRecord) (s : State) : Only tripParts s (handOn r x s) := by
  unfold handOn
  refine Only.trans (t := if r.kind = .trip then groupRecord x
      (match r.unit with
        | some u => tallyTrip u r.unitStop (countShiftTrip x.shiftNo x.late s)
        | none => countShiftTrip x.shiftNo x.late s) else s) (Only.ite _ ?_ (Only.refl _ s)) ?_
  · let s2 := countShiftTrip x.shiftNo x.late s
    let s3 := match r.unit with
      | some u => tallyTrip u r.unitStop s2
      | none => s2
    refine Only.trans (t := s2) ((only_countShiftTrip _ _ s).mono (by decide)) ?_
    refine Only.trans (t := s3) ((only_tallyTripOpt r.unit r.unitStop s2).mono (by decide)) ?_
    exact (only_groupRecord x s3).mono (by decide)
  · exact Only.ite _ (Only.refl _ _) ((only_notice _ _ _).mono (by decide))

theorem only_loseReport (r : TripReport) (e : BitVec 8) (s : State) : Only tripParts s (loseReport r e s) := by
  unfold loseReport
  extract_lets s1 rc s2 s3
  refine Only.trans (t := s1) ((only_withSlot s _ _).seq (only_countRec _ _) (by decide) (by decide)) ?_
  refine Only.trans (t := s2) ((only_set_recorder _ _).mono (by decide)) ?_
  refine Only.ite _ ?_ (Only.refl _ _)
  refine Only.trans (t := s3) ((only_tallyTripOpt r.unit r.unitStop s2).mono (by decide)) ?_
  exact (only_withGroup _ _ _).mono (by decide)

theorem only_restartOf (j : Judgement) (r : TripReport) (s : State) : Only [.nRecorder] s (restartOf j r s).2 := by
  unfold restartOf
  split
  · exact only_countRec s (fun c => { c with restart := c.restart + 1 })
  · split
    · exact only_countRec s (fun c => { c with wrap := c.wrap + 1 })
    · exact Only.refl _ s

theorem only_repeatReport (r : TripReport) (s : State) : Only tripParts s (repeatReport r s) := by
  unfold repeatReport
  extract_lets slot s1
  refine Only.trans (t := s1) ((only_withSlot s _ _).seq (only_countRec _ _) (by decide) (by decide)) ?_
  split
  · exact (only_set_recorder _ _).mono (by decide)
  · exact Only.refl _ _

theorem only_staleReport (r : TripReport) (s : State) : Only tripParts s (staleReport r s) := by
  unfold staleReport
  exact (only_withSlot s _ _).seq (only_countRec _ _) (by decide) (by decide)

theorem only_placed (r : TripReport) (e : BitVec 8) (x : TripRecord) (s : State) :
    Only tripParts s
      (handOn r x (({ s with recorder.list := s.recorder.list ++ [x]
                             recorder.nextSeq := seqNext s.recorder.nextSeq }.withSlot r.source
        (s.recorder.slots[r.source].taken r.stateNo e (some x.seq))).countRec
          (fun c => { c with records := c.records + 1 }))) :=
  ((only_set_recorder s _).mono (by decide)).trans
    (((only_withSlot _ _ _).seq (only_countRec _ _) (by decide) (by decide)).trans (only_handOn r x _))

theorem only_recordReport (j : Judgement) (r : TripReport) (s : State) : Only tripParts s (recordReport j r s) := by
  unfold recordReport
  generalize h : restartOf j r s = p
  have h1 : Only tripParts s p.2 := h ▸ (only_restartOf j r s).mono (by decide)
  obtain ⟨b, s1⟩ := p
  refine h1.trans ?_
  refine Only.trans (t := if (recordStamp s1.cfg.plausibility r).2 = .fallback then
      s1.countRec (fun c => { c with fallback := c.fallback + 1 }) else s1)
    (Only.ite _ ((only_countRec s1 _).mono (by decide)) (Only.refl _ _)) ?_
  dsimp only
  generalize (if (recordStamp s1.cfg.plausibility r).2 = .fallback then _ else s1) = s2
  cases h3 : makeRoom s2 with
  | none => exact only_loseReport _ _ _
  | some s3 => exact ((only_makeRoom h3).mono (by decide)).trans (only_placed r _ _ s3)

theorem only_tripReport (r : TripReport) (s : State) : Only tripParts s (tripReport r s) := by
  unfold tripReport
  split
  · exact only_repeatReport r s
  · exact only_staleReport r s
  · exact only_recordReport _ r s
  · exact only_recordReport _ r s

/-! ### Requests -/

theorem only_answerUnknown : ∀ (l : List Request) (s : State), Only (.resp :: replyParts) s (answerUnknown l s)
  | [], s => (only_set_resp s _).mono (by decide)
  | r :: rs, s => by
    unfold answerUnknown
    split
    · exact (only_set_resp s _).mono (by decide)
    · exact (((only_countResp s _).seq (only_reply r _ _) (by decide) (by decide))).trans (only_answerUnknown rs _)

theorem only_settleHanded (s : State) : Only (.resp :: replyParts) s (settleHanded s) :=
  Only.ite _ (only_answerUnknown _ s) (Only.refl _ s)

theorem only_hand (r : Request) (s : State) : Only (.resp :: replyParts) s (hand r s) :=
  ((only_set_resp s _).mono (by decide)).trans (only_settleHanded _)

/-! ### Calendar -/

theorem only_runDue (s : State) : Only calParts s (runDue s) := by
  unfold runDue
  extract_lets e c s1 s2
  have h1 : Only calParts s s1 := (only_set_cal s _).mono (by decide)
  have h2 : Only calParts s1 s2 :=
    Only.ite _ ((only_countCal s1 (fun c => { c with scheduleSkip := c.scheduleSkip + 1 })).mono (by decide))
      (Only.refl _ _)
  refine (h1.trans h2).trans ?_
  split
  · exact (only_countCal s2 _).seq (only_shiftDue _ _ _) (by decide) (by decide)
  · exact Only.refl _ _

theorem only_runWarning (s : State) : Only calParts s (runWarning s) := by
  unfold runWarning
  split
  · exact (only_set_cal s _).mono (by decide)
  · extract_lets e c s1 s2
    have h1 : Only calParts s s1 := (only_set_cal s _).mono (by decide)
    have h2 : Only calParts s1 s2 :=
      Only.ite _ ((only_countCal s1 (fun c => { c with warningSkip := c.warningSkip + 1 })).mono (by decide))
        (Only.refl _ _)
    refine (h1.trans h2).trans ?_
    split
    · exact (only_countCal s2 _).seq (only_shiftWarning _ _ _) (by decide) (by decide)
    · exact Only.refl _ _

theorem only_runExaminers (s : State) : Only calParts s (runExaminers s) :=
  Only.ite _ (Only.refl _ s) ((only_runDue s).trans (only_runWarning _))

theorem only_calendarEvent (b : Bool) (s : State) : Only calParts s (calendarEvent b s) := by
  unfold calendarEvent
  extract_lets f sw s1 c s2
  have h1 : Only calParts s s1 :=
    Only.ite _ ((only_countCal s (fun c => { c with seasonSwitch := c.seasonSwitch + 1 })).mono (by decide))
      (Only.refl _ _)
  have h2 : Only calParts s1 s2 := (only_set_cal s1 _).mono (by decide)
  exact (h1.trans h2).trans (Only.ite _ (only_runExaminers s2) (Only.refl _ _))

/-! ### Pulse lines -/

theorem only_beginPulse (i : Fin 8) (w : Wire) (l : Line) (s : State) : Only lineParts s (beginPulse i w l s) := by
  unfold beginPulse
  exact (only_withLine s i _).seq (only_countLines _ _) (by decide) (by decide)

theorem only_realign (i : Fin 8) (s : State) : Only lineParts s (realign i s) := by
  unfold realign
  exact (only_withLine s i _).seq (only_countLines _ _) (by decide) (by decide)

theorem only_agree (i : Fin 8) (s : State) : Only lineParts s (agree i s) := by
  unfold agree
  extract_lets c l
  split
  · exact Only.ite _ (Only.refl _ s) ((only_withLine s i _).mono (by decide))
  · exact Only.ite _ (only_realign i s) (Only.refl _ s)

theorem only_renewTarget (i : Fin 8) (s : State) : Only [.lines] s (renewTarget i s) := only_withLine s i _

theorem only_applyChange (i : Fin 8) (ch : LineChange) (s : State) :
    Only (.cfg :: lineParts) s (applyChange i ch s) := by
  unfold applyChange
  split
  · exact (only_withLine s i _).mono (by decide)
  · rename_i f
    extract_lets s1
    have h1 : Only (.cfg :: lineParts) s s1 := (only_withLineCfg s i _).mono (by decide)
    have h2 : Only (.cfg :: lineParts) s1 (if s.cfg.lines[i].function = f then s1 else renewTarget i s1) :=
      Only.ite _ (Only.refl _ _) ((only_renewTarget i s1).mono (by decide))
    exact (h1.trans h2).trans ((only_agree i _).mono (by decide))
  · exact (only_withLineCfg s i _).seq (only_agree i _) (by decide) (by decide)

theorem only_decideLine (i : Fin 8) (s : State) : Only lineParts s (decideLine i s) := by
  unfold decideLine
  extract_lets c l
  split
  · split
    · exact Only.ite _ (only_beginPulse _ _ _ s) (Only.refl _ s)
    · split
      · split
        · exact Only.ite _ (only_beginPulse _ _ _ s) (Only.refl _ s)
        · exact Only.refl _ s
      · exact Only.refl _ s
  · exact Only.refl _ s

theorem only_lineRollover (i : Fin 8) (s : State) : Only lineParts s (lineRollover i s) := by
  unfold lineRollover
  split
  · split
    · exact Only.refl _ s
    · split
      · exact only_beginPulse _ _ _ s
      · exact (only_countLines s _).mono (by decide)
      · exact Only.refl _ s
  · exact Only.ite _ (((only_withLine s i _).mono (by decide)).trans (only_decideLine i _)) (Only.refl _ s)

theorem only_linesRollover (s : State) : Only lineParts s (linesRollover s) :=
  Only.foldl _ (fun s i => only_lineRollover i s) allLines s

theorem only_lineClockChange (i : Fin 8) (s : State) : Only lineParts s (lineClockChange i s) :=
  Only.ite _ (((only_withLine s i _).mono (by decide)).trans (only_decideLine i _)) (Only.refl _ s)

theorem only_linesClockChange (s : State) : Only lineParts s (linesClockChange s) :=
  Only.foldl _ (fun s i => only_lineClockChange i s) allLines s

end Sys2Proof.Safety
end

