-- ==== Sys2Proof/Laws/State.lean ====
section
/-! SUPPORT. Laws/State.lean: one lemma per field per named update of State, each true by rfl. -/

namespace Sys2Proof.Machine

@[simp] theorem countClock_clock (s : State) (f : ClockCnt → ClockCnt) : (s.countClock f).clock = s.clock := rfl
@[simp] theorem countClock_cal (s : State) (f : ClockCnt → ClockCnt) : (s.countClock f).cal = s.cal := rfl
@[simp] theorem countClock_portU (s : State) (f : ClockCnt → ClockCnt) : (s.countClock f).portU = s.portU := rfl
@[simp] theorem countClock_portS (s : State) (f : ClockCnt → ClockCnt) : (s.countClock f).portS = s.portS := rfl
@[simp] theorem countClock_cls (s : State) (f : ClockCnt → ClockCnt) : (s.countClock f).cls = s.cls := rfl
@[simp] theorem countClock_recorder (s : State) (f : ClockCnt → ClockCnt) : (s.countClock f).recorder = s.recorder := rfl
@[simp] theorem countClock_ann (s : State) (f : ClockCnt → ClockCnt) : (s.countClock f).ann = s.ann := rfl
@[simp] theorem countClock_tally (s : State) (f : ClockCnt → ClockCnt) : (s.countClock f).tally = s.tally := rfl
@[simp] theorem countClock_shift (s : State) (f : ClockCnt → ClockCnt) : (s.countClock f).shift = s.shift := rfl
@[simp] theorem countClock_lines (s : State) (f : ClockCnt → ClockCnt) : (s.countClock f).lines = s.lines := rfl
@[simp] theorem countClock_store (s : State) (f : ClockCnt → ClockCnt) : (s.countClock f).store = s.store := rfl
@[simp] theorem countClock_supply (s : State) (f : ClockCnt → ClockCnt) : (s.countClock f).supply = s.supply := rfl
@[simp] theorem countClock_resp (s : State) (f : ClockCnt → ClockCnt) : (s.countClock f).resp = s.resp := rfl
@[simp] theorem countClock_cfg (s : State) (f : ClockCnt → ClockCnt) : (s.countClock f).cfg = s.cfg := rfl
@[simp] theorem countClock_cnt (s : State) (f : ClockCnt → ClockCnt) : (s.countClock f).cnt = { s.cnt with clock := f s.cnt.clock } := rfl
@[simp] theorem countClock_choices (s : State) (f : ClockCnt → ClockCnt) : (s.countClock f).choices = s.choices := rfl
@[simp] theorem countClock_pending (s : State) (f : ClockCnt → ClockCnt) : (s.countClock f).pending = s.pending := rfl

@[simp] theorem countCal_clock (s : State) (f : CalCnt → CalCnt) : (s.countCal f).clock = s.clock := rfl
@[simp] theorem countCal_cal (s : State) (f : CalCnt → CalCnt) : (s.countCal f).cal = s.cal := rfl
@[simp] theorem countCal_portU (s : State) (f : CalCnt → CalCnt) : (s.countCal f).portU = s.portU := rfl
@[simp] theorem countCal_portS (s : State) (f : CalCnt → CalCnt) : (s.countCal f).portS = s.portS := rfl
@[simp] theorem countCal_cls (s : State) (f : CalCnt → CalCnt) : (s.countCal f).cls = s.cls := rfl
@[simp] theorem countCal_recorder (s : State) (f : CalCnt → CalCnt) : (s.countCal f).recorder = s.recorder := rfl
@[simp] theorem countCal_ann (s : State) (f : CalCnt → CalCnt) : (s.countCal f).ann = s.ann := rfl
@[simp] theorem countCal_tally (s : State) (f : CalCnt → CalCnt) : (s.countCal f).tally = s.tally := rfl
@[simp] theorem countCal_shift (s : State) (f : CalCnt → CalCnt) : (s.countCal f).shift = s.shift := rfl
@[simp] theorem countCal_lines (s : State) (f : CalCnt → CalCnt) : (s.countCal f).lines = s.lines := rfl
@[simp] theorem countCal_store (s : State) (f : CalCnt → CalCnt) : (s.countCal f).store = s.store := rfl
@[simp] theorem countCal_supply (s : State) (f : CalCnt → CalCnt) : (s.countCal f).supply = s.supply := rfl
@[simp] theorem countCal_resp (s : State) (f : CalCnt → CalCnt) : (s.countCal f).resp = s.resp := rfl
@[simp] theorem countCal_cfg (s : State) (f : CalCnt → CalCnt) : (s.countCal f).cfg = s.cfg := rfl
@[simp] theorem countCal_cnt (s : State) (f : CalCnt → CalCnt) : (s.countCal f).cnt = { s.cnt with cal := f s.cnt.cal } := rfl
@[simp] theorem countCal_choices (s : State) (f : CalCnt → CalCnt) : (s.countCal f).choices = s.choices := rfl
@[simp] theorem countCal_pending (s : State) (f : CalCnt → CalCnt) : (s.countCal f).pending = s.pending := rfl

@[simp] theorem countCls_clock (s : State) (f : ClsCnt → ClsCnt) : (s.countCls f).clock = s.clock := rfl
@[simp] theorem countCls_cal (s : State) (f : ClsCnt → ClsCnt) : (s.countCls f).cal = s.cal := rfl
@[simp] theorem countCls_portU (s : State) (f : ClsCnt → ClsCnt) : (s.countCls f).portU = s.portU := rfl
@[simp] theorem countCls_portS (s : State) (f : ClsCnt → ClsCnt) : (s.countCls f).portS = s.portS := rfl
@[simp] theorem countCls_cls (s : State) (f : ClsCnt → ClsCnt) : (s.countCls f).cls = s.cls := rfl
@[simp] theorem countCls_recorder (s : State) (f : ClsCnt → ClsCnt) : (s.countCls f).recorder = s.recorder := rfl
@[simp] theorem countCls_ann (s : State) (f : ClsCnt → ClsCnt) : (s.countCls f).ann = s.ann := rfl
@[simp] theorem countCls_tally (s : State) (f : ClsCnt → ClsCnt) : (s.countCls f).tally = s.tally := rfl
@[simp] theorem countCls_shift (s : State) (f : ClsCnt → ClsCnt) : (s.countCls f).shift = s.shift := rfl
@[simp] theorem countCls_lines (s : State) (f : ClsCnt → ClsCnt) : (s.countCls f).lines = s.lines := rfl
@[simp] theorem countCls_store (s : State) (f : ClsCnt → ClsCnt) : (s.countCls f).store = s.store := rfl
@[simp] theorem countCls_supply (s : State) (f : ClsCnt → ClsCnt) : (s.countCls f).supply = s.supply := rfl
@[simp] theorem countCls_resp (s : State) (f : ClsCnt → ClsCnt) : (s.countCls f).resp = s.resp := rfl
@[simp] theorem countCls_cfg (s : State) (f : ClsCnt → ClsCnt) : (s.countCls f).cfg = s.cfg := rfl
@[simp] theorem countCls_cnt (s : State) (f : ClsCnt → ClsCnt) : (s.countCls f).cnt = { s.cnt with cls := f s.cnt.cls } := rfl
@[simp] theorem countCls_choices (s : State) (f : ClsCnt → ClsCnt) : (s.countCls f).choices = s.choices := rfl
@[simp] theorem countCls_pending (s : State) (f : ClsCnt → ClsCnt) : (s.countCls f).pending = s.pending := rfl

@[simp] theorem countRec_clock (s : State) (f : RecCnt → RecCnt) : (s.countRec f).clock = s.clock := rfl
@[simp] theorem countRec_cal (s : State) (f : RecCnt → RecCnt) : (s.countRec f).cal = s.cal := rfl
@[simp] theorem countRec_portU (s : State) (f : RecCnt → RecCnt) : (s.countRec f).portU = s.portU := rfl
@[simp] theorem countRec_portS (s : State) (f : RecCnt → RecCnt) : (s.countRec f).portS = s.portS := rfl
@[simp] theorem countRec_cls (s : State) (f : RecCnt → RecCnt) : (s.countRec f).cls = s.cls := rfl
@[simp] theorem countRec_recorder (s : State) (f : RecCnt → RecCnt) : (s.countRec f).recorder = s.recorder := rfl
@[simp] theorem countRec_ann (s : State) (f : RecCnt → RecCnt) : (s.countRec f).ann = s.ann := rfl
@[simp] theorem countRec_tally (s : State) (f : RecCnt → RecCnt) : (s.countRec f).tally = s.tally := rfl
@[simp] theorem countRec_shift (s : State) (f : RecCnt → RecCnt) : (s.countRec f).shift = s.shift := rfl
@[simp] theorem countRec_lines (s : State) (f : RecCnt → RecCnt) : (s.countRec f).lines = s.lines := rfl
@[simp] theorem countRec_store (s : State) (f : RecCnt → RecCnt) : (s.countRec f).store = s.store := rfl
@[simp] theorem countRec_supply (s : State) (f : RecCnt → RecCnt) : (s.countRec f).supply = s.supply := rfl
@[simp] theorem countRec_resp (s : State) (f : RecCnt → RecCnt) : (s.countRec f).resp = s.resp := rfl
@[simp] theorem countRec_cfg (s : State) (f : RecCnt → RecCnt) : (s.countRec f).cfg = s.cfg := rfl
@[simp] theorem countRec_cnt (s : State) (f : RecCnt → RecCnt) : (s.countRec f).cnt = { s.cnt with recorder := f s.cnt.recorder } := rfl
@[simp] theorem countRec_choices (s : State) (f : RecCnt → RecCnt) : (s.countRec f).choices = s.choices := rfl
@[simp] theorem countRec_pending (s : State) (f : RecCnt → RecCnt) : (s.countRec f).pending = s.pending := rfl

@[simp] theorem countAnn_clock (s : State) (f : AnnCnt → AnnCnt) : (s.countAnn f).clock = s.clock := rfl
@[simp] theorem countAnn_cal (s : State) (f : AnnCnt → AnnCnt) : (s.countAnn f).cal = s.cal := rfl
@[simp] theorem countAnn_portU (s : State) (f : AnnCnt → AnnCnt) : (s.countAnn f).portU = s.portU := rfl
@[simp] theorem countAnn_portS (s : State) (f : AnnCnt → AnnCnt) : (s.countAnn f).portS = s.portS := rfl
@[simp] theorem countAnn_cls (s : State) (f : AnnCnt → AnnCnt) : (s.countAnn f).cls = s.cls := rfl
@[simp] theorem countAnn_recorder (s : State) (f : AnnCnt → AnnCnt) : (s.countAnn f).recorder = s.recorder := rfl
@[simp] theorem countAnn_ann (s : State) (f : AnnCnt → AnnCnt) : (s.countAnn f).ann = s.ann := rfl
@[simp] theorem countAnn_tally (s : State) (f : AnnCnt → AnnCnt) : (s.countAnn f).tally = s.tally := rfl
@[simp] theorem countAnn_shift (s : State) (f : AnnCnt → AnnCnt) : (s.countAnn f).shift = s.shift := rfl
@[simp] theorem countAnn_lines (s : State) (f : AnnCnt → AnnCnt) : (s.countAnn f).lines = s.lines := rfl
@[simp] theorem countAnn_store (s : State) (f : AnnCnt → AnnCnt) : (s.countAnn f).store = s.store := rfl
@[simp] theorem countAnn_supply (s : State) (f : AnnCnt → AnnCnt) : (s.countAnn f).supply = s.supply := rfl
@[simp] theorem countAnn_resp (s : State) (f : AnnCnt → AnnCnt) : (s.countAnn f).resp = s.resp := rfl
@[simp] theorem countAnn_cfg (s : State) (f : AnnCnt → AnnCnt) : (s.countAnn f).cfg = s.cfg := rfl
@[simp] theorem countAnn_cnt (s : State) (f : AnnCnt → AnnCnt) : (s.countAnn f).cnt = { s.cnt with ann := f s.cnt.ann } := rfl
@[simp] theorem countAnn_choices (s : State) (f : AnnCnt → AnnCnt) : (s.countAnn f).choices = s.choices := rfl
@[simp] theorem countAnn_pending (s : State) (f : AnnCnt → AnnCnt) : (s.countAnn f).pending = s.pending := rfl

@[simp] theorem countTally_clock (s : State) (f : TallyCnt → TallyCnt) : (s.countTally f).clock = s.clock := rfl
@[simp] theorem countTally_cal (s : State) (f : TallyCnt → TallyCnt) : (s.countTally f).cal = s.cal := rfl
@[simp] theorem countTally_portU (s : State) (f : TallyCnt → TallyCnt) : (s.countTally f).portU = s.portU := rfl
@[simp] theorem countTally_portS (s : State) (f : TallyCnt → TallyCnt) : (s.countTally f).portS = s.portS := rfl
@[simp] theorem countTally_cls (s : State) (f : TallyCnt → TallyCnt) : (s.countTally f).cls = s.cls := rfl
@[simp] theorem countTally_recorder (s : State) (f : TallyCnt → TallyCnt) : (s.countTally f).recorder = s.recorder := rfl
@[simp] theorem countTally_ann (s : State) (f : TallyCnt → TallyCnt) : (s.countTally f).ann = s.ann := rfl
@[simp] theorem countTally_tally (s : State) (f : TallyCnt → TallyCnt) : (s.countTally f).tally = s.tally := rfl
@[simp] theorem countTally_shift (s : State) (f : TallyCnt → TallyCnt) : (s.countTally f).shift = s.shift := rfl
@[simp] theorem countTally_lines (s : State) (f : TallyCnt → TallyCnt) : (s.countTally f).lines = s.lines := rfl
@[simp] theorem countTally_store (s : State) (f : TallyCnt → TallyCnt) : (s.countTally f).store = s.store := rfl
@[simp] theorem countTally_supply (s : State) (f : TallyCnt → TallyCnt) : (s.countTally f).supply = s.supply := rfl
@[simp] theorem countTally_resp (s : State) (f : TallyCnt → TallyCnt) : (s.countTally f).resp = s.resp := rfl
@[simp] theorem countTally_cfg (s : State) (f : TallyCnt → TallyCnt) : (s.countTally f).cfg = s.cfg := rfl
@[simp] theorem countTally_cnt (s : State) (f : TallyCnt → TallyCnt) : (s.countTally f).cnt = { s.cnt with tally := f s.cnt.tally } := rfl
@[simp] theorem countTally_choices (s : State) (f : TallyCnt → TallyCnt) : (s.countTally f).choices = s.choices := rfl
@[simp] theorem countTally_pending (s : State) (f : TallyCnt → TallyCnt) : (s.countTally f).pending = s.pending := rfl

@[simp] theorem countShift_clock (s : State) (f : ShiftCnt → ShiftCnt) : (s.countShift f).clock = s.clock := rfl
@[simp] theorem countShift_cal (s : State) (f : ShiftCnt → ShiftCnt) : (s.countShift f).cal = s.cal := rfl
@[simp] theorem countShift_portU (s : State) (f : ShiftCnt → ShiftCnt) : (s.countShift f).portU = s.portU := rfl
@[simp] theorem countShift_portS (s : State) (f : ShiftCnt → ShiftCnt) : (s.countShift f).portS = s.portS := rfl
@[simp] theorem countShift_cls (s : State) (f : ShiftCnt → ShiftCnt) : (s.countShift f).cls = s.cls := rfl
@[simp] theorem countShift_recorder (s : State) (f : ShiftCnt → ShiftCnt) : (s.countShift f).recorder = s.recorder := rfl
@[simp] theorem countShift_ann (s : State) (f : ShiftCnt → ShiftCnt) : (s.countShift f).ann = s.ann := rfl
@[simp] theorem countShift_tally (s : State) (f : ShiftCnt → ShiftCnt) : (s.countShift f).tally = s.tally := rfl
@[simp] theorem countShift_shift (s : State) (f : ShiftCnt → ShiftCnt) : (s.countShift f).shift = s.shift := rfl
@[simp] theorem countShift_lines (s : State) (f : ShiftCnt → ShiftCnt) : (s.countShift f).lines = s.lines := rfl
@[simp] theorem countShift_store (s : State) (f : ShiftCnt → ShiftCnt) : (s.countShift f).store = s.store := rfl
@[simp] theorem countShift_supply (s : State) (f : ShiftCnt → ShiftCnt) : (s.countShift f).supply = s.supply := rfl
@[simp] theorem countShift_resp (s : State) (f : ShiftCnt → ShiftCnt) : (s.countShift f).resp = s.resp := rfl
@[simp] theorem countShift_cfg (s : State) (f : ShiftCnt → ShiftCnt) : (s.countShift f).cfg = s.cfg := rfl
@[simp] theorem countShift_cnt (s : State) (f : ShiftCnt → ShiftCnt) : (s.countShift f).cnt = { s.cnt with shift := f s.cnt.shift } := rfl
@[simp] theorem countShift_choices (s : State) (f : ShiftCnt → ShiftCnt) : (s.countShift f).choices = s.choices := rfl
@[simp] theorem countShift_pending (s : State) (f : ShiftCnt → ShiftCnt) : (s.countShift f).pending = s.pending := rfl

@[simp] theorem countLines_clock (s : State) (f : LineCnt → LineCnt) : (s.countLines f).clock = s.clock := rfl
@[simp] theorem countLines_cal (s : State) (f : LineCnt → LineCnt) : (s.countLines f).cal = s.cal := rfl
@[simp] theorem countLines_portU (s : State) (f : LineCnt → LineCnt) : (s.countLines f).portU = s.portU := rfl
@[simp] theorem countLines_portS (s : State) (f : LineCnt → LineCnt) : (s.countLines f).portS = s.portS := rfl
@[simp] theorem countLines_cls (s : State) (f : LineCnt → LineCnt) : (s.countLines f).cls = s.cls := rfl
@[simp] theorem countLines_recorder (s : State) (f : LineCnt → LineCnt) : (s.countLines f).recorder = s.recorder := rfl
@[simp] theorem countLines_ann (s : State) (f : LineCnt → LineCnt) : (s.countLines f).ann = s.ann := rfl
@[simp] theorem countLines_tally (s : State) (f : LineCnt → LineCnt) : (s.countLines f).tally = s.tally := rfl
@[simp] theorem countLines_shift (s : State) (f : LineCnt → LineCnt) : (s.countLines f).shift = s.shift := rfl
@[simp] theorem countLines_lines (s : State) (f : LineCnt → LineCnt) : (s.countLines f).lines = s.lines := rfl
@[simp] theorem countLines_store (s : State) (f : LineCnt → LineCnt) : (s.countLines f).store = s.store := rfl
@[simp] theorem countLines_supply (s : State) (f : LineCnt → LineCnt) : (s.countLines f).supply = s.supply := rfl
@[simp] theorem countLines_resp (s : State) (f : LineCnt → LineCnt) : (s.countLines f).resp = s.resp := rfl
@[simp] theorem countLines_cfg (s : State) (f : LineCnt → LineCnt) : (s.countLines f).cfg = s.cfg := rfl
@[simp] theorem countLines_cnt (s : State) (f : LineCnt → LineCnt) : (s.countLines f).cnt = { s.cnt with lines := f s.cnt.lines } := rfl
@[simp] theorem countLines_choices (s : State) (f : LineCnt → LineCnt) : (s.countLines f).choices = s.choices := rfl
@[simp] theorem countLines_pending (s : State) (f : LineCnt → LineCnt) : (s.countLines f).pending = s.pending := rfl

@[simp] theorem countStore_clock (s : State) (f : StoreCnt → StoreCnt) : (s.countStore f).clock = s.clock := rfl
@[simp] theorem countStore_cal (s : State) (f : StoreCnt → StoreCnt) : (s.countStore f).cal = s.cal := rfl
@[simp] theorem countStore_portU (s : State) (f : StoreCnt → StoreCnt) : (s.countStore f).portU = s.portU := rfl
@[simp] theorem countStore_portS (s : State) (f : StoreCnt → StoreCnt) : (s.countStore f).portS = s.portS := rfl
@[simp] theorem countStore_cls (s : State) (f : StoreCnt → StoreCnt) : (s.countStore f).cls = s.cls := rfl
@[simp] theorem countStore_recorder (s : State) (f : StoreCnt → StoreCnt) : (s.countStore f).recorder = s.recorder := rfl
@[simp] theorem countStore_ann (s : State) (f : StoreCnt → StoreCnt) : (s.countStore f).ann = s.ann := rfl
@[simp] theorem countStore_tally (s : State) (f : StoreCnt → StoreCnt) : (s.countStore f).tally = s.tally := rfl
@[simp] theorem countStore_shift (s : State) (f : StoreCnt → StoreCnt) : (s.countStore f).shift = s.shift := rfl
@[simp] theorem countStore_lines (s : State) (f : StoreCnt → StoreCnt) : (s.countStore f).lines = s.lines := rfl
@[simp] theorem countStore_store (s : State) (f : StoreCnt → StoreCnt) : (s.countStore f).store = s.store := rfl
@[simp] theorem countStore_supply (s : State) (f : StoreCnt → StoreCnt) : (s.countStore f).supply = s.supply := rfl
@[simp] theorem countStore_resp (s : State) (f : StoreCnt → StoreCnt) : (s.countStore f).resp = s.resp := rfl
@[simp] theorem countStore_cfg (s : State) (f : StoreCnt → StoreCnt) : (s.countStore f).cfg = s.cfg := rfl
@[simp] theorem countStore_cnt (s : State) (f : StoreCnt → StoreCnt) : (s.countStore f).cnt = { s.cnt with store := f s.cnt.store } := rfl
@[simp] theorem countStore_choices (s : State) (f : StoreCnt → StoreCnt) : (s.countStore f).choices = s.choices := rfl
@[simp] theorem countStore_pending (s : State) (f : StoreCnt → StoreCnt) : (s.countStore f).pending = s.pending := rfl

@[simp] theorem countResp_clock (s : State) (f : RespCnt → RespCnt) : (s.countResp f).clock = s.clock := rfl
@[simp] theorem countResp_cal (s : State) (f : RespCnt → RespCnt) : (s.countResp f).cal = s.cal := rfl
@[simp] theorem countResp_portU (s : State) (f : RespCnt → RespCnt) : (s.countResp f).portU = s.portU := rfl
@[simp] theorem countResp_portS (s : State) (f : RespCnt → RespCnt) : (s.countResp f).portS = s.portS := rfl
@[simp] theorem countResp_cls (s : State) (f : RespCnt → RespCnt) : (s.countResp f).cls = s.cls := rfl
@[simp] theorem countResp_recorder (s : State) (f : RespCnt → RespCnt) : (s.countResp f).recorder = s.recorder := rfl
@[simp] theorem countResp_ann (s : State) (f : RespCnt → RespCnt) : (s.countResp f).ann = s.ann := rfl
@[simp] theorem countResp_tally (s : State) (f : RespCnt → RespCnt) : (s.countResp f).tally = s.tally := rfl
@[simp] theorem countResp_shift (s : State) (f : RespCnt → RespCnt) : (s.countResp f).shift = s.shift := rfl
@[simp] theorem countResp_lines (s : State) (f : RespCnt → RespCnt) : (s.countResp f).lines = s.lines := rfl
@[simp] theorem countResp_store (s : State) (f : RespCnt → RespCnt) : (s.countResp f).store = s.store := rfl
@[simp] theorem countResp_supply (s : State) (f : RespCnt → RespCnt) : (s.countResp f).supply = s.supply := rfl
@[simp] theorem countResp_resp (s : State) (f : RespCnt → RespCnt) : (s.countResp f).resp = s.resp := rfl
@[simp] theorem countResp_cfg (s : State) (f : RespCnt → RespCnt) : (s.countResp f).cfg = s.cfg := rfl
@[simp] theorem countResp_cnt (s : State) (f : RespCnt → RespCnt) : (s.countResp f).cnt = { s.cnt with resp := f s.cnt.resp } := rfl
@[simp] theorem countResp_choices (s : State) (f : RespCnt → RespCnt) : (s.countResp f).choices = s.choices := rfl
@[simp] theorem countResp_pending (s : State) (f : RespCnt → RespCnt) : (s.countResp f).pending = s.pending := rfl

@[simp] theorem countPort_clock (s : State) (p : Port) (f : PortCnt → PortCnt) : (s.countPort p f).clock = s.clock := by cases p <;> rfl
@[simp] theorem countPort_cal (s : State) (p : Port) (f : PortCnt → PortCnt) : (s.countPort p f).cal = s.cal := by cases p <;> rfl
@[simp] theorem countPort_portU (s : State) (p : Port) (f : PortCnt → PortCnt) : (s.countPort p f).portU = s.portU := by cases p <;> rfl
@[simp] theorem countPort_portS (s : State) (p : Port) (f : PortCnt → PortCnt) : (s.countPort p f).portS = s.portS := by cases p <;> rfl
@[simp] theorem countPort_cls (s : State) (p : Port) (f : PortCnt → PortCnt) : (s.countPort p f).cls = s.cls := by cases p <;> rfl
@[simp] theorem countPort_recorder (s : State) (p : Port) (f : PortCnt → PortCnt) : (s.countPort p f).recorder = s.recorder := by cases p <;> rfl
@[simp] theorem countPort_ann (s : State) (p : Port) (f : PortCnt → PortCnt) : (s.countPort p f).ann = s.ann := by cases p <;> rfl
@[simp] theorem countPort_tally (s : State) (p : Port) (f : PortCnt → PortCnt) : (s.countPort p f).tally = s.tally := by cases p <;> rfl
@[simp] theorem countPort_shift (s : State) (p : Port) (f : PortCnt → PortCnt) : (s.countPort p f).shift = s.shift := by cases p <;> rfl
@[simp] theorem countPort_lines (s : State) (p : Port) (f : PortCnt → PortCnt) : (s.countPort p f).lines = s.lines := by cases p <;> rfl
@[simp] theorem countPort_store (s : State) (p : Port) (f : PortCnt → PortCnt) : (s.countPort p f).store = s.store := by cases p <;> rfl
@[simp] theorem countPort_supply (s : State) (p : Port) (f : PortCnt → PortCnt) : (s.countPort p f).supply = s.supply := by cases p <;> rfl
@[simp] theorem countPort_resp (s : State) (p : Port) (f : PortCnt → PortCnt) : (s.countPort p f).resp = s.resp := by cases p <;> rfl
@[simp] theorem countPort_cfg (s : State) (p : Port) (f : PortCnt → PortCnt) : (s.countPort p f).cfg = s.cfg := by cases p <;> rfl
@[simp] theorem countPort_choices (s : State) (p : Port) (f : PortCnt → PortCnt) : (s.countPort p f).choices = s.choices := by cases p <;> rfl
@[simp] theorem countPort_pending (s : State) (p : Port) (f : PortCnt → PortCnt) : (s.countPort p f).pending = s.pending := by cases p <;> rfl

@[simp] theorem withPort_clock (s : State) (p : Port) (x : PortPath) : (s.withPort p x).clock = s.clock := by cases p <;> rfl
@[simp] theorem withPort_cal (s : State) (p : Port) (x : PortPath) : (s.withPort p x).cal = s.cal := by cases p <;> rfl
@[simp] theorem withPort_cls (s : State) (p : Port) (x : PortPath) : (s.withPort p x).cls = s.cls := by cases p <;> rfl
@[simp] theorem withPort_recorder (s : State) (p : Port) (x : PortPath) : (s.withPort p x).recorder = s.recorder := by cases p <;> rfl
@[simp] theorem withPort_ann (s : State) (p : Port) (x : PortPath) : (s.withPort p x).ann = s.ann := by cases p <;> rfl
@[simp] theorem withPort_tally (s : State) (p : Port) (x : PortPath) : (s.withPort p x).tally = s.tally := by cases p <;> rfl
@[simp] theorem withPort_shift (s : State) (p : Port) (x : PortPath) : (s.withPort p x).shift = s.shift := by cases p <;> rfl
@[simp] theorem withPort_lines (s : State) (p : Port) (x : PortPath) : (s.withPort p x).lines = s.lines := by cases p <;> rfl
@[simp] theorem withPort_store (s : State) (p : Port) (x : PortPath) : (s.withPort p x).store = s.store := by cases p <;> rfl
@[simp] theorem withPort_supply (s : State) (p : Port) (x : PortPath) : (s.withPort p x).supply = s.supply := by cases p <;> rfl
@[simp] theorem withPort_resp (s : State) (p : Port) (x : PortPath) : (s.withPort p x).resp = s.resp := by cases p <;> rfl
@[simp] theorem withPort_cfg (s : State) (p : Port) (x : PortPath) : (s.withPort p x).cfg = s.cfg := by cases p <;> rfl
@[simp] theorem withPort_cnt (s : State) (p : Port) (x : PortPath) : (s.withPort p x).cnt = s.cnt := by cases p <;> rfl
@[simp] theorem withPort_choices (s : State) (p : Port) (x : PortPath) : (s.withPort p x).choices = s.choices := by cases p <;> rfl
@[simp] theorem withPort_pending (s : State) (p : Port) (x : PortPath) : (s.withPort p x).pending = s.pending := by cases p <;> rfl

@[simp] theorem withPort_port (s : State) (p : Port) (x : PortPath) : (s.withPort p x).port p = x := by cases p <;> rfl
@[simp] theorem withPort_port_other (s : State) (p : Port) (x : PortPath) :
    (s.withPort p x).port p.other = s.port p.other := by cases p <;> rfl
@[simp] theorem countPort_port (s : State) (p q : Port) (f : PortCnt → PortCnt) :
    (s.countPort p f).port q = s.port q := by cases p <;> cases q <;> rfl
@[simp] theorem countPort_portCnt (s : State) (p : Port) (f : PortCnt → PortCnt) :
    (s.countPort p f).portCnt p = f (s.portCnt p) := by cases p <;> rfl

@[simp] theorem withUnit_clock (s : State) (i : Fin 6) (u : UnitRec) : (s.withUnit i u).clock = s.clock := rfl
@[simp] theorem withUnit_cal (s : State) (i : Fin 6) (u : UnitRec) : (s.withUnit i u).cal = s.cal := rfl
@[simp] theorem withUnit_portU (s : State) (i : Fin 6) (u : UnitRec) : (s.withUnit i u).portU = s.portU := rfl
@[simp] theorem withUnit_portS (s : State) (i : Fin 6) (u : UnitRec) : (s.withUnit i u).portS = s.portS := rfl
@[simp] theorem withUnit_cls (s : State) (i : Fin 6) (u : UnitRec) : (s.withUnit i u).cls = s.cls := rfl
@[simp] theorem withUnit_recorder (s : State) (i : Fin 6) (u : UnitRec) : (s.withUnit i u).recorder = s.recorder := rfl
@[simp] theorem withUnit_ann (s : State) (i : Fin 6) (u : UnitRec) : (s.withUnit i u).ann = s.ann := rfl
@[simp] theorem withUnit_tally (s : State) (i : Fin 6) (u : UnitRec) : (s.withUnit i u).tally = s.tally.set i u := rfl
@[simp] theorem withUnit_shift (s : State) (i : Fin 6) (u : UnitRec) : (s.withUnit i u).shift = s.shift := rfl
@[simp] theorem withUnit_lines (s : State) (i : Fin 6) (u : UnitRec) : (s.withUnit i u).lines = s.lines := rfl
@[simp] theorem withUnit_store (s : State) (i : Fin 6) (u : UnitRec) : (s.withUnit i u).store = s.store := rfl
@[simp] theorem withUnit_supply (s : State) (i : Fin 6) (u : UnitRec) : (s.withUnit i u).supply = s.supply := rfl
@[simp] theorem withUnit_resp (s : State) (i : Fin 6) (u : UnitRec) : (s.withUnit i u).resp = s.resp := rfl
@[simp] theorem withUnit_cfg (s : State) (i : Fin 6) (u : UnitRec) : (s.withUnit i u).cfg = s.cfg := rfl
@[simp] theorem withUnit_cnt (s : State) (i : Fin 6) (u : UnitRec) : (s.withUnit i u).cnt = s.cnt := rfl
@[simp] theorem withUnit_choices (s : State) (i : Fin 6) (u : UnitRec) : (s.withUnit i u).choices = s.choices := rfl
@[simp] theorem withUnit_pending (s : State) (i : Fin 6) (u : UnitRec) : (s.withUnit i u).pending = s.pending := rfl

@[simp] theorem withLine_clock (s : State) (i : Fin 8) (l : Line) : (s.withLine i l).clock = s.clock := rfl
@[simp] theorem withLine_cal (s : State) (i : Fin 8) (l : Line) : (s.withLine i l).cal = s.cal := rfl
@[simp] theorem withLine_portU (s : State) (i : Fin 8) (l : Line) : (s.withLine i l).portU = s.portU := rfl
@[simp] theorem withLine_portS (s : State) (i : Fin 8) (l : Line) : (s.withLine i l).portS = s.portS := rfl
@[simp] theorem withLine_cls (s : State) (i : Fin 8) (l : Line) : (s.withLine i l).cls = s.cls := rfl
@[simp] theorem withLine_recorder (s : State) (i : Fin 8) (l : Line) : (s.withLine i l).recorder = s.recorder := rfl
@[simp] theorem withLine_ann (s : State) (i : Fin 8) (l : Line) : (s.withLine i l).ann = s.ann := rfl
@[simp] theorem withLine_tally (s : State) (i : Fin 8) (l : Line) : (s.withLine i l).tally = s.tally := rfl
@[simp] theorem withLine_shift (s : State) (i : Fin 8) (l : Line) : (s.withLine i l).shift = s.shift := rfl
@[simp] theorem withLine_lines (s : State) (i : Fin 8) (l : Line) : (s.withLine i l).lines = s.lines.set i l := rfl
@[simp] theorem withLine_store (s : State) (i : Fin 8) (l : Line) : (s.withLine i l).store = s.store := rfl
@[simp] theorem withLine_supply (s : State) (i : Fin 8) (l : Line) : (s.withLine i l).supply = s.supply := rfl
@[simp] theorem withLine_resp (s : State) (i : Fin 8) (l : Line) : (s.withLine i l).resp = s.resp := rfl
@[simp] theorem withLine_cfg (s : State) (i : Fin 8) (l : Line) : (s.withLine i l).cfg = s.cfg := rfl
@[simp] theorem withLine_cnt (s : State) (i : Fin 8) (l : Line) : (s.withLine i l).cnt = s.cnt := rfl
@[simp] theorem withLine_choices (s : State) (i : Fin 8) (l : Line) : (s.withLine i l).choices = s.choices := rfl
@[simp] theorem withLine_pending (s : State) (i : Fin 8) (l : Line) : (s.withLine i l).pending = s.pending := rfl

@[simp] theorem withLineCfg_clock (s : State) (i : Fin 8) (c : LineCfg) : (s.withLineCfg i c).clock = s.clock := rfl
@[simp] theorem withLineCfg_cal (s : State) (i : Fin 8) (c : LineCfg) : (s.withLineCfg i c).cal = s.cal := rfl
@[simp] theorem withLineCfg_portU (s : State) (i : Fin 8) (c : LineCfg) : (s.withLineCfg i c).portU = s.portU := rfl
@[simp] theorem withLineCfg_portS (s : State) (i : Fin 8) (c : LineCfg) : (s.withLineCfg i c).portS = s.portS := rfl
@[simp] theorem withLineCfg_cls (s : State) (i : Fin 8) (c : LineCfg) : (s.withLineCfg i c).cls = s.cls := rfl
@[simp] theorem withLineCfg_recorder (s : State) (i : Fin 8) (c : LineCfg) : (s.withLineCfg i c).recorder = s.recorder := rfl
@[simp] theorem withLineCfg_ann (s : State) (i : Fin 8) (c : LineCfg) : (s.withLineCfg i c).ann = s.ann := rfl
@[simp] theorem withLineCfg_tally (s : State) (i : Fin 8) (c : LineCfg) : (s.withLineCfg i c).tally = s.tally := rfl
@[simp] theorem withLineCfg_shift (s : State) (i : Fin 8) (c : LineCfg) : (s.withLineCfg i c).shift = s.shift := rfl
@[simp] theorem withLineCfg_lines (s : State) (i : Fin 8) (c : LineCfg) : (s.withLineCfg i c).lines = s.lines := rfl
@[simp] theorem withLineCfg_store (s : State) (i : Fin 8) (c : LineCfg) : (s.withLineCfg i c).store = s.store := rfl
@[simp] theorem withLineCfg_supply (s : State) (i : Fin 8) (c : LineCfg) : (s.withLineCfg i c).supply = s.supply := rfl
@[simp] theorem withLineCfg_resp (s : State) (i : Fin 8) (c : LineCfg) : (s.withLineCfg i c).resp = s.resp := rfl
@[simp] theorem withLineCfg_cfg (s : State) (i : Fin 8) (c : LineCfg) : (s.withLineCfg i c).cfg = { s.cfg with lines := s.cfg.lines.set i c } := rfl
@[simp] theorem withLineCfg_cnt (s : State) (i : Fin 8) (c : LineCfg) : (s.withLineCfg i c).cnt = s.cnt := rfl
@[simp] theorem withLineCfg_choices (s : State) (i : Fin 8) (c : LineCfg) : (s.withLineCfg i c).choices = s.choices := rfl
@[simp] theorem withLineCfg_pending (s : State) (i : Fin 8) (c : LineCfg) : (s.withLineCfg i c).pending = s.pending := rfl

@[simp] theorem withGroup_clock (s : State) (g : Fin 16) (x : Group) : (s.withGroup g x).clock = s.clock := rfl
@[simp] theorem withGroup_cal (s : State) (g : Fin 16) (x : Group) : (s.withGroup g x).cal = s.cal := rfl
@[simp] theorem withGroup_portU (s : State) (g : Fin 16) (x : Group) : (s.withGroup g x).portU = s.portU := rfl
@[simp] theorem withGroup_portS (s : State) (g : Fin 16) (x : Group) : (s.withGroup g x).portS = s.portS := rfl
@[simp] theorem withGroup_cls (s : State) (g : Fin 16) (x : Group) : (s.withGroup g x).cls = s.cls := rfl
@[simp] theorem withGroup_recorder (s : State) (g : Fin 16) (x : Group) : (s.withGroup g x).recorder = s.recorder := rfl
@[simp] theorem withGroup_ann (s : State) (g : Fin 16) (x : Group) : (s.withGroup g x).ann = s.ann.set g x := rfl
@[simp] theorem withGroup_tally (s : State) (g : Fin 16) (x : Group) : (s.withGroup g x).tally = s.tally := rfl
@[simp] theorem withGroup_shift (s : State) (g : Fin 16) (x : Group) : (s.withGroup g x).shift = s.shift := rfl
@[simp] theorem withGroup_lines (s : State) (g : Fin 16) (x : Group) : (s.withGroup g x).lines = s.lines := rfl
@[simp] theorem withGroup_store (s : State) (g : Fin 16) (x : Group) : (s.withGroup g x).store = s.store := rfl
@[simp] theorem withGroup_supply (s : State) (g : Fin 16) (x : Group) : (s.withGroup g x).supply = s.supply := rfl
@[simp] theorem withGroup_resp (s : State) (g : Fin 16) (x : Group) : (s.withGroup g x).resp = s.resp := rfl
@[simp] theorem withGroup_cfg (s : State) (g : Fin 16) (x : Group) : (s.withGroup g x).cfg = s.cfg := rfl
@[simp] theorem withGroup_cnt (s : State) (g : Fin 16) (x : Group) : (s.withGroup g x).cnt = s.cnt := rfl
@[simp] theorem withGroup_choices (s : State) (g : Fin 16) (x : Group) : (s.withGroup g x).choices = s.choices := rfl
@[simp] theorem withGroup_pending (s : State) (g : Fin 16) (x : Group) : (s.withGroup g x).pending = s.pending := rfl

@[simp] theorem withSlot_clock (s : State) (i : Fin 64) (x : SourceSlot) : (s.withSlot i x).clock = s.clock := rfl
@[simp] theorem withSlot_cal (s : State) (i : Fin 64) (x : SourceSlot) : (s.withSlot i x).cal = s.cal := rfl
@[simp] theorem withSlot_portU (s : State) (i : Fin 64) (x : SourceSlot) : (s.withSlot i x).portU = s.portU := rfl
@[simp] theorem withSlot_portS (s : State) (i : Fin 64) (x : SourceSlot) : (s.withSlot i x).portS = s.portS := rfl
@[simp] theorem withSlot_cls (s : State) (i : Fin 64) (x : SourceSlot) : (s.withSlot i x).cls = s.cls := rfl
@[simp] theorem withSlot_recorder (s : State) (i : Fin 64) (x : SourceSlot) : (s.withSlot i x).recorder = { s.recorder with slots := s.recorder.slots.set i x } := rfl
@[simp] theorem withSlot_ann (s : State) (i : Fin 64) (x : SourceSlot) : (s.withSlot i x).ann = s.ann := rfl
@[simp] theorem withSlot_tally (s : State) (i : Fin 64) (x : SourceSlot) : (s.withSlot i x).tally = s.tally := rfl
@[simp] theorem withSlot_shift (s : State) (i : Fin 64) (x : SourceSlot) : (s.withSlot i x).shift = s.shift := rfl
@[simp] theorem withSlot_lines (s : State) (i : Fin 64) (x : SourceSlot) : (s.withSlot i x).lines = s.lines := rfl
@[simp] theorem withSlot_store (s : State) (i : Fin 64) (x : SourceSlot) : (s.withSlot i x).store = s.store := rfl
@[simp] theorem withSlot_supply (s : State) (i : Fin 64) (x : SourceSlot) : (s.withSlot i x).supply = s.supply := rfl
@[simp] theorem withSlot_resp (s : State) (i : Fin 64) (x : SourceSlot) : (s.withSlot i x).resp = s.resp := rfl
@[simp] theorem withSlot_cfg (s : State) (i : Fin 64) (x : SourceSlot) : (s.withSlot i x).cfg = s.cfg := rfl
@[simp] theorem withSlot_cnt (s : State) (i : Fin 64) (x : SourceSlot) : (s.withSlot i x).cnt = s.cnt := rfl
@[simp] theorem withSlot_choices (s : State) (i : Fin 64) (x : SourceSlot) : (s.withSlot i x).choices = s.choices := rfl
@[simp] theorem withSlot_pending (s : State) (i : Fin 64) (x : SourceSlot) : (s.withSlot i x).pending = s.pending := rfl

end Sys2Proof.Machine
end

