-- ==== Sys2Proof/Laws/Clock.lean ====
section
/-! SUPPORT. Laws/Clock.lean: what a notice, a clock change and the end of a clock event leave as it was. -/

namespace Sys2Proof.Safety

open Sys2Proof.Machine

theorem only_deliverChange (s : State) : Only (calParts ++ lineParts) s (deliverChange s) := by
  unfold deliverChange
  refine Only.ite _ ?_ (Only.refl _ s)
  have h1 : Only (calParts ++ lineParts) s (calendarClockChange s) := by
    unfold calendarClockChange
    extract_lets c s1
    have h2 : Only (calParts ++ lineParts) s s1 := Only.ite _ ((only_set_cal s _).mono (by decide)) (Only.refl _ s)
    exact h2.trans ((only_calendarEvent true s1).mono (by decide))
  exact h1.trans ((only_linesClockChange _).mono (by decide))

/-- The end of a clock event changes no item of the clock. -/
theorem only_finishClock (before : State) (k : Kinds) (s : State) :
    Only (calParts ++ lineParts) s (finishClock before k s) := by
  unfold finishClock
  extract_lets c s1
  have h1 : Only (calParts ++ lineParts) s s1 := Only.ite _ (Only.refl _ s) (only_deliverChange s)
  exact h1.trans (Only.ite _ ((only_notice _ _ s1).mono (by decide)) (Only.refl _ s1))

/-- Without a clock change it changes nothing but what a notice changes. -/
theorem only_finishClock_zero (before s : State) : Only noticeParts s (finishClock before 0 s) :=
  Only.ite _ (only_notice _ _ s) (Only.refl _ s)

/-- A new holdover limit changes no item of the clock but `limitTaken`, and nothing outside the clock and a notice. -/
theorem only_limitChanged (before : State) (c : Settings) :
    Only (.cfg :: .clock :: .nClock :: noticeParts) before (limitChanged before { before with cfg := c }) := by
  have hc : ∀ x : State, Only (.cfg :: .clock :: .nClock :: noticeParts) x { x with cfg := c } :=
    fun x => (only_set_cfg x c).mono (by decide)
  have hl : ∀ (x : State) (b : Bool), Only (.cfg :: .clock :: .nClock :: noticeParts) x { x with clock.limitTaken := b } :=
    fun x b => (only_set_clock x _).mono (by decide)
  have hr : Only (.cfg :: .clock :: .nClock :: noticeParts) before (holdoverLimitReached before) :=
    ((hl before true).trans ((only_countClock { before with clock.limitTaken := true } _).mono (by decide))).trans
      ((only_notice _ _ _).mono (by decide))
  let s1 : State :=
    if holdoverLimitDue before then { holdoverLimitReached before with cfg := c } else { before with cfg := c }
  have h1 : Only (.cfg :: .clock :: .nClock :: noticeParts) before s1 :=
    Only.ite _ (hr.trans (hc (holdoverLimitReached before))) (hc before)
  exact (h1.trans (hl s1 _)).trans ((only_finishClock_zero _ _).mono (by decide))

/-- The examiners leave the seasonal flag and the local time fields. -/
theorem runExaminers_fields (s : State) :
    (runExaminers s).cal.fields = s.cal.fields ∧ (runExaminers s).cal.flag = s.cal.flag := by
  unfold runExaminers
  split
  · exact ⟨rfl, rfl⟩
  · have hd : ∀ e c (t : State), (shiftDue e c t).cal = t.cal := fun e c t => (only_shiftDue e c t).cal (by decide)
    have hw : ∀ e c (t : State), (shiftWarning e c t).cal = t.cal :=
      fun e c t => (only_shiftWarning e c t).cal (by decide)
    unfold runWarning runDue
    simp only
    repeat' split
    all_goals simp [hd, hw]

/-- A calendar event leaves the fields and the flag of the present second. -/
theorem calendarEvent_fields (b : Bool) (s : State) :
    (calendarEvent b s).cal.fields = localTime s.cfg.cal s.clock.sec
      ∧ (calendarEvent b s).cal.flag = inForce s.cfg.cal s.clock.sec := by
  unfold calendarEvent
  simp only
  split
  · rw [(runExaminers_fields _).1, (runExaminers_fields _).2]
    split <;> simp
  · split <;> simp

end Sys2Proof.Safety
end

