-- ==== Sys2Proof/Laws/Idle.lean ====
section
/-! SUPPORT. Laws/Idle.lean: all that a step can do on an empty queue, and what a property needs to be kept by it. -/

namespace Sys2Proof.Machine

/-- One of several events is run, after one free choice. -/
theorem runChosen_cases (l : List Instr) (s : State) (hl : l ≠ []) :
    ∃ i ∈ l, runChosen l s = exec i { s with choices := s.choices + 1 } := by
  have hn : Config.choice s.choices % l.length < l.length := Nat.mod_lt _ (List.length_pos_iff.mpr hl)
  refine ⟨l[Config.choice s.choices % l.length], List.getElem_mem hn, ?_⟩
  rw [runChosen, List.getElem?_eq_getElem hn]

/-- What stands due is taken as it stands, or, where several are due, with one free choice made; else nothing happens. -/
theorem takeEvent_cases (s : State) :
    dueEvents s = [] ∧ takeEvent s = .next s
    ∨ ∃ i ∈ dueEvents s, takeEvent s = exec i s ∨ takeEvent s = exec i { s with choices := s.choices + 1 } := by
  rw [takeEvent]
  generalize dueEvents s = l
  match l with
  | [] => exact .inl ⟨rfl, rfl⟩
  | [i] => exact .inr ⟨i, List.mem_singleton_self i, .inl rfl⟩
  | i :: j :: l =>
    obtain ⟨k, hk, h⟩ := runChosen_cases (i :: j :: l) s (List.cons_ne_nil _ _)
    exact .inr ⟨k, hk, .inr h⟩

/-- A property that every command and every free choice keep is kept by an event taken. -/
theorem takeEvent_keeps {P : State → Prop} (hx : ∀ i s t, P s → exec i s = .next t → P t)
    (hc : ∀ s n, P s → P { s with choices := n }) (s t : State) (h : P s) (e : takeEvent s = .next t) : P t := by
  obtain ⟨-, h1⟩ | ⟨i, -, h1 | h1⟩ := takeEvent_cases s
  · obtain rfl : s = t := Host.Outcome.next.inj (h1.symm.trans e)
    exact h
  · exact hx i s t h (h1.symm.trans e)
  · exact hx i _ t (hc s _ h) (h1.symm.trans e)

/-- A property that every command and every free choice keep is kept by the events taken before a rollover. -/
theorem takeEvents_keeps {P : State → Prop} (hx : ∀ i s t, P s → exec i s = .next t → P t)
    (hc : ∀ s n, P s → P { s with choices := n }) (n : Nat) (s t : State) (h : P s)
    (e : takeEvents n s = .next t) : P t := by
  induction n generalizing s with
  | zero => exact Host.Outcome.next.inj e ▸ h
  | succ n ih =>
    rw [takeEvents] at e
    split at e
    · next u hu => exact ih u (takeEvent_keeps hx hc s u h hu) e
    · cases e
    · cases e

/-- With nothing taken first, the tick is the command SECOND_ROLLOVER. -/
theorem takeReading_second (s : State) (h : rolloverDue s = true) :
    takeReading (tickIncrement s) (elapsedTick s) = secondRollover s := by
  simp only [rolloverDue, tickCarries, Bool.and_eq_true, bne_iff_ne] at h
  have hc : (elapsedTick s).clock.carries (tickIncrement s) = true := by
    rw [← h.1.2]; unfold elapsedTick Clock.tickElapsed Clock.carries; dsimp only; split <;> rfl
  have hs : (elapsedTick s).clock.sec = s.clock.sec := by
    unfold elapsedTick Clock.tickElapsed; dsimp only; split <;> rfl
  rw [takeReading, if_pos hc, hs, if_neg h.2, secondRollover]

/-- With nothing taken first, the tick is the command RANGE_WRAP. -/
theorem takeReading_wrap (s : State) (h : wrapDue s = true) :
    takeReading (tickIncrement s) (elapsedTick s) = rangeWrap s := by
  simp only [wrapDue, tickCarries, Bool.and_eq_true, beq_iff_eq] at h
  have hc : (elapsedTick s).clock.carries (tickIncrement s) = true := by
    rw [← h.1.2]; unfold elapsedTick Clock.tickElapsed Clock.carries; dsimp only; split <;> rfl
  have hs : (elapsedTick s).clock.sec = s.clock.sec := by
    unfold elapsedTick Clock.tickElapsed; dsimp only; split <;> rfl
  rw [takeReading, if_pos hc, if_pos (hs.trans h.2), rangeWrap]

/-- A property that every command, every free choice, the queue's rest and the two parts of a tick keep is kept by every
step. -/
theorem step_keeps {P : State → Prop} (hx : ∀ i s t, P s → exec i s = .next t → P t)
    (hc : ∀ s n, P s → P { s with choices := n }) (hq : ∀ s l, P s → P { s with pending := l })
    (he : ∀ s, P s → P (elapsedTick s)) (hr : ∀ n s, P s → P (takeReading n s)) (ht : ∀ s, P s → P (tickState s))
    (s t : State) (h : P s) (e : step s = .next t) : P t := by
  have hticks : ∀ s t, P s → tickStep s = .next t → P t := by
    intro s t h e
    unfold tickStep at e
    split at e
    · split at e
      · unfold carryStep at e
        split at e
        · next u hu =>
          cases e
          exact hr _ _ (takeEvents_keeps hx hc _ _ _ (hc _ _ (he s h)) hu)
        · cases e
        · cases e
      · cases e; exact ht s h
    · cases e; exact h
  unfold step at e
  split at e
  · exact hx _ _ _ (hq s _ h) e
  · unfold idleStep at e
    split at e
    · split at e
      · split at e
        · exact hx _ _ _ (hc s _ h) e
        · exact hticks _ _ (hc s _ h) e
      · exact hticks _ _ h e
    · exact takeEvent_keeps hx hc s t h e

end Sys2Proof.Machine
end

