-- ==== Sys2Proof/WellFormed.lean ====
section
/-! DEFINITION. WellFormed.lean: which commands the outside world can give. -/

namespace Sys2Proof

/-- A stamp's nanoseconds lie below one second (00, Time quantities). -/
def Stamp.wf (t : Stamp) : Bool := t.ns < 1000000000

/-- A request's arrival stamp is a stamp. -/
def ReqHead.wf (h : ReqHead) : Bool := h.stamp.wf

/-- A request's body fits the longest payload, 1,504 bytes (R44), after tag and code (R211). -/
def bodyWf (b : List Byte) : Bool := b.length ≤ 1501

/-- The level of VBACKUP in millivolts stays within its supply range (00, Signal summary). -/
def vbackupWf (mv : Nat) : Bool := mv ≤ 3600

/-- Well-formed commands. A received frame may have any length: R45 judges it. -/
def Instr.wf : Instr → Bool
  | .secondRollover => true
  | .rangeWrap => true
  | .markerEdge => true
  | .beaconStale => true
  | .silenceExpiry => true
  | .holdoverLimit => true
  | .frameStart _ => true
  | .frameReceived _ _ => true
  | .frameTake => true
  | .classificationDone => true
  | .transmissionStart _ => true
  | .transmissionComplete _ => true
  | .tripHoldExpiry _ => true
  | .hourlyRequest _ => true
  | .settleDeadline _ => true
  | .overdueExpiry => true
  | .offerLapse => true
  | .driveEnd _ => true
  | .gapEnd _ => true
  | .meterThreshold _ => true
  | .backupEntry mv => vbackupWf mv
  | .retentionValidCleared => true
  | .supplyOff => true
  | .coldStart => true
  | .warmStart => true
  | .resetAsserted => true
  | .resetReleased => true
  | .commissionChange _ => true
  | .checkpointProgramStart => true
  | .checkpointProgramComplete => true
  | .imageProgramStart => true
  | .imageProgramComplete => true
  | .commitBankActivated => true
  | .restartTakesEffect => true
  | .readClock h b => h.wf && bodyWf b
  | .readStatus h b => h.wf && bodyWf b
  | .readCounters h b => h.wf && bodyWf b
  | .readFault h b => h.wf && bodyWf b
  | .clearFault h b => h.wf && bodyWf b
  | .readTrips h b => h.wf && bodyWf b
  | .ackGroup h b => h.wf && bodyWf b
  | .ackNext h b => h.wf && bodyWf b
  | .resetGroup h b => h.wf && bodyWf b
  | .pollGroups h b => h.wf && bodyWf b
  | .readTally h b => h.wf && bodyWf b
  | .readShift h b => h.wf && bodyWf b
  | .readShifts h b => h.wf && bodyWf b
  | .readLines h b => h.wf && bodyWf b
  | .setDial h b => h.wf && bodyWf b
  | .loadEntry h b => h.wf && bodyWf b
  | .readEntry h b => h.wf && bodyWf b
  | .commitBank h b => h.wf && bodyWf b
  | .setParam h b => h.wf && bodyWf b
  | .setMask h b => h.wf && bodyWf b
  | .setTime h b => h.wf && bodyWf b
  | .presetTally h b => h.wf && bodyWf b
  | .forceHandover h b => h.wf && bodyWf b
  | .checkpointNow h b => h.wf && bodyWf b
  | .storeConfig h b => h.wf && bodyWf b
  | .restart h b => h.wf && bodyWf b

end Sys2Proof
end

