-- ==== Sys2Proof/Tests/Slice0.lean ====
section
/-! SUPPORT. Tests/Slice0.lean: checks of the model against values worked out from the manual, the smoke test of
WellFormed, and for every statement a witness (`test_hyp_<statement>`) that its hypotheses hold together, clause by
clause at boundary values. -/

-- One theorem after another: each `decide +kernel` waits for those before it, and each waiting thread takes memory.
set_option Elab.async false

namespace Sys2Proof.Tests

open Sys2Proof Sys2Proof.Machine Sys2Proof.Safety

/-! ### WellFormed refuses each ill-formed term -/

/-- A request head of port S with a stamp of `ns` nanoseconds. -/
def head (ns : Nat) : ReqHead := ⟨.s, 0x0200000000AA#48, ⟨0, ns, 3⟩, 1⟩
/-- The head the tests use. -/
def hd : ReqHead := head 5

theorem test_wf_stamp : (Instr.readClock (head 1000000000) []).wf = false
    ∧ (Instr.readClock (head 999999999) []).wf = true := by decide +kernel

theorem test_wf_body : (Instr.readClock hd (List.replicate 1502 0)).wf = false
    ∧ (Instr.readClock hd (List.replicate 1501 0)).wf = true := by decide +kernel

theorem test_wf_vbackup : (Instr.backupEntry 3601).wf = false ∧ (Instr.backupEntry 3600).wf = true := by decide +kernel

/-! ### Values from the manual and from published check values -/

/-- The bytes of "123456789". -/
def digits : List Byte := [0x31, 0x32, 0x33, 0x34, 0x35, 0x36, 0x37, 0x38, 0x39]

/-- The published check values of the two polynomials of R45 and R191 with their presets: CBF43926h, carried with its
first coefficient in the least significant bit, and 29B1h. -/
theorem test_checks : fcs digits = [0x26, 0x39, 0xF4, 0xCB] ∧ recordCheck digits = 0x29B1#16 := by decide +kernel

/-- The settings of the conversion example of chapter 02. -/
def calExample : CalCfg := { offset := 4, enabled := true }

/-- Station second 1,000,000,000 (02, worked example). -/
theorem test_local_time : localTime calExample 1000000000#32
      = { year := 2031, month := 9, day := 9, hour := 3, minute := 46, second := 40, weekday := 2 }
    ∧ startInstant calExample 2031 = 985914000 ∧ endInstant calExample 2031 = 1004058000
    ∧ minuteIndex calExample 1000000000#32 = 16666786 := by decide +kernel

/-- The trim of -6,450 ppb gives A = -1,108,102 (01, worked example of the servo). -/
theorem test_trim : trimIncrement (-6450) = -1108102 ∧ roundDiv 1547 2 = 774 ∧ roundDiv (-402) 16 = -25 := by
  decide +kernel

/-- The BCD stamp of 1,000,000,000 s 123,456,789 ns, class 0 (03, worked example). -/
theorem test_bcd : encBcd ⟨1000000000#32, 123456789, 0⟩ (localTime calExample 1000000000#32)
    = [0x20, 0x31, 0x09, 0x09, 0x03, 0x46, 0x40, 0x12, 0x34, 0x56, 0x00] := by decide +kernel

/-- The state a command leaves. -/
def run (c : Instr) (s : State) : State :=
  match exec c s with
  | .next t => t
  | .fault _ => s
  | .refused _ => s

/-- A running part under an asserted commission line, its responder READY: the witness most requests start from. -/
def s0 : State := { State.reset with supply.commission := true }

/-- A part whose clock reads so, in a state, in a tick of RUN. -/
def clk (st : ClockState) (sec : Second) (ns : Nat) : State :=
  { s0 with clock := { s0.clock with state := st, sec := sec, ns := ns } }

/-- Marker 1 of the servo example: e = 12,000 gives I = -450, T = -6,450 and the good count 0. -/
theorem test_servo :
    let s := clk .acquire 7 12000
    let t := run .markerEdge { s with clock := { s.clock with integral := 300, trim := 300, good := 2 } }
    t.clock.integral = -450 ∧ t.clock.trim = -6450 ∧ t.clock.good = 0 ∧ t.clock.state = .acquire := by decide +kernel

/-- A tick that brings N to 10^9 (R2). -/
theorem test_rollover : (run .secondRollover (clk .locked 8 999999960)).clock.sec = 9
    ∧ (run .secondRollover (clk .locked 8 999999960)).clock.ns = 0 := by decide +kernel

/-- Group 4's window clamped to 100 (11, worked example): status CLAMPED, 0504h and 100. -/
theorem test_set_param : (run (.setParam hd [0x05, 0x04, 150]) s0).cfg.windows[4] = 100
    ∧ ((run (.setParam hd [0x05, 0x04, 150]) s0).portS.notice.getLast?.map (fun f => (f.bytes.drop 14).take 7))
        = some [0, 1, 0x13, 0x01, 0x05, 0x04, 100] := by decide +kernel

/-- Hour 30 of schedule entry 2 is refused BAD_VALUE (11, worked example). -/
theorem test_set_hour : (run (.setParam hd [0x03, 0x12, 30]) s0).cnt.resp.refused = 1
    ∧ (run (.setParam hd [0x03, 0x12, 30]) s0).cfg = s0.cfg := by decide +kernel

/-- A part with unit 1 generating, its GEN run time and snapshot at 50,000,000 ms, M at 900,000 ms. -/
def gen1 : State :=
  { s0 with
    clock := { s0.clock with m := 900000 }
    tally := s0.tally.set 0 { s0.tally[0] with mode := .gen, run := #v[50000000, 0, 0, 0, 0, 0] }
    shift.openRec.snaps := s0.shift.openRec.snaps.set 0 #v[50000000, 0, 0, 0, 0, 0] }

/-- A preset of 72,000 s moves the snapshot to 71,100,000 ms (07, worked example). -/
theorem test_preset :
    let t := run (.presetTally hd [1, 1, 0, 0, 0, 1, 0x19, 0x40, 0, 0]) gen1
    t.tally[0].run[0] = 72000000 ∧ t.shift.openRec.snaps[0][0] = 71100000 := by decide +kernel

/-- A preset of 100 s moves the snapshot to -800,000 ms (07, worked example). -/
theorem test_preset_low :
    let t := run (.presetTally hd [1, 1, 0, 0, 0, 0, 0, 100, 0, 0]) gen1
    t.tally[0].run[0] = 100000 ∧ t.shift.openRec.snaps[0][0] = -800000 := by decide +kernel

/-! ### Witnesses: clock -/

theorem test_hyp_StepRunsFrontCommand :
    { s0 with pending := [.markerEdge, .frameTake] }.pending = Instr.markerEdge :: [.frameTake] := by decide +kernel

/-- The state of a tick that carries, live and held at the reset line; line 0 is a SECOND_MARK line at rest. -/
def marked : State :=
  let s := clk .locked 8 999999960;
  { s with cfg.lines := s.cfg.lines.set 0 { s.cfg.lines[0] with function := .secondMark } }
/-- The part with the reset line asserted. -/
def held (s : State) : State := { s with supply.resetLine := true }

theorem test_hyp_SecondRollover :
    (ticks marked = true ∧ tickCarries marked = true ∧ marked.clock.sec ≠ 0xFFFFFFFF#32 ∧ live marked = true
      ∧ marked.cfg.lines[0].function = .secondMark ∧ marked.clock.state ≠ .unset ∧ marked.lines[0].pulse = .rest)
    ∧ (ticks (held marked) = true ∧ tickCarries (held marked) = true ∧ live (held marked) = false)
    ∧ tickCarries (clk .locked 0xFFFFFFFE#32 999999959) = false := by decide +kernel

/-- The tick into minute 1, an entry for one minute of every hour, and the last minutes of both examiners. -/
def scheduled (minute : Nat) (due warn : Int) : State :=
  let s := clk .locked 59 999999960;
  { s with
    cfg.cal.entries := s.cfg.cal.entries.set 2 ⟨true, 0x7F, none, minute, 5⟩
    cfg.cal.lead := 30
    cal := { s.cal with lastDue := some due, lastWarn := some warn } }

/-- A due event at a span of 1 and of 1,440 minutes, none at 1,441 or where the last minute is ahead; a warning. -/
theorem test_hyp_SecondRollover_examiners :
    (∀ s ∈ [scheduled 1 0 30, scheduled 31 0 30],
      ticks s = true ∧ tickCarries s = true ∧ live s = true ∧ s.clock.state ≠ .unset
        ∧ minuteIndex s.cfg.cal (s.clock.sec + 1) = 1 ∧ minuteIndex s.cfg.cal s.clock.sec = 0)
    ∧ fires (scheduled 1 0 30).cfg.cal.entries 0 1 2 ∧ fires (scheduled 1 0 30).cfg.cal.entries (1 - 1440) 1 2
    ∧ ¬fires (scheduled 1 0 30).cfg.cal.entries (1 - 1441) 1 2 ∧ ¬fires (scheduled 1 0 30).cfg.cal.entries 1 1 2
    ∧ fires (scheduled 31 0 30).cfg.cal.entries 30 31 2
    ∧ (∀ j, ¬fires (scheduled 31 0 30).cfg.cal.entries 0 1 j) := by
  refine ⟨by decide +kernel, ⟨by decide, 1, by decide, by decide, by decide +kernel, by decide +kernel, ?_⟩,
    ⟨by decide, 1, by decide, by decide, by decide +kernel, by decide +kernel, ?_⟩, fun h => absurd h.1 (by decide), ?_,
    ⟨by decide, 31, by decide, by decide, by decide +kernel, by decide +kernel, ?_⟩, ?_⟩
  · intro k j h1 h2; omega
  · intro k j h1 h2; omega
  · rintro ⟨-, m, h1, h2, -⟩; omega
  · intro k j h1 h2; omega
  · rintro j ⟨-, m, h1, h2, h3, -⟩
    obtain rfl : m = 1 := by omega
    revert j; decide +kernel

/-- A due event that falls together with a warning opens the window, and the warning is ignored (R36, R149). -/
theorem test_due_before_warning :
    let s := { scheduled 1 0 30 with cfg.cal.entries := (scheduled 1 0 30).cfg.cal.entries.set 1 ⟨true, 0x7F, none, 31, 4⟩ };
    (run .secondRollover s).shift.state = .window ∧ (run .secondRollover s).shift.warned = none
    ∧ (run .secondRollover s).cnt.cal.warningFired = 1 := by decide +kernel

theorem test_hyp_RangeWrap :
    let s := clk .locked 0xFFFFFFFF#32 999999960;
    ticks s = true ∧ tickCarries s = true ∧ s.clock.sec = 0xFFFFFFFF#32 ∧ live s = true := by decide +kernel

/-- A clock whose last accepted marker lies `m` ms and `ns` ns back. -/
def after (m : Nat) (ns : Nat) (s : State) : State :=
  { s with clock := { s.clock with lastMarker := some ⟨0, 0⟩, m := BitVec.ofNat 48 m, accNs := ns } }

/-- The bounds of R5 with the window of 1 ms; no marker before. -/
theorem test_accepts_edge :
    (∀ x ∈ [(999, 0, true), (998, 999999, false), (1001, 0, true), (1001, 1, false), (2000, 1, true)],
      acceptsEdge (after x.1 x.2.1 s0) = x.2.2)
    ∧ acceptsEdge s0 = true ∧ s0.clock.lastMarker = none := by decide +kernel

theorem test_hyp_MarkerGlitch :
    (∀ s ∈ [after 998 999999 s0, after 1001 1 s0, after 1999 999999 s0],
      live s = true ∧ s.clock.lastMarker = some ⟨0, 0⟩ ∧ elapsedNs ⟨0, 0⟩ s.now < 2000000000
        ∧ (elapsedNs ⟨0, 0⟩ s.now + s.cfg.clock.window < 1000000000
          ∨ 1000000000 + s.cfg.clock.window < elapsedNs ⟨0, 0⟩ s.now))
    ∧ live (held s0) = false ∧ acceptsEdge (after 999 0 s0) = true ∧ acceptsEdge (after 1001 0 s0) = true
    ∧ (after 1001 0 s0).clock.lastMarker = some ⟨0, 0⟩ ∧ elapsedNs ⟨0, 0⟩ (after 1001 0 s0).now ≠ 2000000000
    ∧ s0.clock.lastMarker = none := by decide +kernel

/-- A clock with a held label. -/
def labelled (x : HeldLabel) (s : State) : State := { s with clock := { s.clock with held := some x } }

theorem test_hyp_MarkerAppliesLabel :
    (let s := labelled (.manual 9) (clk .locked 7 3);
      live s = true ∧ acceptsEdge s = true ∧ s.clock.held = some (.manual 9))
    ∧ (∀ st ∈ [ClockState.unset, .manual],
      let s := labelled (.beacon 9 ⟨0, 0⟩) (clk st 7 3);
      live s = true ∧ acceptsEdge s = true ∧ s.clock.held = some (.beacon 9 ⟨0, 0⟩)
        ∧ (s.clock.state = .unset ∨ s.clock.state = .manual)) := by decide +kernel

/-- A clock with the good count at 3. -/
def good3 (s : State) : State := { s with clock := { s.clock with good := 3 } }

/-- |e| at the lock window, at four lock windows, and at X, on both sides of the second. -/
theorem test_hyp_MarkerSlews :
    (∀ s ∈ [good3 (clk .acquire 7 1000), clk .acquire 7 999999000, clk .acquire 7 1001, clk .locked 7 4000,
        clk .locked 7 4001, clk .holdover 7 500000, clk .manual 7 999500000],
      live s = true ∧ acceptsEdge s = true ∧ s.clock.held = none ∧ s.clock.state ≠ .unset
        ∧ (phaseError s.clock.ns).natAbs ≤ s.cfg.clock.step)
    ∧ (∀ s ∈ [clk .acquire 7 1000, clk .holdover 7 500000, clk .locked 6 999996000],
      let s := labelled (.beacon 7 ⟨0, 0⟩) s;
      live s = true ∧ acceptsEdge s = true ∧ s.clock.held = some (.beacon 7 ⟨0, 0⟩)
        ∧ 7 = nearestSecond s.clock.sec s.clock.ns
        ∧ (s.clock.state = .acquire ∨ s.clock.state = .holdover ∨ s.clock.state = .locked)
        ∧ (phaseError s.clock.ns).natAbs ≤ s.cfg.clock.step)
    ∧ (let s := clk .unset 7 999999999;
      live s = true ∧ acceptsEdge s = true ∧ s.clock.held = none ∧ s.clock.state = .unset)
    ∧ (phaseError 1000).natAbs ≤ s0.cfg.clock.lock ∧ s0.cfg.clock.lock < (phaseError 1001).natAbs
    ∧ (phaseError 4000).natAbs ≤ 4 * s0.cfg.clock.lock ∧ 4 * s0.cfg.clock.lock < (phaseError 4001).natAbs := by
  decide +kernel

theorem test_hyp_MarkerSteps :
    (∀ s ∈ [clk .locked 7 500001, clk .manual 7 499999999, clk .holdover 7 500000000,
        clk .acquire 0xFFFFFFFF#32 500000000, clk .acquire 0xFFFFFFFF#32 499999999],
      live s = true ∧ acceptsEdge s = true ∧ s.clock.held = none ∧ s.clock.state ≠ .unset
        ∧ s.cfg.clock.step < (phaseError s.clock.ns).natAbs)
    ∧ (∀ s ∈ [clk .acquire 7 500001, clk .holdover 7 499999999, clk .locked 6 500000000],
      let s := labelled (.beacon 7 ⟨0, 0⟩) s;
      live s = true ∧ acceptsEdge s = true ∧ s.clock.held = some (.beacon 7 ⟨0, 0⟩)
        ∧ 7 = nearestSecond s.clock.sec s.clock.ns
        ∧ (s.clock.state = .acquire ∨ s.clock.state = .holdover ∨ s.clock.state = .locked)
        ∧ s.cfg.clock.step < (phaseError s.clock.ns).natAbs) := by decide +kernel

/-- Two seconds ahead, within X and above it; in LOCKED with no earlier difference, and with the same one pending; and
a relabel whose step carries S out of its range. -/
theorem test_hyp_MarkerRelabels :
    (∀ s ∈ [clk .acquire 7 500001, clk .holdover 6 500000000, clk .locked 7 499999999,
        { clk .locked 7 500001 with clock.pendingDiff := some 2 }].map (labelled (.beacon 9 ⟨0, 0⟩)),
      live s = true ∧ acceptsEdge s = true ∧ s.clock.held = some (.beacon 9 ⟨0, 0⟩)
        ∧ (2 : Second) = 9 - nearestSecond s.clock.sec s.clock.ns
        ∧ (s.clock.state = .acquire ∨ s.clock.state = .holdover ∨ s.clock.state = .locked)
        ∧ s.cfg.clock.step < (phaseError s.clock.ns).natAbs)
    ∧ (let s := labelled (.beacon 0 ⟨0, 0⟩) (clk .acquire 7 500000000);
      500000000 ≤ s.clock.ns ∧ (0 : Second) - nearestSecond s.clock.sec s.clock.ns ≠ 0)
    ∧ 4 * s0.cfg.clock.lock < (phaseError 4001).natAbs ∧ (phaseError 4001).natAbs ≤ s0.cfg.clock.step
    ∧ (∀ s ∈ [clk .acquire 7 500000, clk .holdover 7 0, clk .locked 7 4000,
        { clk .locked 7 0 with clock.pendingDiff := some 2 }].map (labelled (.beacon 9 ⟨0, 0⟩)),
      live s = true ∧ acceptsEdge s = true ∧ s.clock.held = some (.beacon 9 ⟨0, 0⟩)
        ∧ (2 : Second) = 9 - nearestSecond s.clock.sec s.clock.ns ∧ (2 : Second) ≠ 0
        ∧ (s.clock.state = .acquire ∨ s.clock.state = .holdover ∨ s.clock.state = .locked)
        ∧ (phaseError s.clock.ns).natAbs ≤ s.cfg.clock.step)
    ∧ (some 2 : Option Int) = some (2 : Second).toInt ∧ (phaseError 4000).natAbs ≤ 4 * s0.cfg.clock.lock := by
  decide +kernel

theorem test_hyp_ClockDeadlines :
    (let s := labelled (.beacon 9 ⟨0, 0⟩) (after 1500 0 s0);
      live s = true ∧ s.clock.held = some (.beacon 9 ⟨0, 0⟩) ∧ 1500000000 ≤ elapsedNs ⟨0, 0⟩ s.now)
    ∧ (let s := after 1500 0 (clk .locked 7 0);
      s.supply.state = .run ∧ s.clock.state = .locked ∧ s.clock.lastMarker = some ⟨0, 0⟩
        ∧ 1500000000 ≤ elapsedNs ⟨0, 0⟩ s.now)
    ∧ (let s := after 3600000 0 (clk .holdover 7 0);
      ticks s = true ∧ s.clock.state = .holdover ∧ s.clock.limitTaken = false ∧ s.clock.lastMarker = some ⟨0, 0⟩
        ∧ s.cfg.clock.holdLimit * 1000000000 ≤ elapsedNs ⟨0, 0⟩ s.now) := by decide +kernel

theorem test_hyp_SetTime :
    commissioned s0 ∧ 4294967295 < 2 ^ 32 ∧ (0 : Byte) = 0 ∧ (1 : Byte) = 1 ∧ 1 < (2 : Byte).toNat := by decide +kernel

/-! ### Witnesses: frame path and classifier -/

/-- A frame with its check sequence. -/
def frame (type : BitVec 16) (body : List Byte) : List Byte := buildFrame 0x010203040506#48 0x0A0B0C0D0E0F#48 type body
/-- A shortest frame. -/
def plain : List Byte := frame 0x7E21#16 [7, 1]
/-- Its arrival stamp. -/
def stamp : Stamp := ⟨5, 6, 3⟩
/-- Port U in reception. -/
def receiving (n : Nat) : State :=
  { s0 with portU := { s0.portU with rx := some stamp, ingress := List.replicate n ⟨plain, stamp⟩ } }

theorem test_hyp_Reception :
    live s0 = true ∧ (s0.port .u).rx = none
    ∧ (live (receiving 7) = true ∧ ((receiving 7).port .u).rx = some stamp ∧ (List.replicate 63 (0 : Byte)).length < 64
      ∧ 1522 < (List.replicate 1523 (0 : Byte)).length)
    ∧ (64 ≤ (List.replicate 64 (0 : Byte)).length ∧ (List.replicate 64 (0 : Byte)).length ≤ 1522
      ∧ (List.replicate 64 (0 : Byte)).drop 60 ≠ fcs ((List.replicate 64 (0 : Byte)).take 60))
    ∧ (plain.length = 64 ∧ plain.drop (plain.length - 4) = fcs (plain.take (plain.length - 4)))
    ∧ ((receiving 7).port .u).ingress.length < 8 ∧ 8 ≤ ((receiving 8).port .u).ingress.length := by decide +kernel

theorem test_hyp_FrameTake :
    let s := { receiving 1 with portS := { s0.portS with ingress := [⟨plain, stamp⟩, ⟨plain, stamp⟩] } };
    live s = true ∧ s.cls.work = none ∧ s.resp.state = .ready ∧ (s.port .u).ingress = ⟨plain, stamp⟩ :: []
      ∧ Port.u = s.cls.pointer
      ∧ ({ s with portU := s0.portU }.port .s).ingress = ⟨plain, stamp⟩ :: [⟨plain, stamp⟩]
      ∧ ({ s with portU := s0.portU }.port { s with portU := s0.portU }.cls.pointer).ingress = [] := by decide +kernel

/-- A 64-byte frame takes 84 x 80 = 6,720 ns. -/
theorem test_hyp_Transmission :
    let f : TxFrame := ⟨plain, false⟩
    let s := { s0 with portU := { s0.portU with urgent := [f], notice := [f], bulk := [f] } };
    (live s = true ∧ (s.port .u).tx = none ∧ s.resp.restartDue = false ∧ (s.port .u).urgent = f :: [])
    ∧ (let s' := { s0 with portS := { PortPath.empty with notice := [f] } };
      (s'.port .s).tx = none ∧ s'.resp.restartDue = false ∧ (s'.port .s).urgent = [] ∧ (s'.port .s).notice = f :: [])
    ∧ (let s' := { s0 with portU := { s0.portU with bulk := [f] } };
      (s'.port .u).urgent = [] ∧ (s'.port .u).notice = [] ∧ (s'.port .u).bulk = f :: [])
    ∧ (let s' := { after 0 6720 s0 with portU := { s0.portU with tx := some ⟨f, ⟨0, 0⟩⟩ } };
      live s' = true ∧ (s'.port .u).tx = some ⟨f, ⟨0, 0⟩⟩ ∧ (f.bytes.length + 20) * 80 ≤ elapsedNs ⟨0, 0⟩ s'.now) := by
  decide +kernel

/-- A frame in classification. -/
def work (p : Port) (bytes : List Byte) (mgmtU : Bool) : Work :=
  ⟨p, bytes, stamp, s0.cfg.net.station, s0.cfg.net.mtype, mgmtU⟩
/-- The part classifying it. -/
def doing (w : Work) (s : State) : State := { s with cls := { s.cls with work := some w } }
/-- A management frame carrying a request. -/
def request (code : Byte) : List Byte :=
  buildFrame s0.cfg.net.station 0x0A0B0C0D0E0F#48 s0.cfg.net.mtype [0, 9, code, 1, 2]

theorem test_hyp_ManagementFrameDroppedOnU :
    let w := work .u (request 1) false;
    live (doing w s0) = true ∧ (doing w s0).cls.work = some w ∧ frameDst w.bytes = w.station
      ∧ frameType w.bytes = w.mtype ∧ w.port = .u ∧ w.mgmtU = false := by decide +kernel

/-- Codes 01h and 1Ah are known, 00h and 1Bh are not. -/
theorem test_hyp_ManagementFrameHanded :
    (∀ w ∈ [work .s (request 1) false, work .u (request 0x1A) true],
      live (doing w s0) = true ∧ (doing w s0).cls.work = some w ∧ frameDst w.bytes = w.station
        ∧ frameType w.bytes = w.mtype ∧ (w.port = .s ∨ w.mgmtU = true)
        ∧ ((doing w s0).resp.handed ++ [requestOf w]).all (fun r => knownCode r.code) = true)
    ∧ (∀ w ∈ [work .s (request 0) false, work .u (request 0x1B) true],
      (doing w s0).resp.state = .ready ∧ (doing w s0).resp.handed = []
        ∧ frameDst w.bytes = w.station ∧ frameType w.bytes = w.mtype ∧ (w.port = .s ∨ w.mgmtU = true)
        ∧ knownCode (requestOf w).code = false) := by decide +kernel

/-- A part whose BULK queues hold `n` frames. -/
def bulky (n : Nat) : State :=
  { s0 with
    portU := { s0.portU with bulk := List.replicate n ⟨plain, false⟩ }
    portS := { s0.portS with bulk := List.replicate n ⟨plain, false⟩ } }

theorem test_hyp_UnmatchedFrameForwarded :
    (∀ p ∈ [Port.u, .s],
      let w := work p plain false;
      live (doing w (bulky 63)) = true ∧ (doing w (bulky 63)).cls.work = some w
        ∧ (frameDst w.bytes ≠ w.station ∨ frameType w.bytes ≠ w.mtype)
        ∧ (∀ i : Fin 128, (doing w (bulky 63)).cls.active[i].hits w = false))
    ∧ (∀ p ∈ [Port.u, .s], ((bulky 63).port p).bulk ≠ [] ∧ ((bulky 63).port p).bulk.length < 64
      ∧ 64 ≤ ((bulky 64).port p).bulk.length)
    ∧ (∀ p ∈ [Port.u, .s],
      let s := { s0 with portS := PortPath.empty };
      (s.port p).tx = none ∧ (s.port p).urgent = [] ∧ (s.port p).notice = [] ∧ (s.port p).bulk = []
        ∧ s.resp.restartDue = false) := by decide +kernel

/-- A UNIT entry for unit 1, with its mode byte at payload offset 0 and raw value 7 for GEN. -/
def unitEntry : Entry :=
  { Entry.empty with
    enabled := true, action := .unit { unit := 1, modeOffset := 0, codeMap := [(7, .gen)], test := none } }
/-- The part with that entry in the active bank at index 0, and one that chains at index 126. -/
def banked : State :=
  { s0 with cls := { s0.cls with
      active := (s0.cls.active.set 0 unitEntry).set 126 { Entry.empty with chain := some 127 } } }

theorem test_hyp_AtMostFourEntriesAct :
    let s := doing (work .u plain false) banked;
    s.cls.work = some (work .u plain false) ∧ isManagement (work .u plain false) = false
      ∧ (∀ i : Fin 128, s.cls.active[i].chain.all (fun c => i.val < c.toNat) = true) := by decide +kernel

theorem test_next_AtMostFourEntriesAct :
    ∃ t, exec .classificationDone (doing (work .u plain false) banked) = .next t := ⟨_, rfl⟩

/-- An entry's actions, with picks and writes that end at the payload's last byte and just beyond it. -/
def acts : List Machine.Action :=
  [.pass, .drop, .stamp ⟨37, .binary⟩, .stamp ⟨36, .bcd⟩, .beacon 42, .beacon 43, .handover 1 0 0, .handover 0 1 0,
   .unit { unit := 1, modeOffset := 0, codeMap := [(7, .gen)], test := some (1, 1) },
   .trip { source := 63, group := 15, unit := some 6, stateOffset := 0, codeOffset := 2, codeWidth := 1, clearCode := 0,
           origin := .embedded, embedded := some 38, compensation := 250, unitStop := true,
           write := some ⟨37, .binary⟩ }]

theorem test_hyp_UnitFrameChangesMode :
    let w := work .u plain false;
    let s := doing w banked;
    (live s = true ∧ s.cls.work = some w ∧ (frameDst w.bytes ≠ w.station ∨ frameType w.bytes ≠ w.mtype)
      ∧ s.cls.active[0].hits w = true ∧ s.cls.active[0].chain = none
      ∧ s.cls.active[0].action = .unit { unit := 1, modeOffset := 0, codeMap := [(7, .gen)], test := none }
      ∧ (1 : Byte).toNat = (0 : Fin 6).val + 1 ∧ mapMode [(7, .gen)] 7 = some .gen ∧ (∀ q ∈ [((8 : Byte), Mode.gen)], q.1.toNat ≠ 7)
      ∧ s.tally[0].hold = none ∧ Mode.gen ≠ s.tally[0].mode)
    ∧ (∀ a ∈ acts, (Entry.hits { unitEntry with action := a } w) = true) ∧ (payload w.bytes).length = 46
    ∧ pick (payload w.bytes) 0 1 = some 7 ∧ pick (payload w.bytes) 1 1 = some 1 ∧ pick (payload w.bytes) 2 1 = some 0
    ∧ pick (payload w.bytes) 0 2 = some 0x0701 ∧ pick (payload w.bytes) 38 8 = some 0
    ∧ pick (payload w.bytes) 42 4 = some 0 ∧ pick (payload w.bytes) 43 4 = none
    ∧ 37 + StampFormat.binary.width ≤ 46 ∧ 46 < 36 + StampFormat.bcd.width := by decide +kernel

/-- The part classifying that frame with unit 1's record changed; the entry maps raw value 7 to a mode. -/
def reporting (m : Mode) (f : UnitRec → UnitRec) : State :=
  let e := { unitEntry with action := .unit { unit := 1, modeOffset := 0, codeMap := [(7, m)], test := some (1, 1) } };
  let s := doing (work .u plain false) banked;
  { s with cls := { s.cls with active := s.cls.active.set 0 e }, tally := s.tally.set 0 (f s.tally[0]) }

/-- The rows of R124: under a trip hold a running report and STANDSTILL; the same mode and flag; the flag alone; and a
start that counts, one into the mode from before an outage, and one into another (R126). -/
theorem test_hyp_UnitFrameChangesMode_unit :
    (∀ m ∈ [Mode.gen, .standstill],
      let s := reporting m (fun u => { u with mode := .standstill, hold := some 9 });
      live s = true ∧ s.cls.work = some (work .u plain false) ∧ s.cls.active[0].hits (work .u plain false) = true
        ∧ s.cls.active[0].chain = none ∧ s.tally[0].hold = some 9 ∧ mapMode [(7, m)] 7 = some m
        ∧ (m.running.isSome = true ∨ m = .standstill))
    ∧ (∀ x ∈ [(Mode.gen, true), (.standstill, false)],
      let s := reporting x.1 (fun u => { u with mode := x.1, test := x.2 });
      s.tally[0].hold = none ∧ x.1 = s.tally[0].mode ∧ (true && x.1.running.isSome) = s.tally[0].test)
    ∧ (let s := reporting .gen (fun u => { u with mode := .gen });
      s.tally[0].hold = none ∧ (true && Mode.gen.running.isSome) ≠ s.tally[0].test)
    ∧ (∀ p ∈ [Mode.gen, .pmp],
      let s := reporting .gen (fun u => { u with preOutage := some p });
      s.tally[0].hold = none ∧ Mode.gen ≠ s.tally[0].mode ∧ s.tally[0].mode = .unknown ∧ s.tally[0].preOutage = some p)
    ∧ (BitVec.ofNat 8 1 &&& (1 : Byte) != 0) = true := by decide +kernel

/-- A part whose standby bank holds that entry at index 127. -/
def loaded : State := { s0 with cls := { s0.cls with standby := s0.cls.standby.set 127 unitEntry } }

theorem test_hyp_LoadAndReadEntry :
    (commissioned loaded ∧ readEntryBytes (unitEntry.encode [] ++ [5]) = .ok (unitEntry, [5]))
    ∧ 127 < 128 ∧ 128 ≤ 128 ∧ 255 < 256 ∧ loaded.cls.standby[127] = unitEntry :=
  ⟨⟨by decide +kernel, rfl⟩, by decide +kernel⟩

/-- Four byte tests, and an entry of the kind with the longest parameters. -/
theorem test_hyp_EntryLayoutRoundTrip :
    let trip : TripParams :=
      { source := 63, group := 15, unit := none, stateOffset := 0, codeOffset := 2, codeWidth := 2, clearCode := 0,
        origin := .embedded, embedded := some 4, compensation := 250, unitStop := false, write := none };
    carriable { unitEntry with tests := List.replicate 4 ⟨511, 4, 0xFFFFFFFF#32, 0, .ne⟩ } = true
    ∧ carriable { Entry.empty with action := .trip trip } = true := by
  decide +kernel

/-- A part whose standby bank has its first bad entry at index 127, a chain that does not lead upward. -/
def badBank : State :=
  { s0 with cls := { s0.cls with standby := s0.cls.standby.set 127 { Entry.empty with chain := some 127 } } }

theorem test_hyp_CommitBank :
    (commissioned badBank ∧ entryValid (127 : Fin 128) badBank.cls.standby[(127 : Fin 128)] = false
      ∧ (∀ j : Fin 128, j < 127 → entryValid j badBank.cls.standby[j] = true))
    ∧ (commissioned s0 ∧ (∀ j : Fin 128, entryValid j s0.cls.standby[j] = true) ∧ s0.cls.work = none)
    ∧ (commissioned (doing (work .u plain false) s0) ∧ (doing (work .u plain false) s0).cls.work.isSome = true)
    ∧ (let s := { s0 with resp := { s0.resp with state := .commitWait, inProgress := some ⟨hd, 0x12, []⟩ } };
      live s = true ∧ s.resp.state = .commitWait ∧ s.cls.work = none ∧ s.resp.inProgress = some ⟨hd, 0x12, []⟩
        ∧ s.resp.handed = []) := by decide +kernel

theorem test_hyp_FaultRecord :
    answering s0 ∧ s0.cls.fault = none
    ∧ answering { s0 with cls := { s0.cls with fault := some ⟨.pickOutside, 127, .u, 0, stamp⟩ } } := by decide +kernel

/-! ### Witnesses: recorder, groups, units -/

/-- A trip report of source 3 for group 2 and unit 1, asking for the stop. -/
def report : TripReport :=
  { source := 3, group := 2, unit := some 0, stateNo := 1, code := 9, kind := .trip, embedded := none,
    compensation := 250, unitStop := true, stamp := stamp, port := .u }
/-- A record of that source. -/
def record (seq : BitVec 32) : TripRecord :=
  { seq := seq, kind := .trip, source := 3, group := 2, unit := some 0, code := 9, stateNo := 900, epoch := 0,
    stamp := stamp, origin := .arrival, port := .u, shiftNo := 1, late := false, mode := some .gen, firstOut := false,
    earlier := false, acked := false, repeats := 0, restart := false }
/-- The part with a source whose last state number is known, a list of `n` records and unit 1 generating. -/
def tripping (last : BitVec 16) (n : Nat) : State :=
  { gen1 with recorder := { gen1.recorder with
      slots := gen1.recorder.slots.set 3 { SourceSlot.cold with used := true, lastNo := last }
      list := List.replicate n (record 1) } }
/-- The part in shift 2 with a full list: 511 records that stand and, last, an acknowledged one of shift 1, to which
group 5 may refer. -/
def fullList (ref : Option (BitVec 32)) : State :=
  let s := tripping 0x8002 511;
  { s with
    recorder.list := s.recorder.list ++ [{ record 2 with acked := true }]
    shift.openRec.number := 2
    ann := s.ann.set 5 { Group.cold with state := .acked, ref := ref } }

/-- The steps from the state number of the report's source slot to the report's (R87). -/
def steps (r : TripReport) (s : State) : Nat := (r.stateNo - s.recorder.slots[r.source].lastNo).toNat

/-- New on an unused slot, at d = 1 and at d = 32,767; a restart at d = 32,768 and 65,535, state numbers 1 and 0; 511
records in the list, one of them with the report's state number or none. -/
theorem test_hyp_TripReportMakesRecord :
    (gen1.recorder.list.length < 512 ∧ gen1.recorder.slots[report.source].used = false)
    ∧ ((tripping 0x8002 511).recorder.list.length < 512 ∧ steps report (tripping 0x8002 511) = 32767)
    ∧ steps report (tripping 0 511) = 1
    ∧ (steps report (tripping 0x8001 511) = 32768 ∧ report.stateNo.toNat ≤ 1
      ∧ (tripping 0x8001 511).recorder.slots[report.source].used = true)
    ∧ (steps { report with stateNo := 0 } (tripping 1 511) = 65535
      ∧ ({ report with stateNo := 0 } : TripReport).stateNo.toNat ≤ 1)
    ∧ (∀ x ∈ [(900, 1, true), (901, 2, false)],
      steps { report with stateNo := x.1 } (tripping 899 1) = x.2.1
        ∧ (tripping 899 1).recorder.list.any (fun y => y.source == report.source && y.stateNo == x.1) = x.2.2)
    ∧ (let s := fullList (some 1);
      512 ≤ s.recorder.list.length
        ∧ s.recorder.list = List.replicate 511 (record 1) ++ { record 2 with acked := true } :: []
        ∧ (record 2).shiftNo < s.shift.openRec.number ∧ (∀ g : Fin 16, s.ann[g].ref ≠ some (record 2).seq)
        ∧ (∀ y ∈ List.replicate 511 (record 1), y.acked = false))
    ∧ (let s := fullList (some 2);
      512 ≤ s.recorder.list.length ∧ s.ann[5].ref = some 2
        ∧ (∀ y ∈ s.recorder.list, y.acked = false ∨ y.seq = 2))
    ∧ (report.kind = .trip ∧ report.unit = some 0 ∧ report.unitStop = true ∧ gen1.tally[0].mode.running = some 0
      ∧ 0 < gen1.cfg.holdLen[0]) := by decide +kernel

/-- Group 2 in a state, referring to the record in the list, or masked; the open shift later than the report's stamp, with
one closed shift or none. -/
theorem test_hyp_TripReportMakesRecord_group :
    (∀ st ∈ [GroupState.settling, .announced, .acked],
      let s := { tripping 0 1 with
        ann := (tripping 0 1).ann.set 2 { Group.cold with state := st, ref := some 1 } };
      s.recorder.list.length < 512 ∧ steps report s = 1 ∧ s.ann[report.group].state = st ∧ maskedGroup s report.group = false
        ∧ (s.ann[report.group].ref.bind fun q => s.recorder.list.find? (fun y => y.seq = q)) = some (record 1))
    ∧ (∀ w ∈ [0, 1],
      let s := { gen1 with cfg.windows := gen1.cfg.windows.set 2 w };
      s.ann[report.group].state = .quiet ∧ s.cfg.windows[report.group] = w
        ∧ s.recorder.slots[report.source].used = false)
    ∧ maskedGroup { gen1 with cfg.masks := 4 } report.group = true
    ∧ (let c := closeShift gen1.shift stamp 0 0 (Vector.replicate 6 (Vector.replicate 6 0));
      let s := { gen1 with shift := { gen1.shift with
        list := [c], openRec := { gen1.shift.openRec with number := 2, opened := { stamp with sec := stamp.sec + 1 } } } };
      s.shift.list = [] ++ [c] ∧ c.base.number ≠ s.shift.openRec.number ∧ s.shift.state ≠ .acceptHeld
        ∧ earlierThan (recordStamp s.cfg.plausibility report).1 s.shift.openRec.opened = true)
    ∧ gen1.shift.list = [] ∧ ({ report with kind := .clear } : TripReport).kind = .clear := by decide +kernel

/-- A used slot whose state number a report brings again; a report that is new, one that repeats, a restart, and, at
d = 32,768 with state number 2, one that is stale. -/
theorem test_hyp_RepeatedReportMakesNoRecord :
    ((tripReport report gen1).recorder.slots[report.source].used = true
      ∧ (tripReport report gen1).recorder.slots[report.source].lastNo = report.stateNo)
    ∧ gen1.recorder.slots[report.source].used = false
    ∧ steps report (tripping 1 5) = 0 ∧ steps report (tripping 0x8002 5) = 32767
    ∧ (steps report (tripping 0x8001 5) = 32768 ∧ report.stateNo.toNat ≤ 1)
    ∧ ((tripping 0x8002 5).recorder.slots[report.source].used = true
      ∧ steps { report with stateNo := 2 } (tripping 0x8002 5) = 32768
      ∧ 2 ≤ ({ report with stateNo := 2 } : TripReport).stateNo.toNat) := by decide +kernel

/-- A part with group 2 in a state, its reference record 7. -/
def grouped (st : GroupState) : State :=
  { s0 with
    recorder := { s0.recorder with list := [record 7], nextSeq := 8 }
    ann := s0.ann.set 2
      { state := st, ref := if st = .quiet then none else some 7
        deadline := if st = .settling then some ⟨0, 0⟩ else none, trips := 1, lost := false } }
/-- An accept held. -/
def accept : HeldAccept := ⟨2, 5, stamp⟩
/-- The part with that accept held. -/
def accepting (s : State) : State :=
  { s with shift := { s.shift with state := .acceptHeld, offer := some 4, accept := some accept } }

theorem test_hyp_SettleDeadline :
    (let s := grouped .settling;
      s.supply.state = .run ∧ s.ann[2].state = .settling ∧ s.ann[2].deadline = some ⟨0, 0⟩ ∧ reached ⟨0, 0⟩ s.now = true
        ∧ s.ann[2].ref = some 7 ∧ s.shift.state ≠ .acceptHeld ∧ live s = true
        ∧ (findRecord 7 s.recorder.list).isSome = true)
    ∧ (let s := accepting (grouped .settling);
      s.shift.state = .acceptHeld ∧ s.shift.accept = some accept ∧ ∀ j : Fin 16, j ≠ 2 → s.ann[j].state ≠ .settling)
    ∧ (let s := accepting (grouped .settling);
      let s := { s with ann := s.ann.set 15 s.ann[2] };
      s.shift.state = .acceptHeld ∧ ∃ j : Fin 16, j ≠ 2 ∧ s.ann[j].state = .settling) := by decide +kernel

theorem test_hyp_AckGroup :
    answering (grouped .announced) ∧ (grouped .announced).ann[2].state = .announced
    ∧ (∀ st ∈ [GroupState.quiet, .settling, .acked], answering (grouped st) ∧ (grouped st).ann[2].state ≠ .announced)
    ∧ 15 < (16 : Byte).toNat := by decide +kernel

theorem test_hyp_AckNext :
    (answering (grouped .announced) ∧ (grouped .announced).ann[2].state = .announced
      ∧ ∀ j : Fin 16, j < 2 → (grouped .announced).ann[j].state ≠ .announced)
    ∧ (answering (grouped .settling) ∧ ∀ j : Fin 16, (grouped .settling).ann[j].state ≠ .announced) := by decide +kernel

theorem test_hyp_ResetGroup :
    (∀ st ∈ [GroupState.quiet, .settling, .announced, .acked], answering (grouped st) ∧ (grouped st).ann[2].state = st)
    ∧ 15 < (16 : Byte).toNat := by decide +kernel

theorem test_hyp_SetMask :
    commissioned s0
    ∧ (∀ j : Fin 16, (0x8000#16).getLsbD j.val = if j = 15 then true else s0.cfg.masks.getLsbD j.val)
    ∧ (∀ j : Fin 16, (0#16).getLsbD j.val = if j = 15 then false else s0.cfg.masks.getLsbD j.val)
    ∧ 15 < (16 : Byte).toNat ∧ 1 < (2 : Byte).toNat := by decide +kernel

theorem test_hyp_CreditingKeepsValues :
    { UnitRec.cold with mode := .gen, run := Vector.replicate 6 3599999999999 }.run[(0 : Fin 6)] ≤ 3599999999999 := by
  decide +kernel

/-- A trip hold that ends now; a unit generating for an hour since its last checkpoint. -/
def hourly : State :=
  { gen1 with
    clock := { gen1.clock with m := 3600000 }
    tally := gen1.tally.set 1 { gen1.tally[1] with mode := .standstill, hold := some 3600000 } }

theorem test_hyp_TallyDeadlines :
    hourly.supply.state = .run
    ∧ (hourly.tally[1].hold = some 3600000 ∧ reachedM 3600000 hourly.clock.m = true)
    ∧ (hourly.tally[0].mode.running.isSome = true ∧ 3600000 ≤ (hourly.clock.m - hourly.tally[0].lastCkpt).toNat
      ∧ hourly.tally[0].hourlyAsked = false ∧ hourly.store.flags[0] = none)
    ∧ { hourly.store with flags := hourly.store.flags.set 0 (some .preset) }.flags[0] = some .preset
    ∧ { hourly.tally[0] with hourlyAsked := true }.hourlyAsked = true := by decide +kernel

/-- A unit that has asked, stops and runs again before the writer starts asks no second time (R134). -/
theorem test_hourly_once :
    let s := run (.hourlyRequest 0) hourly;
    let t := unitReport 0 .gen false stamp (unitReport 0 .standstill false stamp s);
    s.cnt.tally.hourly = 1 ∧ t.tally[0].mode = .gen ∧ t.cnt.tally.changes = 2 ∧ t.cnt.tally.hourly = 1
      ∧ t.store.flags[0] = some .hourly := by decide +kernel

/-- The bounds of R137 and just beyond them. -/
theorem test_hyp_PresetKeepsShiftRun :
    commissioned gen1 ∧ 4294967295 < 2 ^ 32 ∧ 65535 < 2 ^ 16 ∧ ¬(3599999999 < 3599999999 ∨ 999 < 999)
    ∧ 3599999999 < 3600000000 ∧ 999 < 1000 := by decide +kernel

theorem test_hyp_RunTimesNeverDecrease :
    runsOk gen1 ∧ maySetRunTimes (.backupEntry 2200) = false ∧ maySetRunTimes (.backupEntry 2199) = true := by
  decide +kernel

theorem test_next_RunTimesNeverDecrease : ∃ t, exec (.backupEntry 2200) gen1 = .next t := ⟨_, rfl⟩

/-! ### Witnesses: shift unit and pulse lines -/

/-- The part in a handover state with its deadlines reached. -/
def handing (st : HandoverState) (expected : Option Nat) : State :=
  { s0 with shift := { s0.shift with
      state := st, expected := expected, window := expected.map (fun _ => 0), overdueAt := some 0
      offer := if st = .offered then some 4 else none, lapseAt := if st = .offered then some 0 else none } }

theorem test_hyp_HandoverDeadlines :
    (let s := handing .window (some 2);
      s.supply.state = .run ∧ s.shift.overdueAt = some 0 ∧ reachedM 0 s.clock.m = true ∧ live s = true)
    ∧ (∀ e ∈ [some 2, none],
      let s := handing .offered e;
      s.shift.state = .offered ∧ s.shift.lapseAt = some 0 ∧ reachedM 0 s.clock.m = true) := by decide +kernel

/-- The reports of R151 to R154: the crew on shift is 1, the expected crew 2; a group settles or none. -/
theorem test_hyp_UnitFrameChangesMode_reports :
    (∀ st ∈ [HandoverState.onShift, .due, .window, .offered, .acceptHeld],
      (handing st none).shift.state = st ∧ (handing st (some 2)).shift.expected = some 2
        ∧ (handing st none).shift.openRec.crew = 1 ∧ (handing st none).shift.expected = none
        ∧ live (handing st none) = true)
    ∧ (∀ g : Fin 16, (handing .offered none).ann[g].state ≠ .settling)
    ∧ (grouped .settling).ann[(2 : Fin 16)].state = .settling := by decide +kernel

/-- An ACCEPT of an unscheduled offer by the crew on shift is a misfit; by another crew it completes (R152, R153). -/
theorem test_accept :
    let s := handing .offered none;
    (handoverReport .accept ⟨1, 7, stamp⟩ s).cnt.shift.crewMisfit = 1
    ∧ (handoverReport .accept ⟨1, 7, stamp⟩ s).shift = s.shift
    ∧ (handoverReport .accept ⟨2, 7, stamp⟩ s).shift.openRec.crew = 2
    ∧ (handoverReport .accept ⟨2, 7, stamp⟩ s).shift.state = .onShift := by decide +kernel

theorem test_hyp_ForceHandover :
    (commissioned (grouped .announced) ∧ ∀ g : Fin 16, (grouped .announced).ann[g].state ≠ .settling)
    ∧ (commissioned (grouped .settling) ∧ ∃ g : Fin 16, (grouped .settling).ann[g].state = .settling)
    ∧ (1 ≤ (15 : Byte).toNat ∧ (15 : Byte).toNat ≤ 15) ∧ ¬(1 ≤ (0 : Byte).toNat) ∧ ¬((16 : Byte).toNat ≤ 15) := by
  decide +kernel

/-- Line 1 with a function and a pulse state, the clock LOCKED, the dial at 100 behind a target of 101. -/
def lined (f : LineFunction) (p : Pulse) (pending : List LineChange) : State :=
  let s := clk .locked 7 0;
  { s with
    cfg.lines := s.cfg.lines.set 1 { s.cfg.lines[1] with function := f }
    lines := s.lines.set 1
      { s.lines[1] with pulse := p, pending := pending, cycle := f.cycle, target := f.cycle.map (fun _ => 101)
                        pos := 100 } }

/-- A slave line at rest whose minute dial the next second finds behind by 1 to the hold's bound of 600, one step beyond
it, level or ahead; a SECOND_MARK line in its pulse; the clock UNSET. -/
theorem test_hyp_SecondRollover_lines :
    (∀ x ∈ [(719, 1), (120, 600), (119, 601), (0, 0), (1, 719)],
      let s := { lined .slaveMinute .rest [] with clock := (clk .locked 7 999999960).clock };
      let s := { s with lines := s.lines.set 1 { s.lines[1] with pos := x.1 } };
      ticks s = true ∧ tickCarries s = true ∧ live s = true ∧ s.cfg.lines[1].function.cycle = some .c720
        ∧ s.lines[1].cycle = some .c720 ∧ s.lines[1].pulse = .rest
        ∧ (targetAt .slaveMinute (localTime s.cfg.cal 8) + 720 - s.lines[1].pos) % 720 = x.2)
    ∧ 720 - s0.cfg.lines[1].hold = 600
    ∧ (∀ st ∈ [ClockState.unset, .locked],
      let s := { lined .secondMark (.drive .a 5) [] with clock := (clk st 7 999999960).clock };
      live s = true ∧ tickCarries s = true ∧ s.cfg.lines[1].function = .secondMark
        ∧ s.lines[1].pulse.wire.isSome = true ∧ s.lines[1].pulse ≠ .rest) := by decide +kernel

/-- A function change, a dial setting alone, one behind a change of cycle, and one that becomes an hour meter: what each
makes of the configuration and the records. -/
theorem test_hyp_DriveEnd :
    (∀ q ∈ [[], [LineChange.function .off], [.dial 37 .b], [.function .slaveHalf, .dial 37 .b],
        [.dial 37 .b, .function .hourMeter, .modes 3]],
      let s := lined .slaveMinute (.drive .a 0) q;
      live s = true ∧ s.lines[1].pulse = .drive .a 0 ∧ reachedM 0 s.clock.m = true ∧ s.lines[1].pending = q)
    ∧ (let s := lined .slaveMinute (.drive .a 0) [.dial 37 .b];
      s.lines[1].pending.foldl (changeTaken s) (s.cfg.lines[1], s.lines[1], 0)
          = (s.cfg.lines[1], { s.lines[1] with pos := 37, pol := .b }, 0)
        ∧ s.cfg.lines[1].function.cycle = some .c720)
    ∧ (let s := lined .slaveMinute (.drive .a 0) [.dial 37 .b, .function .hourMeter, .modes 3];
      (s.lines[1].pending.foldl (changeTaken s) (s.cfg.lines[1], s.lines[1], 0)).2.2 = 2) := by decide +kernel

/-- A SET_DIAL taken in DRIVE takes effect at the end of the drive (R176). -/
theorem test_dial_behind_drive :
    let t := run (.driveEnd 1) (lined .slaveMinute (.drive .a 0) [.dial 37 .b]);
    t.lines[1].pos = 37 ∧ t.lines[1].pol = .b ∧ t.lines[1].cycle = some .c720 ∧ t.lines[1].pending = [] := by
  decide +kernel

/-- `d` at 1, at the last step that counts as behind and at the first that counts as ahead (the hold span is 120
minutes), and at 0; the meter's mark 36 below its tally and 1 s short of that. -/
def dialled (pos : Nat) : State :=
  let s := lined .slaveMinute (.gap 0) [];
  { s with lines := s.lines.set 1 { s.lines[1] with pos := pos } }
/-- An hour meter of unit 1 with GEN at 36 s and a mark. -/
def metered (p : Pulse) (mark : Nat) : State :=
  let s := lined .hourMeter p [];
  { s with
    tally := s.tally.set 0 { s.tally[0] with run := #v[36000, 0, 0, 0, 0, 0] }
    lines := s.lines.set 1 { s.lines[1] with mark := mark } }

theorem test_hyp_GapEndAndMeterThreshold :
    (∀ x ∈ [(100, 1), (221, 600), (220, 601), (101, 0), (102, 719)],
      let s := dialled x.1;
      live s = true ∧ s.lines[1].pulse = .gap 0 ∧ reachedM 0 s.clock.m = true
        ∧ s.cfg.lines[1].function.cycle = some .c720 ∧ s.clock.state ≠ .unset ∧ s.lines[1].cycle = some .c720
        ∧ s.lines[1].target = some 101
        ∧ x.2 = (101 + Cycle.c720.steps - s.lines[1].pos) % Cycle.c720.steps)
    ∧ Cycle.c720.steps - (dialled 0).cfg.lines[1].holdSteps = 600
    ∧ (let s := dialled 100;
      { s with lines := s.lines.set 1 { s.lines[1] with cycle := none } }.lines[1].cycle = none)
    ∧ ((metered (.gap 0) 0).cfg.lines[1].function = .hourMeter
      ∧ (metered (.gap 0) 0).lines[1].mark + 36 ≤ tallySecs (metered (.gap 0) 0) (metered (.gap 0) 0).cfg.lines[1].selection)
    ∧ tallySecs (metered (.gap 0) 36) (metered (.gap 0) 36).cfg.lines[1].selection < (metered (.gap 0) 36).lines[1].mark + 36
    ∧ (lined .off (.gap 0) []).cfg.lines[1].function = .off
    ∧ (let s := metered .rest 0;
      live s = true ∧ s.lines[1].pulse = .rest ∧ s.cfg.lines[1].function = .hourMeter
        ∧ s.lines[1].mark + 36 ≤ tallySecs s s.cfg.lines[1].selection) := by decide +kernel

/-- A line 21 steps behind whose gap ends at the tick into minute 1; nothing is in transmission. -/
def together : State :=
  let s := { lined .slaveMinute (.gap 1) [] with clock := { (clk .locked 59 999999960).clock with accNs := 999960 } };
  { s with portS := PortPath.empty, lines := s.lines.set 1 { s.lines[1] with target := some 0, pos := 699 } }

/-- The same once the tick has moved elapsed time on and the gap end has begun a pulse on the old target. -/
def pulsed : State :=
  let x := { elapsedTick together with choices := together.choices + 1 };
  { x with
    lines := x.lines.set 1 { x.lines[1] with pulse := .drive .a 501, pos := 700, pol := .b }
    cnt.lines.pulses := x.cnt.lines.pulses.set 1 (x.cnt.lines.pulses[1] + 1) }

theorem test_hyp_GapEndAndMeterThreshold_together :
    let x := { elapsedTick together with choices := together.choices + 1 };
    (live together = true ∧ together.pending = [] ∧ dueEvents together = [] ∧ together.cls.work = none
      ∧ ticks together = true ∧ tickCarries together = true ∧ together.clock.sec ≠ 0xFFFFFFFF#32
      ∧ dueEvents x = [.gapEnd 1] ∧ together.cfg.lines[1].function.cycle = some .c720
      ∧ together.clock.state ≠ .unset ∧ together.lines[1].cycle = some .c720 ∧ together.lines[1].target = some 0)
    ∧ (21 = (0 + Cycle.c720.steps - together.lines[1].pos) % Cycle.c720.steps
      ∧ together.lines[1].pol = .a ∧ x.clock.m + BitVec.ofNat 48 (clampNat 20 2000 together.cfg.lines[1].width) = 501)
    ∧ dueEvents pulsed = [] := by decide +kernel

/-- Either way the pulse leaves P at 700 and the target is renewed to 1 (R174; 09, worked example at t = 60.0). -/
theorem test_gap_end_and_rollover :
    let first := run (.gapEnd 1) (takeReading (tickIncrement together) (elapsedTick together));
    let last := takeReading (tickIncrement together) (run (.gapEnd 1) (elapsedTick together));
    first.lines[1] = last.lines[1] ∧ first.lines[1].pos = 700 ∧ first.lines[1].target = some 1
      ∧ (run (.gapEnd 1) (elapsedTick together)).lines[1].target = some 0 := by decide +kernel

/-- Positions at and beyond the dial's last; a target equal to the position, behind and ahead of it. -/
theorem test_hyp_SetDial :
    (answering (lined .slaveMinute .rest []) ∧ 65535 < 65536 ∧ 719 = min 720 (Cycle.c720.steps - 1)
      ∧ 719 = min 719 (Cycle.c720.steps - 1) ∧ 7 < (8 : Byte).toNat ∧ 1 < (2 : Byte).toNat)
    ∧ (answering (lined .hourMeter .rest []) ∧ (lined .hourMeter .rest []).lines[1].pending = []
      ∧ (lined .hourMeter .rest []).cfg.lines[1].function.cycle = none)
    ∧ (∀ n ∈ [7, 8],
      let s := lined .slaveHalf (.drive .a 5) (List.replicate n (.gap 300));
      answering s ∧ (projectedCfg 1 s).function.cycle = some .c1440 ∧ s.lines[1].pulse.wire.isSome = true
        ∧ s.lines[1].pending.length = n)
    ∧ (∀ p ∈ [Pulse.gap 0, .rest],
      let s := lined .slaveMinute p [];
      s.lines[1].pending = [] ∧ s.cfg.lines[1].function.cycle = some .c720 ∧ s.lines[1].pulse.wire.isSome = false
        ∧ s.lines[1].target = some (min 101 (Cycle.c720.steps - 1)) ∧ s.clock.state ≠ .unset)
    ∧ 1 ≤ (101 + Cycle.c720.steps - 100) % Cycle.c720.steps
    ∧ (101 + Cycle.c720.steps - 221) % Cycle.c720.steps
        = Cycle.c720.steps - (lined .slaveMinute .rest []).cfg.lines[1].holdSteps := by decide +kernel

/-! ### Witnesses: supply, store, responder, invariants -/

/-- The part in another supply state. -/
def supplied (st : SupplyState) (retention resetLine : Bool) : State :=
  { s0 with supply := { s0.supply with state := st, retention := retention, resetLine := resetLine } }

/-- One witness serves all voltages: the statement splits at 1,800 and 2,200 mV. -/
theorem test_hyp_BackupEntry : s0.supply.state = .run ∧ (handing .offered none).supply.state = .run
    ∧ (grouped .settling).supply.state = .run := by decide +kernel

theorem test_hyp_SupplyEvents : (supplied .backup true false).supply.state = .backup := by decide +kernel

theorem test_hyp_RetentionFlag : supplyOk (supplied .backup false false)
    ∧ Instr.warmStart ≠ .coldStart ∧ (supplied .backup false false).supply.retention = false := by decide +kernel

theorem test_next_RetentionFlag : ∃ t, exec .warmStart (supplied .backup false false) = .next t := ⟨_, rfl⟩

/-- A checkpoint with numbers at the ends of their ranges. -/
def ckpt (gen : Nat) (unit : Fin 6) : Ckpt :=
  { gen := gen, unit := unit, reason := .hourly, run := #v[3599999999999, 0, 1, 2, 3, 4]
    starts := #v[4294967295, 0, 1, 2, 3], stops := #v[0, 1, 2, 3, 4294967295], trips := 4294967295 }
/-- The record of slot 97 in the scan example (10): unit 3, generation 30,098. -/
def r97 : Ckpt := ckpt 30098 2
/-- The scan example shortened: slot 97 valid, slot 102 torn. -/
def scanned (resetLine : Bool) : State :=
  { supplied .off false resetLine with
    store.slots := ((Vector.replicate 1024 .erased).set 97 (.bytes r97.encode)).set 102 .torn }

theorem check_half : (r97.body.take 43).foldl checkByte 0xFFFF#16 = 0x78C5#16 := by decide +kernel
theorem check_rest : (r97.body.drop 43).foldl checkByte 0x78C5#16 = 0x0AB9#16 := by decide +kernel
theorem check_whole : recordCheck r97.body = 0x0AB9#16 := by
  rw [recordCheck, ← List.take_append_drop 43 r97.body, List.foldl_append, check_half, check_rest]

theorem record_r97 : (Slot.bytes r97.encode).record = some r97 := by
  rw [Ckpt.encode, check_whole, Slot.record, Ckpt.ofBytes, checkAgrees]
  have h : (r97.body ++ be 2 (0x0AB9#16).toNat).take 86 = r97.body := by decide +kernel
  rw [h, check_whole]
  decide +kernel

theorem record_scanned (b : Bool) (i : Fin 1024) :
    (scanned b).store.slots[i].record = if i.val = 97 then some r97 else none := by
  have h1 := record_r97
  simp only [scanned, Fin.getElem_fin, Vector.getElem_set, Vector.getElem_replicate]
  by_cases h : i.val = 97
  · simp [h, h1]
  · by_cases h2 : i.val = 102
    · simp [h2, Slot.record]
    · have : ¬97 = i.val := by omega
      have : ¬102 = i.val := by omega
      simp [*, Slot.record]

theorem test_hyp_ColdStart :
    (∀ b ∈ [true, false], coldStartDue (scanned b) = true ∧ (scanned b).supply.resetLine = b)
    ∧ ((scanned false).store.slots[(97 : Fin 1024)].record = some r97
      ∧ ∀ i : Fin 1024, i ≠ 97 →
        (scanned false).store.slots[i].record.all (fun q => q.unit != r97.unit || q.gen < r97.gen) = true)
    ∧ (∀ i : Fin 1024, (scanned false).store.slots[i].record.all (fun q => q.unit != 0) = true)
    ∧ (∀ i : Fin 1024, i ≠ 97 → (scanned false).store.slots[i].record.all (fun q => q.gen < r97.gen) = true) := by
  have h97 (i : Fin 1024) (h : i ≠ 97) : i.val ≠ 97 := fun e => h (Fin.ext e)
  refine ⟨by decide +kernel, ⟨(record_scanned _ _).trans (if_pos (by decide)), fun i h => ?_⟩, fun i => ?_, fun i h => ?_⟩
  · rw [record_scanned, if_neg (h97 i h), Option.all_none]
  · rw [record_scanned]
    split
    · decide +kernel
    · rw [Option.all_none]
  · rw [record_scanned, if_neg (h97 i h), Option.all_none]

theorem test_hyp_ColdStart_blank : coldStartDue (supplied .off false false) = true
    ∧ ∀ i : Fin 1024, (supplied .off false false).store.slots[i].record = none := by
  refine ⟨by decide +kernel, fun i => ?_⟩
  have h : (supplied .off false false).store.slots = Vector.replicate 1024 .erased := rfl
  rw [h, Fin.getElem_fin, Vector.getElem_replicate, Slot.record]

theorem test_hyp_WarmStart :
    (∀ b ∈ [true, false], warmStartDue (supplied .backup true b) = true ∧ (supplied .backup true b).supply.resetLine = b)
    ∧ (∀ u : Fin 6, (supplied .backup true false).store.flags[u] = none) := by decide +kernel

/-- A part with a checkpoint program of unit 2 in flight, and one with an image program. -/
def writing (e : Engine) : State :=
  { s0 with store := { s0.store with
      engine := e, order := [1, 0], flags := (s0.store.flags.set 1 (some .warm)).set 0 (some .preset) } }

theorem test_hyp_ResetLine :
    (∀ e ∈ [Engine.idle, .checkpoint 1 3 9 .hourly [] ⟨3, 0⟩, .image [1] ⟨hd, 0x19, []⟩ ⟨3, 0⟩],
      (writing e).supply.state = .run ∧ (writing e).supply.resetLine = false)
    ∧ ((supplied .run true true).supply.state = .run ∧ (supplied .run true true).supply.resetLine = true
      ∧ (supplied .run true true).supply.halted = none) := by decide +kernel

/-- A part whose port S NOTICE queue holds `n` frames. -/
def noticed (n : Nat) : State := { s0 with portS := { s0.portS with notice := List.replicate n ⟨plain, false⟩ } }

theorem test_hyp_Restart :
    (let s := { s0 with portS := PortPath.empty };
      commissioned s ∧ (s.port hd.port).tx = none ∧ (s.port hd.port).urgent = [] ∧ (s.port hd.port).notice = []
        ∧ (s.port hd.port).bulk = [] ∧ s.resp.restartDue = false)
    ∧ (commissioned (noticed 15) ∧ ((noticed 15).port hd.port).notice ≠ [] ∧ ((noticed 15).port hd.port).notice.length < 16)
    ∧ (commissioned (noticed 16) ∧ 16 ≤ ((noticed 16).port hd.port).notice.length)
    ∧ (let s := { s0 with resp := { s0.resp with state := .restartPending, restartDue := true } };
      live s = true ∧ s.supply.halted = none ∧ s.resp.state = .restartPending ∧ s.resp.restartDue = true) := by
  decide +kernel

theorem test_hyp_CheckpointProgram :
    (let s := { writing .idle with store.highestGen := 4294967294 };
      live s = true ∧ s.store.engine = .idle ∧ s.store.waiting = none ∧ s.store.order = 1 :: [0]
        ∧ s.store.flags[1] = some .warm ∧ s.store.highestGen < 4294967295)
    ∧ (let s := writing (.checkpoint 1 3 9 .hourly [] ⟨0, 0⟩);
      live s = true ∧ s.store.engine = .checkpoint 1 3 9 .hourly [] ⟨0, 0⟩ ∧ reached ⟨0, 0⟩ s.now = true)
    ∧ (commissioned s0 ∧ ∀ v : Fin 6, s0.store.flags[v] = none)
    ∧ (let s := { s0 with store.flags := Vector.replicate 6 (some .warm) };
      commissioned s ∧ ∀ v : Fin 6, s.store.flags[v].isSome = true) := by decide +kernel

theorem test_hyp_CheckpointRecordRoundTrip : ckptOk (ckpt 1 0) ∧ ckptOk (ckpt 4294967295 5) := by decide +kernel

theorem test_hyp_ImageProgram :
    (commissioned s0 ∧ s0.store.engine = .idle ∧ s0.store.waiting = none)
    ∧ (let s := writing (.checkpoint 1 3 9 .hourly [] ⟨3, 0⟩);
      commissioned s ∧ s.store.engine.code = 1 ∧ s.store.waiting = none)
    ∧ (commissioned (writing (.image [1] ⟨hd, 0x19, []⟩ ⟨3, 0⟩)) ∧ (writing (.image [1] ⟨hd, 0x19, []⟩ ⟨3, 0⟩)).store.engine.code = 2)
    ∧ (let s := { s0 with store.waiting := some ⟨hd, 0x19, []⟩ };
      commissioned s ∧ s.store.waiting.isSome = true ∧ live s = true ∧ s.store.engine = .idle
        ∧ s.store.waiting = some ⟨hd, 0x19, []⟩)
    ∧ (let s := writing (.image [1] ⟨hd, 0x19, []⟩ ⟨0, 0⟩);
      live s = true ∧ s.store.engine = .image [1] ⟨hd, 0x19, []⟩ ⟨0, 0⟩ ∧ reached ⟨0, 0⟩ s.now = true) := by decide +kernel

/-- The defaults with some settings at the ends of their ranges, and a bank with an entry. -/
theorem test_hyp_ImageRoundTrip :
    settingsOk { Settings.default 0 with overdueLen := 240, lapseLen := 1, cal.offset := -56, plausibility := 60000 }
    ∧ (∀ i : Fin 128, carriable banked.cls.active[i] = true) := by decide +kernel

/-- A line between pulses whose decision begins none: in GAP, at rest with a dial at its target or unknown, and a meter at
rest below its next mark; each change of R169 at a bound of its range; the bounds of a whole schedule entry. -/
theorem test_hyp_SetParam_lines :
    (∀ s ∈ [lined .slaveMinute (.gap 5) [], lined .hourMeter .rest [], lined .off .rest [], lined .secondMark .rest []],
      commissioned s ∧ s.lines[1].pulse.wire.isSome = false ∧ s.lines[1].pending = []
        ∧ (s.lines[1].pulse.ends.isSome = true ∨ s.cfg.lines[1].function ≠ .slaveMinute)
        ∧ tallySecs s s.cfg.lines[1].selection < s.lines[1].mark + 36)
    ∧ (0x0870 = 0x0800 + 16 * (7 : Fin 8).val ∧ 4 < 256 ^ 1 ∧ 2001 < 256 ^ 2 ∧ 199 < 256 ^ 2 ∧ 361 < 256 ^ 2
      ∧ 6 = (5 : Fin 6).val + 1 ∧ 31 < 32 ∧ 1 < 2)
    ∧ (4 < (5 : Byte).toNat ∧ 6 < (7 : Byte).toNat ∧ 31 < (32 : Byte).toNat ∧ 1 < (2 : Byte).toNat)
    ∧ (0x033D = 0x0305 + 8 * (7 : Fin 8).val ∧ (1 : Byte).toNat ≤ 1 ∧ 1 < (2 : Byte).toNat ∧ 59 < (60 : Byte).toNat) := by
  decide +kernel

theorem test_hyp_SetParam :
    commissioned s0 ∧ 0x0905 ∈ [0x0000, 0x0905] ∧ (2 ^ 48 - 1 < 2 ^ 48 ∧ (2 ^ 48 - 1) / 2 ^ 40 % 2 = 1)
    ∧ (0xFEFFFFFFFFFF < 2 ^ 48 ∧ 0xFEFFFFFFFFFF / 2 ^ 40 % 2 = 0) ∧ (1 : Byte).toNat ≤ 1 ∧ 1 < (2 : Byte).toNat
    ∧ (let s := lined .secondMark .rest [];
      commissioned s ∧ s.lines[1].pulse = .rest ∧ s.cfg.lines[1].function = .secondMark ∧ s.lines[1].pending = [])
    ∧ (∀ n ∈ [7, 8],
      let s := lined .slaveMinute (.drive .b 5) (List.replicate n (.gap 300));
      commissioned s ∧ s.lines[1].pulse.wire.isSome = true ∧ s.lines[1].pending.length = n)
    ∧ (∀ n ∈ [99999, 100000, 10000000, 10000001], n < 256 ^ 4) ∧ (∀ n ∈ [0, 1, 60000, 60001], n < 256 ^ 2)
    ∧ (∀ n ∈ [0, 12, 13, 255], n < 256 ^ 1)
    ∧ (0x033B = 0x0303 + 8 * (7 : Fin 8).val ∧ 0x0606 = 0x0601 + (5 : Fin 6).val ∧ 0x0616 = 0x0611 + (5 : Fin 6).val)
    ∧ ((127 : Byte).toNat < 128 ∧ 127 < (128 : Byte).toNat ∧ (23 : Byte).toNat ≤ 23 ∧ 23 < (254 : Byte).toNat
      ∧ (254 : Byte).toNat < 255 ∧ (63 : Byte).toNat < 64 ∧ 63 < (64 : Byte).toNat)
    ∧ (∀ tk ∈ [true, false],
      let s := after 3600000 0 (clk .holdover 7 0);
      let s := { s with clock := { s.clock with limitTaken := tk } };
      commissioned s ∧ s.clock.state = .holdover ∧ s.clock.lastMarker = some ⟨0, 0⟩
        ∧ s.cfg.clock.holdLimit * 1000000000 ≤ elapsedNs ⟨0, 0⟩ s.now)
    ∧ (clk .locked 7 0).clock.state ≠ .holdover := by decide +kernel

/-- A stored 2,000 ms is in force as 500 ms on a SECOND_MARK line, and a stored 5 ms as 20 ms on others (R169, R208). -/
theorem test_width_reply :
    (∀ x ∈ [(LineFunction.secondMark, 2000, 500), (.off, 5, 20), (.hourMeter, 700, 700)],
      let t := run (.setParam hd (be 2 0x0811 ++ be 2 x.2.1)) (lined x.1 .rest []);
      t.cfg.lines[1].width = x.2.1
        ∧ t.portS.notice.getLast?.map (fun f => (f.bytes.drop 14).take 8)
          = some ([0, 1, 0x13, 0x00, 0x08, 0x11] ++ be 2 x.2.2)) := by decide +kernel

/-- The event of the old limit is not lost when the limit is changed before it is taken (R15). -/
theorem test_limit_event_kept :
    let s := after 3600000 0 (clk .holdover 7 0);
    (run (.setParam hd (be 2 0x0106 ++ be 4 7200)) s).cnt.clock.holdoverLimit = 1
    ∧ (run (.setParam hd (be 2 0x0106 ++ be 4 60)) s).resp.noticeNo = s.resp.noticeNo + 1 := by decide +kernel

/-- A notice placed at an idle transmitter leaves before the URGENT frame placed after it (R54). -/
theorem test_first_placed_starts :
    let s := { s0 with portS := PortPath.empty };
    let t := place .s .urgent ⟨[2], false⟩ (place .s .notice ⟨[1], false⟩ s);
    t.portS.tx.map (fun x => x.frame.bytes) = some [1] ∧ t.portS.urgent = [⟨[2], false⟩] := by decide +kernel

/-- A line that becomes a slave line at rest takes its target from the local time at once (R173). -/
theorem test_new_slave_line :
    let s := clk .locked 7 0;
    let s := { s with cal := { s.cal with fields := { s.cal.fields with hour := 13, minute := 17 } } };
    (run (.setParam hd [0x08, 0x10, 1]) s).lines[1].target = some 77 := by decide +kernel

/-- The classification of a frame dropped by R51 is due at once (R48). -/
theorem test_refused_at_once :
    dueEvents (doing (work .u (request 1) false) s0) = [.classificationDone]
    ∧ dueEvents (doing (work .u plain false) s0) = [] := by decide +kernel

theorem test_hyp_EngineerNeedsCommission : answering State.reset ∧ State.reset.supply.commission = false := by
  decide +kernel

theorem test_hyp_ReadingRequests : answering (tripping 5 3) ∧ 4294967295 < 2 ^ 32
    ∧ 6 < (7 : Byte).toNat ∧ 11 < (12 : Byte).toNat ∧ 1 < (2 : Byte).toNat := by decide +kernel

/-! The invariants' premises, each in a state away from reset; `test_next_StepKeeps` is their step. -/

theorem test_hyp_StepKeepsClock : clockOk (good3 (clk .acquire 7 999999999)) := by decide +kernel
theorem test_hyp_StepKeepsQueues : queuesOk (receiving 8) ∧ queuesOk (bulky 64) ∧ queuesOk (noticed 16) := by
  decide +kernel
theorem test_hyp_StepKeepsTripsAndGroups : tripsOk (grouped .settling) ∧ groupsOk (grouped .settling) := by
  decide +kernel
theorem test_hyp_StepKeepsUnits : unitsOk hourly := by decide +kernel
theorem test_hyp_StepKeepsShifts : shiftsOk (handing .offered none) ∧ handoverOk (handing .offered none) := by
  decide +kernel
theorem test_hyp_StepKeepsLines : linesOk (lined .slaveMinute (.drive .a 5) (List.replicate 8 (.gap 300))) := by
  decide +kernel
theorem test_hyp_StepKeepsWriter : writerOk (writing .idle) := by decide +kernel

theorem test_next_StepKeeps (s : State) (h : s.pending = [.markerEdge]) : ∃ t, step s = .next t := by
  unfold step
  rw [h]
  exact ⟨_, rfl⟩

end Sys2Proof.Tests
end

section
/-! SUPPORT. What CLASSIFICATION_DONE does with a management frame (R48, R50, R51). -/

namespace Sys2Proof.Proofs

open Sys2Proof Sys2Proof.Machine

/-- The command always succeeds, with the classification in progress carried to its end. -/
theorem exec_classificationDone (s : State) : exec .classificationDone s = .next (classificationDone s) := rfl

/-- A live part classifies the frame in work, the classifier idle from then on (R48). -/
theorem classificationDone_of_work {s : State} {w : Work} (hlive : live s = true) (hwork : s.cls.work = some w) :
    classificationDone s = classifyFrame w { s with cls.work := none } := by
  unfold classificationDone
  rw [hwork]
  exact if_pos hlive

/-- The management test compares destination and type, and nothing else (R50). -/
theorem isManagement_iff (w : Work) :
    isManagement w = true ↔ frameDst w.bytes = w.station ∧ frameType w.bytes = w.mtype := by
  simp [isManagement]

/-- A frame dropped by R51 reaches neither responder nor match bank: its count is all that it leaves. -/
theorem classifyFrame_of_refused {w : Work} (hmgmt : isManagement w = true) (hport : w.port = .u)
    (hoff : w.mgmtU = false) (s : State) :
    classifyFrame w s = s.countPort .u (fun c => { c with mgmtRefused := c.mgmtRefused + 1 }) := by
  unfold classifyFrame
  rw [if_pos hmgmt, if_pos ⟨hport, hoff⟩]

/-- Settles O14: such a frame takes the branch of R51, which counts it and touches nothing else. -/
theorem managementFrameDroppedOnU : Obligations.ManagementFrameDroppedOnU := by
  unfold Obligations.ManagementFrameDroppedOnU
  intro s w hlive hwork hdst htype hport hoff
  have hmgmt : isManagement w = true := (isManagement_iff w).mpr ⟨hdst, htype⟩
  rw [exec_classificationDone, classificationDone_of_work hlive hwork, classifyFrame_of_refused hmgmt hport hoff]
  rfl

end Sys2Proof.Proofs
end

section
/-! SUPPORT. How a trip report is judged against its source slot, and what a repeat and a stale report do (R87, R88). -/

namespace Sys2Proof.Proofs

open Sys2Proof Sys2Proof.Machine Sys2Proof.Safety

/-! ### The judgement -/

/-- A report repeats when its slot is in use and holds its state number (R87). -/
theorem judge_eq_again_iff (x : SourceSlot) (no : BitVec 16) :
    judge x no = .again ↔ x.used = true ∧ x.lastNo = no := by
  have hzero : (no - x.lastNo).toNat = 0 ↔ x.lastNo = no := by bv_omega
  unfold judge
  rw [← hzero]
  cases x.used with
  | false => simp
  | true =>
    dsimp only
    split_ifs <;> simp_all

/-- A report is stale when its state number lies behind the slot's and is no restart's, 0 or 1 (R87). -/
theorem judge_eq_stale_iff (x : SourceSlot) (no : BitVec 16) :
    judge x no = .stale ↔ x.used = true ∧ 32768 ≤ (no - x.lastNo).toNat ∧ 2 ≤ no.toNat := by
  unfold judge
  cases x.used with
  | false => simp
  | true =>
    dsimp only
    split_ifs <;> simp_all <;> omega

/-- The slot of a report's source is in use and holds the report's state number: the report would repeat. -/
def slotHolds (r : TripReport) (s : State) : Prop :=
  s.recorder.slots[r.source].used = true ∧ s.recorder.slots[r.source].lastNo = r.stateNo

theorem tripReport_of_slotHolds {r : TripReport} {s : State} (h : slotHolds r s) :
    tripReport r s = repeatReport r s := by
  unfold tripReport
  rw [(judge_eq_again_iff _ _).mpr h]

theorem tripReport_of_stale {r : TripReport} {s : State}
    (h : judge s.recorder.slots[r.source] r.stateNo = .stale) : tripReport r s = staleReport r s := by
  unfold tripReport
  rw [h]

/-! ### A repeat and a stale report -/

/-- What a repeat leaves in the trip list: the record named, if any, counts one repeat more, saturating (R88). -/
def listRepeated (latest : Option (BitVec 32)) (l : List TripRecord) : List TripRecord :=
  match latest with
  | none => l
  | some q => l.map (fun x => if x.seq = q then { x with repeats := min (x.repeats + 1) 65535 } else x)

theorem repeatReport_eq (r : TripReport) (s : State) :
    repeatReport r s = { s with
      recorder := { s.recorder with
        slots := s.recorder.slots.set r.source
          { s.recorder.slots[r.source] with repeats := s.recorder.slots[r.source].repeats + 1 }
        list := listRepeated s.recorder.slots[r.source].latest s.recorder.list }
      cnt.recorder.repeats := s.cnt.recorder.repeats + 1 } := by
  unfold repeatReport
  cases hlatest : s.recorder.slots[r.source].latest <;> simp only [hlatest] <;> rfl

/-- Counting a repeat neither adds, removes nor renumbers a record. -/
theorem listRepeated_seq (latest : Option (BitVec 32)) (l : List TripRecord) :
    (listRepeated latest l).map TripRecord.seq = l.map TripRecord.seq := by
  cases latest with
  | none => rfl
  | some q =>
    simp only [listRepeated, List.map_map]
    refine List.map_congr_left fun x _ => ?_
    simp only [Function.comp_apply]
    split <;> rfl

theorem only_repeatReport_recorder (r : TripReport) (s : State) :
    Only [.recorder, .nRecorder] s (repeatReport r s) := by
  unfold repeatReport
  extract_lets slot t
  have hcounted : Only [.recorder, .nRecorder] s t :=
    (only_withSlot s _ _).seq (only_countRec _ _) (by decide) (by decide)
  refine hcounted.trans ?_
  split
  · exact (only_set_recorder t _).mono (by decide)
  · exact Only.refl _ t

/-- A repeat leaves its slot holding the same state number. -/
theorem slotHolds_repeatReport {r : TripReport} {s : State} (h : slotHolds r s) :
    slotHolds r (repeatReport r s) := by
  rw [repeatReport_eq]
  simpa [slotHolds] using h

/-! ### The slots after a new record -/

/-- A decision sets the candidate's first-out flag; it changes no source slot. -/
theorem groupDecides_slots (g : Fin 16) (s : State) : (groupDecides g s).recorder.slots = s.recorder.slots := by
  unfold groupDecides
  rw [(only_shiftDecision g _).recorder (by decide), (only_firstOutNotice g _).recorder (by decide)]
  rfl

theorem setFlags_slots (q : BitVec 32) (a e : Bool) (s : State) :
    (setFlags q a e s).recorder.slots = s.recorder.slots := rfl

theorem unmaskedRecord_slots (x : TripRecord) (s : State) :
    (unmaskedRecord x s).recorder.slots = s.recorder.slots := by
  unfold unmaskedRecord
  dsimp only
  cases s.ann[x.group].state with
  | quiet =>
    dsimp only
    split <;> simp [groupDecides_slots, setFlags_slots]
  | settling =>
    dsimp only
    split <;> simp [setFlags_slots]
  | announced => rfl
  | acked => rfl

/-- The annunciation unit sets flags of records; it changes no source slot. -/
theorem groupRecord_slots (x : TripRecord) (s : State) : (groupRecord x s).recorder.slots = s.recorder.slots := by
  unfold groupRecord
  dsimp only
  split
  · rfl
  · rw [unmaskedRecord_slots, withGroup_recorder]

/-- The tally unit changes nothing of the recorder. -/
theorem tallyTrip_recorder (u : Fin 6) (stop : Bool) (s : State) : (tallyTrip u stop s).recorder = s.recorder :=
  (only_tallyTrip u stop s).recorder (by decide)

/-- Handing a record on changes no source slot (R100, R102). -/
theorem handOn_slots (r : TripReport) (x : TripRecord) (s : State) :
    (handOn r x s).recorder.slots = s.recorder.slots := by
  have hnotice (code : Nat) (body : List Byte) (t : State) : (notice code body t).recorder = t.recorder :=
    (only_notice code body t).recorder (by decide)
  have hshift (t : State) : (countShiftTrip x.shiftNo x.late t).recorder = t.recorder :=
    (only_countShiftTrip _ _ t).recorder (by decide)
  unfold handOn
  cases r.kind with
  | trip =>
    cases r.unit with
    | none =>
      simp only [if_true]
      split <;> simp only [hnotice, groupRecord_slots, hshift]
    | some u =>
      simp only [if_true]
      split <;> simp only [hnotice, groupRecord_slots, tallyTrip_recorder, hshift]
  | clear =>
    simp only [reduceCtorEq, if_false]
    split <;> simp only [hnotice]

/-- A slot that took a report holds its state number (R90). -/
theorem slotHolds_of_taken {r : TripReport} {t : State} {slots : Vector SourceSlot 64} {x : SourceSlot}
    {epoch : BitVec 8} {latest : Option (BitVec 32)}
    (h : t.recorder.slots = slots.set r.source (x.taken r.stateNo epoch latest)) : slotHolds r t := by
  simp [slotHolds, h, SourceSlot.taken]

/-- A lost report updates its slot all the same, and no other (R99). -/
theorem loseReport_slots (r : TripReport) (epoch : BitVec 8) (s : State) :
    (loseReport r epoch s).recorder.slots
      = s.recorder.slots.set r.source (s.recorder.slots[r.source].taken r.stateNo epoch none) := by
  unfold loseReport
  cases r.kind <;> cases r.unit <;> simp [groupLost, tallyTrip_recorder]

/-- After a new record or a source restart, placed or lost, the slot holds the report's state number. -/
theorem slotHolds_recordReport (j : Judgement) (r : TripReport) (s : State) :
    slotHolds r (recordReport j r s) := by
  unfold recordReport
  dsimp only
  split
  · exact slotHolds_of_taken (loseReport_slots r _ _)
  · exact slotHolds_of_taken (handOn_slots r _ _)

/-- A report that is not stale leaves its slot holding its state number. -/
theorem slotHolds_tripReport {r : TripReport} {s : State}
    (h : judge s.recorder.slots[r.source] r.stateNo ≠ .stale) : slotHolds r (tripReport r s) := by
  unfold tripReport
  cases hj : judge s.recorder.slots[r.source] r.stateNo with
  | fresh => exact slotHolds_recordReport .fresh r s
  | restarted => exact slotHolds_recordReport .restarted r s
  | again => exact slotHolds_repeatReport ((judge_eq_again_iff _ _).mp hj)
  | stale => exact absurd hj h

/-- Settles O24. The slot alone decides whether a report repeats or is stale; every report that is not stale leaves its
slot holding its state number, so that it is a repeat when it is taken again. -/
theorem repeatedReportMakesNoRecord : Obligations.RepeatedReportMakesNoRecord := by
  unfold Obligations.RepeatedReportMakesNoRecord
  intro r s
  refine ⟨fun hused hno => ?_, fun hused hback hno => ?_, fun hok => ?_⟩
  · exact (tripReport_of_slotHolds ⟨hused, hno⟩).trans (repeatReport_eq r s)
  · exact tripReport_of_stale ((judge_eq_stale_iff _ _).mpr ⟨hused, hback, hno⟩)
  · have hnotStale : judge s.recorder.slots[r.source] r.stateNo ≠ .stale := by
      intro hstale
      obtain ⟨hused, hback, hno⟩ := (judge_eq_stale_iff _ _).mp hstale
      rcases hok with hunused | hahead | hrestart
      · exact absurd (hunused.symm.trans hused) Bool.false_ne_true
      · omega
      · omega
    rw [tripReport_of_slotHolds (slotHolds_tripReport hnotStale)]
    refine ⟨only_repeatReport_recorder r _, ?_, ?_, ?_, ?_⟩
    · rw [repeatReport_eq]
      exact listRepeated_seq _ _
    · rw [repeatReport_eq]
    · simp [repeatReport_eq]
    · rw [repeatReport_eq]

end Sys2Proof.Proofs
end

section
/-! SUPPORT. What an operation keeps: the invariants of the blocks as one relation between the state before and the state
after, which composes, so that each operation is walked through once for all of them. -/

namespace Sys2Proof.Proofs

open Sys2Proof Sys2Proof.Machine Sys2Proof.Safety

/-! ### The relation -/

/-- Every invariant of the blocks other than the clock's that holds of `s` holds of `t`. -/
structure KeepsRest (s t : State) : Prop where
  queues : queuesOk s → queuesOk t
  trips : tripsOk s ∧ groupsOk s → tripsOk t ∧ groupsOk t
  units : unitsOk s → unitsOk t
  shifts : shiftsOk s ∧ handoverOk s → shiftsOk t ∧ handoverOk t
  lines : linesOk s → linesOk t
  writer : writerOk s → writerOk t

/-- Every invariant of the blocks that holds of `s` holds of `t`. -/
structure Keeps (s t : State) : Prop extends KeepsRest s t where
  clock : clockOk s → clockOk t

/-- No run time within its limit is lower in `t` than in `s`, or beyond its limit (R129). -/
def RunsUp (s t : State) : Prop :=
  ∀ u k : Fin 6, s.tally[u].run[k] ≤ Config.runLimit →
    s.tally[u].run[k] ≤ t.tally[u].run[k] ∧ t.tally[u].run[k] ≤ Config.runLimit

/-- What every operation does that neither loses nor presets run times and leaves the supply monitor alone. -/
structure Ordinary (s t : State) : Prop extends Keeps s t where
  supply : t.supply = s.supply
  runs : RunsUp s t

theorem KeepsRest.refl (s : State) : KeepsRest s s := ⟨id, id, id, id, id, id⟩

theorem KeepsRest.trans {s t u : State} (h : KeepsRest s t) (k : KeepsRest t u) : KeepsRest s u :=
  ⟨k.queues ∘ h.queues, k.trips ∘ h.trips, k.units ∘ h.units, k.shifts ∘ h.shifts, k.lines ∘ h.lines,
   k.writer ∘ h.writer⟩

theorem Keeps.refl (s : State) : Keeps s s := ⟨KeepsRest.refl s, id⟩

theorem Keeps.trans {s t u : State} (h : Keeps s t) (k : Keeps t u) : Keeps s u :=
  ⟨h.toKeepsRest.trans k.toKeepsRest, k.clock ∘ h.clock⟩

theorem RunsUp.refl (s : State) : RunsUp s s := fun _ _ h => ⟨le_rfl, h⟩

theorem RunsUp.trans {s t u : State} (h : RunsUp s t) (k : RunsUp t u) : RunsUp s u := fun i j hs =>
  have ht := h i j hs
  have hu := k i j ht.2
  ⟨ht.1.trans hu.1, hu.2⟩

theorem RunsUp.of_eq {s t : State} (h : t.tally = s.tally) : RunsUp s t := by
  unfold RunsUp
  rw [h]
  exact RunsUp.refl s

theorem Ordinary.refl (s : State) : Ordinary s s := ⟨Keeps.refl s, rfl, RunsUp.refl s⟩

theorem Ordinary.trans {s t u : State} (h : Ordinary s t) (k : Ordinary t u) : Ordinary s u :=
  ⟨h.toKeeps.trans k.toKeeps, k.supply.trans h.supply, h.runs.trans k.runs⟩

theorem Ordinary.ite {s t u : State} (b : Prop) [Decidable b] (h : b → Ordinary s t) (k : ¬b → Ordinary s u) :
    Ordinary s (if b then t else u) := by
  split
  · exact h ‹_›
  · exact k ‹_›

theorem Ordinary.foldl {α : Type} (f : State → α → State) (h : ∀ s x, Ordinary s (f s x)) :
    ∀ (xs : List α) (s : State), Ordinary s (xs.foldl f s)
  | [], s => Ordinary.refl s
  | x :: xs, s => (h s x).trans (Ordinary.foldl f h xs (f s x))

/-! ### From a frame -/

/-- The main domain's running depends on the supply monitor alone. -/
theorem live_congr {s t : State} (h : t.supply = s.supply) : live t = live s := by
  unfold live
  rw [h]

theorem anySettling_congr {s t : State} (h : t.ann = s.ann) : anySettling t = anySettling s := by
  unfold anySettling
  rw [h]

/-- An operation with a frame keeps the invariants whose parts the frame does not list; for the others it takes a proof
of its own. -/
theorem KeepsRest.of_only {l : List Part} {s t : State} (h : Only l s t)
    (queues : Part.portU ∈ l ∨ Part.portS ∈ l → queuesOk s → queuesOk t := by
      intro hl; exact absurd hl (by decide))
    (trips : Part.recorder ∈ l ∨ Part.ann ∈ l → tripsOk s ∧ groupsOk s → tripsOk t ∧ groupsOk t := by
      intro hl; exact absurd hl (by decide))
    (units : Part.tally ∈ l → unitsOk s → unitsOk t := by intro hl; exact absurd hl (by decide))
    (shifts : Part.shift ∈ l ∨ Part.ann ∈ l → shiftsOk s ∧ handoverOk s → shiftsOk t ∧ handoverOk t := by
      intro hl; exact absurd hl (by decide))
    (lines : Part.lines ∈ l ∨ Part.cfg ∈ l ∨ Part.clock ∈ l ∨ Part.supply ∈ l → linesOk s → linesOk t := by
      intro hl; exact absurd hl (by decide))
    (writer : Part.store ∈ l ∨ Part.supply ∈ l → writerOk s → writerOk t := by
      intro hl; exact absurd hl (by decide)) : KeepsRest s t where
  queues := by
    by_cases m : Part.portU ∈ l ∨ Part.portS ∈ l
    · exact queues m
    · obtain ⟨mu, ms⟩ := not_or.mp m
      simp only [queuesOk, h.portU mu, h.portS ms, imp_self]
  trips := by
    by_cases m : Part.recorder ∈ l ∨ Part.ann ∈ l
    · exact trips m
    · obtain ⟨mr, ma⟩ := not_or.mp m
      simp only [tripsOk, groupsOk, h.recorder mr, h.ann ma, imp_self]
  units := by
    by_cases m : Part.tally ∈ l
    · exact units m
    · simp only [unitsOk, h.tally m, imp_self]
  shifts := by
    by_cases m : Part.shift ∈ l ∨ Part.ann ∈ l
    · exact shifts m
    · obtain ⟨ms, ma⟩ := not_or.mp m
      simp only [shiftsOk, handoverOk, h.shift ms, anySettling_congr (h.ann ma), imp_self]
  lines := by
    by_cases m : Part.lines ∈ l ∨ Part.cfg ∈ l ∨ Part.clock ∈ l ∨ Part.supply ∈ l
    · exact lines m
    · obtain ⟨ml, mf, mc, ms⟩ := by simpa only [not_or] using m
      simp only [linesOk, h.lines ml, h.cfg mf, h.clock mc, live_congr (h.supply ms), imp_self]
  writer := by
    by_cases m : Part.store ∈ l ∨ Part.supply ∈ l
    · exact writer m
    · obtain ⟨mt, ms⟩ := not_or.mp m
      simp only [writerOk, h.store mt, live_congr (h.supply ms), imp_self]

/-- The same for an ordinary operation. -/
theorem Ordinary.of_only {l : List Part} {s t : State} (h : Only l s t)
    (clock : Part.clock ∈ l → clockOk s → clockOk t := by intro hl; exact absurd hl (by decide))
    (queues : Part.portU ∈ l ∨ Part.portS ∈ l → queuesOk s → queuesOk t := by
      intro hl; exact absurd hl (by decide))
    (trips : Part.recorder ∈ l ∨ Part.ann ∈ l → tripsOk s ∧ groupsOk s → tripsOk t ∧ groupsOk t := by
      intro hl; exact absurd hl (by decide))
    (units : Part.tally ∈ l → unitsOk s → unitsOk t := by intro hl; exact absurd hl (by decide))
    (shifts : Part.shift ∈ l ∨ Part.ann ∈ l → shiftsOk s ∧ handoverOk s → shiftsOk t ∧ handoverOk t := by
      intro hl; exact absurd hl (by decide))
    (lines : Part.lines ∈ l ∨ Part.cfg ∈ l ∨ Part.clock ∈ l ∨ Part.supply ∈ l → linesOk s → linesOk t := by
      intro hl; exact absurd hl (by decide))
    (writer : Part.store ∈ l ∨ Part.supply ∈ l → writerOk s → writerOk t := by
      intro hl; exact absurd hl (by decide))
    (runs : Part.tally ∈ l → RunsUp s t := by intro hl; exact absurd hl (by decide))
    (supply : Part.supply ∉ l := by decide) : Ordinary s t where
  toKeepsRest := KeepsRest.of_only h queues trips units shifts lines writer
  clock := by
    by_cases m : Part.clock ∈ l
    · exact clock m
    · simp only [clockOk, h.clock m, imp_self]
  supply := h.supply supply
  runs := by
    by_cases m : Part.tally ∈ l
    · exact runs m
    · exact RunsUp.of_eq (h.tally m)

/-- The parts that no invariant speaks of. -/
abbrev freeParts : List Part :=
  [.cal, .cls, .resp, .choices, .pending, .nClock, .nCal, .nPortU, .nPortS, .nCls, .nRecorder, .nAnn, .nTally, .nShift,
   .nLines, .nStore, .nResp]

theorem Ordinary.free {l : List Part} {s t : State} (h : Only l s t) (hl : ∀ x ∈ l, x ∈ freeParts := by decide) :
    Ordinary s t := Ordinary.of_only (h.mono hl)

theorem ordinary_choices (s : State) (n : Nat) : Ordinary s { s with choices := n } :=
  Ordinary.free (l := [.choices]) (by constructor <;> intro h <;> first | rfl | exact absurd (by decide) h)

theorem ordinary_pending (s : State) (l : List Instr) : Ordinary s { s with pending := l } :=
  Ordinary.free (l := [.pending]) (by constructor <;> intro h <;> first | rfl | exact absurd (by decide) h)

/-! ### Ports, notices, checkpoint requests -/

/-- Placing a frame at a queue with room keeps it within its capacity (R53). -/
theorem portOk_enqueue {x : PortPath} {c : EgressClass} {f : TxFrame} (h : portOk x)
    (hroom : (x.queue c).length < egressCap c) : portOk (x.withQueue c (x.queue c ++ [f])) := by
  cases c <;>
    simp_all [portOk, PortPath.withQueue, PortPath.queue, egressCap, Config.urgentCap, Config.noticeCap,
      Config.bulkCap]

/-- A port replaced by one within its capacities. -/
theorem queuesOk_withPort {s : State} {p : Port} {x : PortPath} (h : queuesOk s) (hx : portOk (s.port p) → portOk x) :
    queuesOk (s.withPort p x) := by
  cases p
  · exact ⟨hx h.1, h.2⟩
  · exact ⟨h.1, hx h.2⟩

theorem queuesOk_place (p : Port) (c : EgressClass) (f : TxFrame) (s : State) (h : queuesOk s) :
    queuesOk (place p c f s) := by
  obtain ⟨-, e⟩ | ⟨-, hroom, e⟩ | ⟨-, -, e⟩ := place_cases p c f s
  · rw [e]
    exact queuesOk_withPort h id
  · rw [e]
    exact queuesOk_withPort h (fun hp => portOk_enqueue hp (of_decide_eq_true hroom))
  · rw [e]
    cases p <;> exact h

theorem ordinary_place (p : Port) (c : EgressClass) (f : TxFrame) (s : State) : Ordinary s (place p c f s) :=
  Ordinary.of_only (only_place p c f s) (queues := fun _ => queuesOk_place p c f s)

theorem ordinary_withPort (p : Port) (x : PortPath) (s : State) (hx : portOk (s.port p) → portOk x) :
    Ordinary s (s.withPort p x) :=
  Ordinary.of_only (only_withPort s p x) (queues := fun _ h => queuesOk_withPort h hx)

theorem ordinary_notice (code : Nat) (body : List Byte) (s : State) : Ordinary s (notice code body s) := by
  unfold notice
  refine Ordinary.ite _ (fun _ => ?_) (fun _ => Ordinary.refl s)
  exact ((Ordinary.free (only_set_resp s _)).trans (Ordinary.free (only_countResp _ _))).trans (ordinary_place _ _ _ _)

theorem ordinary_reply (r : Request) (a : Answer) (s : State) : Ordinary s (reply r a s) := by
  unfold reply
  split
  · exact (Ordinary.free (only_countResp s _)).trans (ordinary_place _ _ _ _)
  · exact ordinary_place _ _ _ _

/-- A request sets a clear flag and puts its unit at the tail of the order, or leaves both (R192). -/
theorem writerOk_requestCheckpoint (u : Fin 6) (why : Reason) (s : State) (h : writerOk s) :
    writerOk (requestCheckpoint u why s) := by
  unfold requestCheckpoint
  split
  next hclear =>
    obtain ⟨hnodup, hmem, heng, hlive⟩ := h
    have hu : u ∉ s.store.order := by simp [hmem, hclear]
    refine ⟨?_, fun v => ?_, heng, hlive⟩
    · exact hnodup.append (List.nodup_singleton u) (List.disjoint_singleton.mpr hu)
    · by_cases hv : v = u
      · subst hv; simp
      · have hvu : u.val ≠ v.val := fun e => hv (Fin.ext e.symm)
        simpa [hv, Vector.getElem_set, hvu] using hmem v
  next => exact h

theorem ordinary_requestCheckpoint (u : Fin 6) (why : Reason) (s : State) :
    Ordinary s (requestCheckpoint u why s) :=
  Ordinary.of_only (only_requestCheckpoint u why s) (writer := fun _ => writerOk_requestCheckpoint u why s)

theorem ordinary_requestAllCheckpoints (why : Reason) (s : State) : Ordinary s (requestAllCheckpoints why s) :=
  Ordinary.foldl _ (fun s u => ordinary_requestCheckpoint u why s) allUnits s

end Sys2Proof.Proofs
end

section
/-! SUPPORT. The tally unit and the shift unit: crediting, and what their operations keep (07, 08). -/

namespace Sys2Proof.Proofs

open Sys2Proof Sys2Proof.Machine Sys2Proof.Safety

/-- Reading a vector after one place of it was set. -/
theorem getElem_set_fin {α : Type} {n : Nat} (v : Vector α n) (i j : Fin n) (x : α) :
    (v.set i x)[j] = if j = i then x else v[j] := by
  simp only [Fin.getElem_fin, Vector.getElem_set, Fin.ext_iff, eq_comm]

/-! ### Crediting (R128, R129) -/

theorem credit_eq (u : UnitRec) (m : Elapsed) :
    u.credit m = { u with start := m, run := (u.credit m).run, saturated := (u.credit m).saturated } := by
  unfold UnitRec.credit
  split
  · rfl
  · split <;> rfl

@[simp] theorem credit_start (u : UnitRec) (m : Elapsed) : (u.credit m).start = m := by rw [credit_eq]
@[simp] theorem credit_mode (u : UnitRec) (m : Elapsed) : (u.credit m).mode = u.mode := by rw [credit_eq]
@[simp] theorem credit_test (u : UnitRec) (m : Elapsed) : (u.credit m).test = u.test := by rw [credit_eq]
@[simp] theorem credit_starts (u : UnitRec) (m : Elapsed) : (u.credit m).starts = u.starts := by rw [credit_eq]
@[simp] theorem credit_stops (u : UnitRec) (m : Elapsed) : (u.credit m).stops = u.stops := by rw [credit_eq]
@[simp] theorem credit_trips (u : UnitRec) (m : Elapsed) : (u.credit m).trips = u.trips := by rw [credit_eq]
@[simp] theorem credit_hold (u : UnitRec) (m : Elapsed) : (u.credit m).hold = u.hold := by rw [credit_eq]
@[simp] theorem credit_preOutage (u : UnitRec) (m : Elapsed) : (u.credit m).preOutage = u.preOutage := by
  rw [credit_eq]
@[simp] theorem credit_lastCkpt (u : UnitRec) (m : Elapsed) : (u.credit m).lastCkpt = u.lastCkpt := by rw [credit_eq]
@[simp] theorem credit_hourlyAsked (u : UnitRec) (m : Elapsed) : (u.credit m).hourlyAsked = u.hourlyAsked := by
  rw [credit_eq]

/-- Crediting stores each run time at its value of that instant. -/
@[simp] theorem credit_run (u : UnitRec) (m : Elapsed) (k : Fin 6) : (u.credit m).run[k] = u.value m k := by
  unfold UnitRec.credit UnitRec.value
  split
  next h => simp [h]
  next j h =>
    simp only [h, Option.some_inj, eq_comm (a := j)]
    by_cases e : k = j
    · subst e
      split <;> dsimp only <;> rw [getElem_set_fin, if_pos rfl, if_pos rfl] <;> omega
    · split <;> dsimp only <;> rw [getElem_set_fin, if_neg e]

/-- A value lies between the stored run time and the limit. -/
theorem value_bounds (u : UnitRec) (m : Elapsed) (k : Fin 6) (h : u.run[k] ≤ Config.runLimit) :
    u.run[k] ≤ u.value m k ∧ u.value m k ≤ Config.runLimit := by
  unfold UnitRec.value
  split
  · exact ⟨le_min (Nat.le_add_right _ _) h, min_le_right _ _⟩
  · exact ⟨le_rfl, h⟩

theorem creditUnit_tally (i : Fin 6) (s : State) :
    (creditUnit i s).tally = s.tally.set i (s.tally[i].credit s.clock.m) := by
  unfold creditUnit
  dsimp only
  split <;> rfl

/-! ### Units -/

/-- The conditions of one unit (R123, R131, R142). -/
abbrev unitOk (u : UnitRec) : Prop :=
  (u.test = true → u.mode.running.isSome = true) ∧ (u.hold.isSome = true → u.mode = .standstill)
    ∧ (u.preOutage.isSome = true → u.mode = .unknown)

/-- A unit released from its trip hold. -/
theorem unitOk_release {u : UnitRec} (h : unitOk u) : unitOk { u with hold := none } :=
  ⟨h.1, fun e => absurd e Bool.false_ne_true, h.2.2⟩

/-- From `x` to `y` a unit keeps its conditions, and no run time goes down or past its limit. -/
structure UnitMoves (x y : UnitRec) : Prop where
  ok : unitOk x → unitOk y
  run : ∀ k : Fin 6, x.run[k] ≤ Config.runLimit → x.run[k] ≤ y.run[k] ∧ y.run[k] ≤ Config.runLimit

theorem UnitMoves.same_run {x y : UnitRec} (h : y.run = x.run) (ok : unitOk x → unitOk y) : UnitMoves x y :=
  ⟨ok, fun k hk => by rw [h]; exact ⟨le_rfl, hk⟩⟩

/-- A unit whose run times are credited, whatever its mode becomes. -/
theorem UnitMoves.credited {x y : UnitRec} {m : Elapsed} (h : y.run = (x.credit m).run) (ok : unitOk x → unitOk y) :
    UnitMoves x y :=
  ⟨ok, fun k hk => by rw [h, credit_run]; exact value_bounds x m k hk⟩

theorem UnitMoves.credit (x : UnitRec) (m : Elapsed) : UnitMoves x (x.credit m) :=
  .credited rfl (fun h => by simpa [unitOk] using h)

theorem UnitMoves.change (x : UnitRec) (m : Elapsed) (mode : Mode) (test : Bool)
    (htest : test = true → mode.running.isSome = true) (hhold : x.hold = none) : UnitMoves x (x.change m mode test) := by
  refine .credited (m := m) rfl (fun h => ⟨htest, ?_, ?_⟩)
  · simp [UnitRec.change, hhold]
  · intro hp
    have hp' : (if x.mode = .unknown then none else x.preOutage).isSome = true := hp
    split at hp'
    · cases hp'
    · exact absurd (h.2.2 hp') ‹_›

theorem UnitMoves.tripStop (x : UnitRec) (m : Elapsed) (n : Nat) (k : Fin 5) (hk : x.mode.running = some k) :
    UnitMoves x (x.tripStop m n k) := by
  refine .credited (m := m) rfl (fun h => ⟨fun e => absurd e Bool.false_ne_true, fun _ => rfl, fun hp => ?_⟩)
  have hp' : x.preOutage.isSome = true := by simpa [UnitRec.tripStop] using hp
  rw [h.2.2 hp'] at hk
  cases hk

/-- One unit of the tally unit moves, and no other. -/
theorem ordinary_unit {l : List Part} {s t : State} {i : Fin 6} {u : UnitRec} (h : Only l s t)
    (ht : t.tally = s.tally.set i u) (hu : UnitMoves s.tally[i] u)
    (hl : ∀ x ∈ l, x ∈ Part.tally :: freeParts := by decide) : Ordinary s t := by
  refine Ordinary.of_only (h.mono hl) (units := fun _ hs v => ?_) (runs := fun _ v k hk => ?_)
  · rw [ht, getElem_set_fin]
    split
    · exact hu.ok (hs i)
    · exact hs v
  · rw [ht, getElem_set_fin]
    split
    · next e => exact e ▸ hu.run k (e ▸ hk)
    · exact ⟨le_rfl, hk⟩

theorem ordinary_withUnit (i : Fin 6) (u : UnitRec) (s : State) (hu : UnitMoves s.tally[i] u) :
    Ordinary s (s.withUnit i u) := ordinary_unit (only_withUnit s i u) rfl hu

theorem ordinary_creditUnit (i : Fin 6) (s : State) : Ordinary s (creditUnit i s) :=
  ordinary_unit (only_creditUnit i s) (creditUnit_tally i s) (UnitMoves.credit _ _)

theorem ordinary_creditAll (s : State) : Ordinary s (creditAll s) :=
  Ordinary.foldl _ (fun s i => ordinary_creditUnit i s) allUnits s

/-- A unit is credited and then stored as a change or a trip stop makes it. -/
theorem ordinary_creditThen (i : Fin 6) (u : UnitRec) (s : State) (hu : UnitMoves s.tally[i] u) :
    Ordinary s ((creditUnit i s).withUnit i u) :=
  ordinary_unit ((only_creditUnit i s).seq (only_withUnit _ i u) (l := creditParts) (by decide) (by decide))
    (by simp [creditUnit_tally]) hu

theorem ordinary_askHourly (i : Fin 6) (s : State) : Ordinary s (askHourly i s) := by
  unfold askHourly
  refine Ordinary.trans ?_ (ordinary_requestCheckpoint _ _ _)
  exact (ordinary_withUnit i { s.tally[i] with hourlyAsked := true } s (.same_run rfl id)).trans
    (Ordinary.free (only_countTally _ _))

theorem ordinary_unitChange (i : Fin 6) (mode : Mode) (test : Bool) (t : Stamp) (s : State)
    (htest : test = true → mode.running.isSome = true) (hhold : s.tally[i].hold = none) :
    Ordinary s (unitChange i mode test t s) := by
  unfold unitChange
  extract_lets u u' s1 credited resumed s2 s3 s4
  have h1 : Ordinary s s1 := ordinary_creditThen i u' s (UnitMoves.change _ _ _ _ htest hhold)
  have h4 : Ordinary s s4 :=
    ((h1.trans (ordinary_notice _ _ _)).trans (ordinary_requestCheckpoint i .modeEnd s2)).trans
      (Ordinary.free (only_countTally s3 _))
  exact h4.trans (Ordinary.ite _ (fun _ => ordinary_askHourly i s4) (fun _ => Ordinary.refl _))

theorem ordinary_unitReport (i : Fin 6) (mode : Mode) (test : Bool) (t : Stamp) (s : State) :
    Ordinary s (unitReport i mode test t s) := by
  unfold unitReport
  extract_lets s1 u test'
  have h1 : Ordinary s s1 := Ordinary.free (only_countTally s _)
  refine h1.trans ?_
  split
  next =>
    refine Ordinary.ite _ (fun _ => Ordinary.free (only_countTally s1 _)) (fun _ => ?_)
    refine Ordinary.trans ?_ (Ordinary.free (only_countTally _ _))
    exact ordinary_withUnit i { u with hold := none } s1
      (.same_run rfl unitOk_release)
  next hhold =>
    refine Ordinary.ite _ (fun _ => Ordinary.free (only_countTally s1 _)) (fun _ => ?_)
    exact ordinary_unitChange i mode test' t s1 (fun h => (Bool.and_eq_true_iff.mp h).2)
      (Option.not_isSome_iff_eq_none.mp hhold)

theorem ordinary_tripStop (i : Fin 6) (s : State) : Ordinary s (tripStop i s) := by
  unfold tripStop
  dsimp only
  split
  · exact Ordinary.free (only_countTally s _)
  next k hk =>
    exact ((ordinary_creditThen i _ s (UnitMoves.tripStop _ _ _ k hk)).trans (ordinary_requestCheckpoint i _ _)).trans
      (Ordinary.free (only_countTally _ _))

theorem ordinary_tallyTrip (i : Fin 6) (stop : Bool) (s : State) : Ordinary s (tallyTrip i stop s) :=
  (ordinary_withUnit i { s.tally[i] with trips := satInc s.tally[i].trips } s (.same_run rfl id)).trans
    (Ordinary.ite _ (fun _ => ordinary_tripStop i _) (fun _ => Ordinary.refl _))

theorem ordinary_endTripHold (i : Fin 6) (s : State) : Ordinary s (endTripHold i s) :=
  ordinary_withUnit i _ s (.same_run rfl unitOk_release)

theorem ordinary_checkpointSnapshot (i : Fin 6) (s : State) : Ordinary s (checkpointSnapshot i s) :=
  (ordinary_creditUnit i s).trans (ordinary_withUnit i _ _ (.same_run rfl id))

/-! ### The shift unit -/

/-- The shift unit's own part changes. -/
theorem ordinary_setShift (s : State) (u : ShiftUnit)
    (h : shiftsOk s ∧ handoverOk s → shiftsOk { s with shift := u } ∧ handoverOk { s with shift := u }) :
    Ordinary s { s with shift := u } :=
  Ordinary.of_only (only_set_shift s u) (shifts := fun _ => h)

/-- The handover in progress changes, and no shift record. -/
theorem ordinary_setHandover (s : State) (u : ShiftUnit) (hlist : u.list = s.shift.list)
    (hopen : u.openRec.number = s.shift.openRec.number) (h : handoverOk s → handoverOk { s with shift := u }) :
    Ordinary s { s with shift := u } :=
  ordinary_setShift s u (fun hs => ⟨by simpa only [shiftsOk, hlist, hopen] using hs.1, h hs.2⟩)

theorem ordinary_handoverNotice (ev : HandoverEvent) (rep : Option HeldAccept) (s : State) :
    Ordinary s (handoverNotice ev rep s) := ordinary_notice _ _ s

/-- The handover in progress changes and a notice says so. -/
theorem ordinary_shiftNotice (ev : HandoverEvent) (rep : Option HeldAccept) (s : State) (u : ShiftUnit)
    (hlist : u.list = s.shift.list) (hopen : u.openRec.number = s.shift.openRec.number)
    (h : handoverOk s → handoverOk { s with shift := u }) :
    Ordinary s (handoverNotice ev rep { s with shift := u }) :=
  (ordinary_setHandover s u hlist hopen h).trans (ordinary_handoverNotice _ _ _)

/-- No lapse deadline stands outside OFFERED. -/
theorem lapseAt_eq_none_of_handoverOk {s : State} (h : handoverOk s) (hs : s.shift.state ≠ .offered) :
    s.shift.lapseAt = none := by
  cases hl : s.shift.lapseAt with
  | none => rfl
  | some d => exact absurd (h.2.2.2.1 (by rw [hl]; rfl)) hs

theorem ordinary_shiftWarning (e : Fin 8) (crew : Nat) (s : State) : Ordinary s (shiftWarning e crew s) := by
  unfold shiftWarning
  refine Ordinary.ite _ (fun hstate => ?_) (fun _ => Ordinary.refl s)
  refine ordinary_shiftNotice _ _ s _ rfl rfl (fun h => ?_)
  have hlapse := lapseAt_eq_none_of_handoverOk h (by simp [hstate])
  have hpair : s.shift.expected.isSome = s.shift.window.isSome := h.2.2.2.2.1
  simp_all [handoverOk]

theorem ordinary_shiftDue (e : Fin 8) (crew : Nat) (s : State) : Ordinary s (shiftDue e crew s) := by
  unfold shiftDue
  dsimp only
  split
  next hstate =>
    refine ordinary_shiftNotice _ _ s _ rfl rfl (fun h => ?_)
    have hlapse := lapseAt_eq_none_of_handoverOk h (by simp [hstate])
    simp_all [handoverOk, ShiftUnit.opensWindow]
  next hstate =>
    refine ordinary_shiftNotice _ _ s _ rfl rfl (fun h => ?_)
    have hlapse := lapseAt_eq_none_of_handoverOk h (by simp [hstate])
    simp_all [handoverOk, ShiftUnit.opensWindow]
  next hstate =>
    refine ordinary_shiftNotice _ _ s _ rfl rfl (fun h => ?_)
    simp_all [handoverOk, ShiftUnit.replacesCrew]
  next hstate =>
    refine Ordinary.ite _ (fun _ => ?_) (fun _ => ?_)
    · refine ordinary_shiftNotice _ _ s _ rfl rfl (fun h => ?_)
      simp_all [handoverOk, ShiftUnit.replacesCrew]
    · refine ordinary_shiftNotice _ _ s _ rfl rfl (fun h => ?_)
      simp_all [handoverOk, ShiftUnit.opensWindow]
  next => exact Ordinary.refl s

theorem ordinary_shiftOffer (r : HeldAccept) (s : State) : Ordinary s (shiftOffer r s) := by
  have misfit : Ordinary s (s.countShift (fun c => { c with crewMisfit := c.crewMisfit + 1 })) :=
    Ordinary.free (only_countShift s _)
  unfold shiftOffer
  dsimp only
  split
  next hstate =>
    refine Ordinary.ite _ (fun _ => ordinary_shiftNotice _ _ s _ rfl rfl (fun h => ?_)) (fun _ => misfit)
    simp_all [handoverOk]
  next hstate =>
    refine Ordinary.ite _ (fun _ => ordinary_shiftNotice _ _ s _ rfl rfl (fun h => ?_)) (fun _ => misfit)
    simp_all [handoverOk]
  next hstate =>
    refine Ordinary.ite _ (fun _ => ordinary_shiftNotice _ _ s _ rfl rfl (fun h => ?_)) (fun _ => misfit)
    simp_all [handoverOk]
  next => exact Ordinary.refl s
  next => exact Ordinary.refl s

/-- Back in ON_SHIFT nothing of a handover is in progress (R148). -/
theorem handoverOk_cleared (s : State) (u : ShiftUnit) (o : OpenShift) (l : List ClosedShift) :
    handoverOk { s with shift := { u.cleared with openRec := o, list := l } } := by
  simp [handoverOk, ShiftUnit.cleared]

/-- An offer that ends leaves a handover that is waited for, or none (R154). -/
theorem handoverOk_offerEnds {s : State} (h : handoverOk s) : handoverOk { s with shift := s.shift.offerEnds } := by
  unfold ShiftUnit.offerEnds
  split
  · simp_all [handoverOk]
  · exact handoverOk_cleared s s.shift s.shift.openRec s.shift.list

theorem offerEnds_list (u : ShiftUnit) : u.offerEnds.list = u.list ∧ u.offerEnds.openRec = u.openRec := by
  unfold ShiftUnit.offerEnds
  split <;> exact ⟨rfl, rfl⟩

theorem ordinary_offerEnds (s : State) : Ordinary s { s with shift := s.shift.offerEnds } :=
  ordinary_setHandover s _ (offerEnds_list _).1 (congrArg _ (offerEnds_list _).2) handoverOk_offerEnds

theorem ordinary_endOffer (ev : HandoverEvent) (valid : Bool) (count : ShiftCnt → ShiftCnt) (r : HeldAccept)
    (s : State) : Ordinary s (endOffer ev valid count r s) := by
  unfold endOffer
  refine Ordinary.ite _ (fun _ => Ordinary.ite _ (fun _ => ?_) (fun _ => ?_)) (fun _ => Ordinary.refl s)
  · exact ((ordinary_offerEnds s).trans (Ordinary.free (only_countShift _ count))).trans
      (ordinary_handoverNotice _ _ _)
  · exact Ordinary.free (only_countShift s _)

theorem ordinary_overdueExpires (s : State) : Ordinary s (overdueExpires s) := by
  unfold overdueExpires
  refine Ordinary.trans (Ordinary.trans ?_ (Ordinary.free (only_countShift _ _))) (ordinary_handoverNotice _ _ _)
  exact ordinary_setHandover s { s.shift with overdueAt := none, overdue := true } rfl rfl id

theorem ordinary_offerLapses (s : State) : Ordinary s (offerLapses s) :=
  ((ordinary_offerEnds s).trans (Ordinary.free (only_countShift _ _))).trans (ordinary_handoverNotice _ _ _)

theorem ordinary_restartHandoverTimer (s : State) : Ordinary s (restartHandoverTimer s) :=
  Ordinary.ite _ (fun _ => ordinary_setHandover s _ rfl rfl id) (fun _ => Ordinary.refl s)

/-- Counting a trip changes no shift number. -/
theorem ordinary_countShiftTrip (no : Nat) (late : Bool) (s : State) : Ordinary s (countShiftTrip no late s) := by
  unfold countShiftTrip
  refine Ordinary.ite _ (fun _ => ordinary_setHandover s _ rfl rfl id) (fun _ => ?_)
  refine ordinary_setShift s _ (fun ⟨⟨hlen, hsorted, hlast⟩, hh⟩ => ⟨⟨by simpa using hlen, ?_, ?_⟩, hh⟩)
  · rw [List.map_map]
    convert hsorted using 2
    funext c
    simp only [Function.comp_apply]
    split <;> rfl
  · rw [List.getLast?_map]
    cases hl : s.shift.list.getLast? with
    | none => rfl
    | some c =>
      rw [hl] at hlast
      simp only [Option.map_some, Option.all_some] at hlast ⊢
      split <;> exact hlast

/-! ### Completion (R146, R158) -/

theorem shiftsOk_congr {s t : State} (h : t.shift = s.shift) (hs : shiftsOk s) : shiftsOk t := by
  unfold shiftsOk
  rw [h]
  exact hs

/-- The shift list with a record at its tail that follows those it holds. -/
theorem shiftsOk_pushClosed {s : State} {c : ClosedShift} {o : OpenShift} (u : ShiftUnit) (h : shiftsOk s)
    (hc : c.base = s.shift.openRec) (ho : o.number = s.shift.openRec.number + 1) :
    shiftsOk { s with shift := { u with openRec := o, list := pushClosed s.shift.list c } } := by
  obtain ⟨hlen, hsorted, hlast⟩ := h
  have hbelow : ∀ x ∈ s.shift.list, x.base.number < s.shift.openRec.number := by
    intro x hx
    obtain ⟨l, y, hl⟩ : ∃ l y, s.shift.list = l ++ [y] :=
      ⟨_, _, (List.dropLast_append_getLast (List.ne_nil_of_mem hx)).symm⟩
    rw [hl] at hx hsorted hlast
    have hy : y.base.number + 1 = s.shift.openRec.number := by simpa using hlast
    rw [List.map_append, List.pairwise_append] at hsorted
    rcases List.mem_append.mp hx with hx | hx
    · have := hsorted.2.2 x.base.number (List.mem_map_of_mem hx) y.base.number (by simp)
      omega
    · rw [List.mem_singleton.mp hx]
      omega
  have hpush (l : List ClosedShift) (hl : l.Sublist s.shift.list) (hn : l.length ≤ 15) :
      shiftsOk { s with shift := { u with openRec := o, list := l ++ [c] } } := by
    refine ⟨by simp; omega, ?_, by simp [hc, ho]⟩
    rw [List.map_append, List.pairwise_append]
    refine ⟨hsorted.sublist (hl.map _), by simp, fun a ha b hb => ?_⟩
    obtain ⟨x, hx, rfl⟩ := List.mem_map.mp ha
    have hb' : b = s.shift.openRec.number := by simpa [hc] using hb
    exact hb' ▸ hbelow x (hl.subset hx)
  unfold pushClosed
  split
  next hroom => exact hpush _ (List.Sublist.refl _) (Nat.le_of_lt_succ hroom)
  next hfull =>
    refine hpush _ (List.tail_sublist _) ?_
    rw [List.length_tail]
    omega

/-- A completion leaves no handover in progress, whatever stood before it (R158). -/
theorem complete_shifts (ev : HandoverEvent) (closing : Stamp) (crew : Nat) (incoming : Option (BitVec 16))
    (rep : Option HeldAccept) (s : State) (h : shiftsOk s) :
    shiftsOk (complete ev closing crew incoming rep s) ∧ handoverOk (complete ev closing crew incoming rep s) := by
  unfold complete
  extract_lets s1 vals handed c o u s2 s3 s4
  have h1 : shiftsOk s1 := shiftsOk_congr ((only_creditAll s).shift (by decide)) h
  have h2 : shiftsOk s2 ∧ handoverOk s2 :=
    ⟨shiftsOk_pushClosed s1.shift.cleared h1 rfl rfl, handoverOk_cleared s1 s1.shift o _⟩
  have htail : Ordinary s2 (s4.countShift (fun k => { k with completed := k.completed + 1 })) :=
    ((ordinary_requestAllCheckpoints _ s2).trans (ordinary_notice _ _ s3)).trans (Ordinary.free (only_countShift s4 _))
  exact htail.shifts h2

theorem completeAccept_shifts (r : HeldAccept) (s : State) (h : shiftsOk s) :
    shiftsOk (completeAccept r s) ∧ handoverOk (completeAccept r s) := by
  unfold completeAccept
  exact complete_shifts _ _ _ _ _ s h

theorem ordinary_complete (ev : HandoverEvent) (closing : Stamp) (crew : Nat) (incoming : Option (BitVec 16))
    (rep : Option HeldAccept) (s : State) : Ordinary s (complete ev closing crew incoming rep s) := by
  unfold complete
  extract_lets s1 vals handed c o u s2 s3 s4
  have h1 : Ordinary s s1 := ordinary_creditAll s
  have h2 : Ordinary s1 s2 := ordinary_setShift s1 _
    (fun h => ⟨shiftsOk_pushClosed s1.shift.cleared h.1 rfl rfl, handoverOk_cleared s1 s1.shift o _⟩)
  exact (((h1.trans h2).trans (ordinary_requestAllCheckpoints _ s2)).trans (ordinary_notice _ _ s3)).trans
    (Ordinary.free (only_countShift s4 _))

theorem ordinary_completeAccept (r : HeldAccept) (s : State) : Ordinary s (completeAccept r s) :=
  ordinary_complete _ _ _ _ _ s

theorem ordinary_shiftAccept (r : HeldAccept) (s : State) : Ordinary s (shiftAccept r s) := by
  unfold shiftAccept
  split
  next hstate =>
    refine Ordinary.ite _ (fun _ => Ordinary.ite _ (fun hsettling => ?_) (fun _ => ordinary_completeAccept r s))
      (fun _ => Ordinary.free (only_countShift s _))
    refine Ordinary.trans (Ordinary.trans ?_ (Ordinary.free (only_countShift _ _))) (ordinary_handoverNotice _ _ _)
    refine ordinary_setHandover s { s.shift with accept := some r, lapseAt := none, state := .acceptHeld } rfl rfl
      (fun h => ?_)
    have hs : anySettling { s with
      shift := { s.shift with accept := some r, lapseAt := none, state := .acceptHeld } } = true := hsettling
    simp_all [handoverOk]
  next => exact Ordinary.refl s
  next => exact Ordinary.free (only_countShift s _)
  next => exact Ordinary.free (only_countShift s _)
  next => exact Ordinary.free (only_countShift s _)

theorem ordinary_handoverReport (v : Verb) (r : HeldAccept) (s : State) : Ordinary s (handoverReport v r s) := by
  cases v with
  | offer => exact ordinary_shiftOffer r s
  | accept => exact ordinary_shiftAccept r s
  | decline => exact ordinary_endOffer _ _ _ r s
  | withdraw => exact ordinary_endOffer _ _ _ r s

/-- A decision lets a held accept complete once no group settles, so that what it leaves held is held rightly (R157). -/
theorem shiftDecision_shifts (g : Fin 16) (s : State) (h : shiftsOk s)
    (hh : s.shift.state ≠ .acceptHeld → handoverOk s) (ha : s.shift.state = .acceptHeld → s.shift.accept.isSome = true)
    (hk : s.shift.state = .acceptHeld → anySettling s = true → handoverOk s) :
    shiftsOk (shiftDecision g s) ∧ handoverOk (shiftDecision g s) := by
  unfold shiftDecision
  extract_lets u o s1
  split
  next r hstate _ =>
    split
    next hsettling => exact ⟨h, hk hstate hsettling⟩
    next => exact completeAccept_shifts r s1 h
  next hother =>
    have hstate : s.shift.state ≠ .acceptHeld := by
      intro hstate
      obtain ⟨r, hr⟩ := Option.isSome_iff_exists.mp (ha hstate)
      exact hother r hstate hr
    exact ⟨h, hh hstate⟩

theorem ordinary_shiftDecision (g : Fin 16) (s : State) : Ordinary s (shiftDecision g s) := by
  unfold shiftDecision
  extract_lets u o s1
  have h1 : Ordinary s s1 := ordinary_setHandover s _ rfl rfl id
  split
  · exact h1.trans (Ordinary.ite _ (fun _ => Ordinary.refl _) (fun _ => ordinary_completeAccept _ s1))
  · exact h1

end Sys2Proof.Proofs
end

section
/-! SUPPORT. The annunciation unit and the trip recorder: what their operations keep (05, 06). -/

namespace Sys2Proof.Proofs

open Sys2Proof Sys2Proof.Machine Sys2Proof.Safety

/-! ### Records and groups -/

/-- A change of a record that leaves what the trip list is ordered and searched by. -/
structure KeepsRecord (f : TripRecord → TripRecord) : Prop where
  seq : ∀ x, (f x).seq = x.seq
  source : ∀ x, (f x).source = x.source
  stateNo : ∀ x, (f x).stateNo = x.stateNo
  restart : ∀ x, (f x).restart = x.restart

/-- Changing some records only. -/
theorem KeepsRecord.ite {f : TripRecord → TripRecord} (h : KeepsRecord f) (p : TripRecord → Prop) [DecidablePred p] :
    KeepsRecord (fun x => if p x then f x else x) := by
  constructor <;> intro x <;> split
  · exact h.seq x
  · rfl
  · exact h.source x
  · rfl
  · exact h.stateNo x
  · rfl
  · exact h.restart x
  · rfl

theorem findRecord_map {f : TripRecord → TripRecord} (h : KeepsRecord f) (q : BitVec 32) (l : List TripRecord) :
    findRecord q (l.map f) = (findRecord q l).map f := by
  unfold findRecord
  rw [List.find?_map]
  congr 1
  exact congrArg (fun p => List.find? p l) (funext fun x => by simp [h.seq x])

/-- The conditions of one group over the trip list (06, table of items; R98). -/
abbrev groupOk (x : Group) (l : List TripRecord) : Prop :=
  (x.deadline.isSome = true ↔ x.state = .settling) ∧ (x.ref.isSome = true ↔ x.state ≠ .quiet)
    ∧ x.ref.all (fun q => (findRecord q l).isSome) = true

/-- A group stays as it is while the list keeps the record it refers to. -/
theorem groupOk_of_list {x : Group} {l k : List TripRecord} (h : groupOk x l)
    (hk : ∀ q, x.ref = some q → (findRecord q l).isSome = true → (findRecord q k).isSome = true) : groupOk x k := by
  refine ⟨h.1, h.2.1, ?_⟩
  cases hr : x.ref with
  | none => rfl
  | some q =>
    have hq := h.2.2
    rw [hr] at hq
    exact hk q hr hq

theorem anySettling_iff (s : State) : anySettling s = true ↔ ∃ g : Fin 16, s.ann[g].state = .settling := by
  unfold anySettling
  simp only [List.any_eq_true, Vector.mem_toList_iff, beq_iff_eq]
  constructor
  · rintro ⟨x, hx, hs⟩
    obtain ⟨i, hi, rfl⟩ := Vector.getElem_of_mem hx
    exact ⟨⟨i, hi⟩, hs⟩
  · rintro ⟨g, hs⟩
    exact ⟨s.ann[g], Vector.getElem_mem _, hs⟩

/-- The handover in progress stands while the groups that settle do. -/
theorem shifts_of_settling {s t : State} (hs : t.shift = s.shift) (ha : anySettling s = true → anySettling t = true)
    (h : shiftsOk s ∧ handoverOk s) : shiftsOk t ∧ handoverOk t := by
  refine ⟨shiftsOk_congr hs h.1, ?_⟩
  obtain ⟨hoffer, haccept, hsettle, hrest⟩ := h.2
  unfold handoverOk
  rw [hs]
  exact ⟨hoffer, haccept, fun e => ha (hsettle e), hrest⟩

/-- A change of records that keeps the list in order. -/
theorem ordinary_mapRecords (f : TripRecord → TripRecord) (s : State) (h : KeepsRecord f) :
    Ordinary s { s with recorder.list := s.recorder.list.map f } := by
  refine Ordinary.of_only (only_set_recorder s _) (trips := fun _ ⟨⟨hlen, hseq, hpair⟩, hg⟩ => ⟨⟨?_, hseq, ?_⟩, ?_⟩)
  · simpa using hlen
  · rw [List.pairwise_map]
    exact hpair.imp (fun hxy => by simpa only [h.source, h.stateNo, h.restart] using hxy)
  · exact fun g => groupOk_of_list (hg g) (fun q _ hq => by simpa [findRecord_map h] using hq)

theorem ordinary_updRecord (q : BitVec 32) (f : TripRecord → TripRecord) (s : State) (h : KeepsRecord f) :
    Ordinary s { s with recorder.list := updRecord q f s.recorder.list } :=
  ordinary_mapRecords _ s (h.ite (fun x => x.seq = q))

theorem findRecord_updRecord {f : TripRecord → TripRecord} (h : KeepsRecord f) (p q : BitVec 32)
    (l : List TripRecord) : (findRecord p (updRecord q f l)).isSome = (findRecord p l).isSome := by
  unfold updRecord
  rw [findRecord_map (h.ite (fun x => x.seq = q)), Option.isSome_map]

theorem keepsRecord_flags (a e : Bool) : KeepsRecord (fun r => { r with acked := a, earlier := e }) :=
  ⟨fun _ => rfl, fun _ => rfl, fun _ => rfl, fun _ => rfl⟩

theorem keepsRecord_firstOut : KeepsRecord (fun r => { r with firstOut := true }) :=
  ⟨fun _ => rfl, fun _ => rfl, fun _ => rfl, fun _ => rfl⟩

theorem ordinary_setFlags (q : BitVec 32) (a e : Bool) (s : State) : Ordinary s (setFlags q a e s) :=
  ordinary_updRecord q _ s (keepsRecord_flags a e)

/-- A group that settles stays among those that do, unless it is the one replaced. -/
theorem anySettling_withGroup {g : Fin 16} {x : Group} {s : State}
    (hx : s.ann[g].state = .settling → x.state = .settling) (h : anySettling s = true) :
    anySettling (s.withGroup g x) = true := by
  obtain ⟨j, hj⟩ := (anySettling_iff s).mp h
  refine (anySettling_iff _).mpr ⟨j, ?_⟩
  rw [withGroup_ann, getElem_set_fin]
  split
  · next e => exact hx (e ▸ hj)
  · exact hj

/-- One group replaced by another that is in order. -/
theorem groupsOk_withGroup {g : Fin 16} {x : Group} {s : State} (h : groupsOk s)
    (hx : groupOk s.ann[g] s.recorder.list → groupOk x s.recorder.list) : groupsOk (s.withGroup g x) := by
  intro j
  rw [withGroup_ann, getElem_set_fin]
  split
  · exact hx (h g)
  · exact h j

theorem ordinary_withGroup (g : Fin 16) (x : Group) (s : State)
    (hx : groupOk s.ann[g] s.recorder.list → groupOk x s.recorder.list)
    (hset : s.ann[g].state = .settling → x.state = .settling) : Ordinary s (s.withGroup g x) :=
  Ordinary.of_only (only_withGroup s g x) (trips := fun _ h => ⟨h.1, groupsOk_withGroup h.2 hx⟩)
    (shifts := fun _ => shifts_of_settling rfl (anySettling_withGroup hset))

/-! ### The decision (R111) -/

theorem decideGroup_ann (g : Fin 16) (s : State) :
    (decideGroup g s).ann = s.ann.set g { s.ann[g] with state := .announced, deadline := none } := rfl

theorem ordinary_firstOutNotice (g : Fin 16) (s : State) : Ordinary s (firstOutNotice g s) := by
  unfold firstOutNotice
  split
  · exact ordinary_notice _ _ s
  · exact Ordinary.refl s

/-- A decision announces the group's candidate and changes no other group. -/
theorem decideGroup_trips {g : Fin 16} {s : State} {q : BitVec 32} (h : tripsOk s)
    (hg : ∀ j, j ≠ g → groupOk s.ann[j] s.recorder.list) (hq : s.ann[g].ref = some q)
    (hfound : (findRecord q s.recorder.list).isSome = true) : tripsOk (decideGroup g s) ∧ groupsOk (decideGroup g s) := by
  have hlist : (decideGroup g s).recorder.list = updRecord q (fun r => { r with firstOut := true }) s.recorder.list := by
    unfold decideGroup
    dsimp only
    rw [hq]
    rfl
  have htrips : tripsOk (decideGroup g s) := by
    obtain ⟨hlen, hseq, hpair⟩ := h
    have hkeep := keepsRecord_firstOut.ite (fun x => x.seq = q)
    refine ⟨?_, hseq, ?_⟩
    · rw [hlist]
      simpa [updRecord] using hlen
    · rw [hlist]
      unfold updRecord
      rw [List.pairwise_map]
      exact hpair.imp (fun hxy => by simpa only [hkeep.source, hkeep.stateNo, hkeep.restart] using hxy)
  refine ⟨htrips, fun j => ?_⟩
  rw [hlist, decideGroup_ann, getElem_set_fin]
  split
  · dsimp only
    rw [hq]
    exact ⟨by simp, by simp, by simpa [findRecord_updRecord keepsRecord_firstOut] using hfound⟩
  · next e =>
    exact groupOk_of_list (hg j e) (fun p _ hp => by rwa [findRecord_updRecord keepsRecord_firstOut])

/-- A decision on a group `x` placed at `g`, whose candidate is in the list: it leaves the groups in order and lets a
held accept complete where no group settles any more (R111, R157). -/
theorem ordinary_groupDecides (g : Fin 16) (x : Group) (s : State)
    (hx : groupsOk s → ∃ q, x.ref = some q ∧ (findRecord q s.recorder.list).isSome = true) :
    Ordinary s (groupDecides g (s.withGroup g x)) := by
  unfold groupDecides
  have hd : Only [.ann, .nAnn, .recorder] s (decideGroup g (s.withGroup g x)) :=
    (only_withGroup s g x).seq (only_decideGroup g _) (by decide) (by decide)
  have htrips : tripsOk s ∧ groupsOk s →
      tripsOk (decideGroup g (s.withGroup g x)) ∧ groupsOk (decideGroup g (s.withGroup g x)) := by
    intro h
    obtain ⟨q, hq, hfound⟩ := hx h.2
    refine decideGroup_trips h.1 (fun j hj => ?_) (by simpa using hq) hfound
    rw [withGroup_ann, getElem_set_fin, if_neg hj]
    exact h.2 j
  generalize decideGroup g (s.withGroup g x) = d at hd htrips
  have hf : Only noticeParts d (firstOutNotice g d) := only_firstOutNotice g d
  have hdf : Ordinary d (firstOutNotice g d) := ordinary_firstOutNotice g d
  generalize firstOutNotice g d = f at hf hdf
  have hdt : Ordinary d (shiftDecision g f) := hdf.trans (ordinary_shiftDecision g f)
  have hshift : f.shift = s.shift := (hf.shift (by decide)).trans (hd.shift (by decide))
  refine Ordinary.of_only (l := groupParts)
    ((hd.seq hf (by decide) (by decide)).trans ((only_shiftDecision g f).mono (by decide)))
    (queues := fun _ h => hdt.queues ?_) (trips := fun _ h => hdt.trips (htrips h)) (units := fun _ h => hdt.units ?_)
    (shifts := fun _ h => ?_) (writer := fun _ h => hdt.writer ?_) (runs := fun _ => ?_)
  · simpa only [queuesOk, hd.portU (by decide), hd.portS (by decide)] using h
  · simpa only [unitsOk, hd.tally (by decide)] using h
  · obtain ⟨hs, hoffer, haccept, hsettle, hrest⟩ := h
    have hfs : shiftsOk f := shiftsOk_congr hshift hs
    have hff : (s.shift.state = .acceptHeld → anySettling f = true) → handoverOk f := by
      unfold handoverOk
      rw [hshift]
      exact fun e => ⟨hoffer, haccept, e, hrest⟩
    rw [← hshift] at hff haccept
    exact shiftDecision_shifts g f hfs (fun hne => hff (fun e => absurd e hne)) haccept.mpr
      (fun _ hset => hff (fun _ => hset))
  · simpa only [writerOk, hd.store (by decide), live_congr (hd.supply (by decide))] using h
  · exact (RunsUp.of_eq (hd.tally (by decide))).trans hdt.runs

/-- A decision on a group that settles. -/
theorem ordinary_groupDecides_settling (g : Fin 16) (s : State) (hg : s.ann[g].state = .settling) :
    Ordinary s (groupDecides g s) := by
  have h := ordinary_groupDecides g s.ann[g] s (fun hs => ?_)
  · rwa [show s.withGroup g s.ann[g] = s by simp [State.withGroup]] at h
  · obtain ⟨-, href, hfound⟩ := hs g
    obtain ⟨q, hq⟩ := Option.isSome_iff_exists.mp (href.mpr (fun e => nomatch hg.symm.trans e))
    rw [hq] at hfound
    exact ⟨q, hq, hfound⟩

/-! ### Records arriving at a group (R107 to R113) -/

theorem setFlags_found (p q : BitVec 32) (a e : Bool) (s : State) :
    (findRecord p (setFlags q a e s).recorder.list).isSome = (findRecord p s.recorder.list).isSome :=
  findRecord_updRecord (keepsRecord_flags a e) p q _

theorem setFlags_ann (q : BitVec 32) (a e : Bool) (s : State) : (setFlags q a e s).ann = s.ann := rfl

theorem ordinary_unmaskedRecord (r : TripRecord) (s : State)
    (hr : (findRecord r.seq s.recorder.list).isSome = true) : Ordinary s (unmaskedRecord r s) := by
  unfold unmaskedRecord
  extract_lets g x w s1 e
  have h1 : Ordinary s s1 := ordinary_setFlags r.seq false false s
  have hr1 : (findRecord r.seq s1.recorder.list).isSome = true := by
    rw [setFlags_found]
    exact hr
  split
  next hstate =>
    have hstate1 : s1.ann[g].state ≠ .settling := by
      rw [setFlags_ann]
      exact fun he => nomatch hstate.symm.trans he
    refine h1.trans (Ordinary.ite _ (fun _ => ?_) (fun _ => ?_))
    · exact ordinary_groupDecides g _ s1 (fun _ => ⟨r.seq, rfl, hr1⟩)
    · refine ordinary_withGroup g _ s1 (fun _ => ?_) (fun e => absurd e hstate1)
      exact ⟨by simp, by simp, hr1⟩
  next hstate =>
    refine Ordinary.ite _ (fun _ => ?_) (fun _ => h1)
    refine h1.trans (ordinary_withGroup g _ s1 (fun h => ?_) (fun _ => hstate))
    rw [setFlags_ann] at h
    have hne : s.ann[g].state ≠ .quiet := fun he => nomatch hstate.symm.trans he
    exact ⟨h.1, ⟨fun _ => hne, fun _ => rfl⟩, hr1⟩
  next =>
    exact (ordinary_setFlags r.seq false e s).trans (Ordinary.free (only_countAnn _ _))
  next =>
    exact (ordinary_setFlags r.seq true e s).trans (Ordinary.free (only_countAnn _ _))

theorem ordinary_groupRecord (r : TripRecord) (s : State) (hr : (findRecord r.seq s.recorder.list).isSome = true) :
    Ordinary s (groupRecord r s) := by
  unfold groupRecord
  extract_lets x s1
  have h1 : Ordinary s s1 := ordinary_withGroup r.group _ s id id
  refine h1.trans (Ordinary.ite _ (fun _ => ?_) (fun _ => ordinary_unmaskedRecord r s1 hr))
  exact (ordinary_setFlags r.seq true false s1).trans (Ordinary.free (only_countAnn _ _))

theorem ordinary_groupLost (g : Fin 16) (s : State) : Ordinary s (groupLost g s) :=
  ordinary_withGroup g { s.ann[g] with lost := true } s id id

/-! ### Operator requests on groups (R114, R116) -/

theorem ordinary_ackGroup (g : Fin 16) (s : State) (hg : s.ann[g].state = .announced) : Ordinary s (ackGroup g s) := by
  unfold ackGroup
  extract_lets y x l rc s1
  refine Ordinary.trans (t := s1) ?_ (ordinary_notice _ _ s1)
  have hkeep : KeepsRecord (fun r => { r with acked := true }) :=
    ⟨fun _ => rfl, fun _ => rfl, fun _ => rfl, fun _ => rfl⟩
  have hl : Ordinary s { s with recorder.list := l } := ordinary_mapRecords _ s (hkeep.ite (fun r => r.group = g))
  refine (hl.trans (ordinary_withGroup g x _ (fun h => ?_) (fun e => ?_))).trans (Ordinary.free (only_countAnn _ _))
  · have hx : groupOk s.ann[g] l := h
    unfold groupOk at hx
    rw [hg] at hx
    exact ⟨by simpa [x, y] using hx.1, by simpa [x, y] using hx.2.1, hx.2.2⟩
  · exact nomatch hg.symm.trans e

theorem ordinary_resetGroup (g : Fin 16) (s : State) (hg : s.ann[g].state = .acked) : Ordinary s (resetGroup g s) := by
  unfold resetGroup
  extract_lets y x
  refine Ordinary.trans (Ordinary.trans ?_ (Ordinary.free (only_countAnn _ _))) (ordinary_notice _ _ _)
  refine ordinary_withGroup g x s (fun h => ?_) (fun e => nomatch hg.symm.trans e)
  unfold groupOk at h
  rw [hg] at h
  exact ⟨by simpa [x, y] using h.1, by simp [x], rfl⟩

theorem ordinary_quietReset (g : Fin 16) (s : State) : Ordinary s (quietReset g s) :=
  ordinary_withGroup g { s.ann[g] with trips := 0, lost := false } s id id

/-! ### The recorder (R85 to R99) -/

/-- A source slot is no part of what the invariants say. -/
theorem ordinary_withSlot (i : Fin 64) (x : SourceSlot) (s : State) : Ordinary s (s.withSlot i x) :=
  Ordinary.of_only (only_withSlot s i x) (trips := fun _ => id)

theorem seqNext_ne_zero (q : BitVec 32) : seqNext q ≠ 0 := by
  unfold seqNext
  split <;> bv_omega

theorem ordinary_useNumber (s : State) : Ordinary s { s with recorder.nextSeq := seqNext s.recorder.nextSeq } :=
  Ordinary.of_only (only_set_recorder s _) (trips := fun _ h => ⟨⟨h.1.1, seqNext_ne_zero _, h.1.2.2⟩, h.2⟩)

/-- A record may give way that no group refers to. -/
theorem not_referred_iff (s : State) (q : BitVec 32) : referred s q = false ↔ ∀ g : Fin 16, s.ann[g].ref ≠ some q := by
  unfold referred
  rw [← Bool.not_eq_true, List.any_eq_true]
  simp only [Vector.mem_toList_iff, beq_iff_eq, not_exists, not_and]
  exact ⟨fun h g => h _ (Vector.getElem_mem _), fun h x hx => by
    obtain ⟨i, hi, rfl⟩ := Vector.getElem_of_mem hx
    exact h ⟨i, hi⟩⟩

theorem findRecord_erase {q : BitVec 32} {r : TripRecord} (h : r.seq ≠ q) (l : List TripRecord) :
    findRecord q (l.erase r) = findRecord q l := by
  unfold findRecord
  induction l with
  | nil => rfl
  | cons x l ih =>
    rw [List.erase_cons]
    split
    · next e =>
      have hx : x.seq ≠ q := (beq_iff_eq.mp e) ▸ h
      simp [hx]
    · rw [List.find?_cons, List.find?_cons, ih]

theorem removeRecord_list (r : TripRecord) (s : State) : (removeRecord r s).recorder.list = s.recorder.list.erase r := by
  unfold removeRecord
  dsimp only
  split <;> rfl

theorem removeRecord_nextSeq (r : TripRecord) (s : State) :
    (removeRecord r s).recorder.nextSeq = s.recorder.nextSeq := by
  unfold removeRecord
  dsimp only
  split <;> rfl

theorem ordinary_removeRecord (r : TripRecord) (s : State) (hr : referred s r.seq = false) :
    Ordinary s (removeRecord r s) := by
  refine Ordinary.of_only (only_removeRecord r s) (trips := fun _ ⟨⟨hlen, hseq, hpair⟩, hg⟩ => ⟨⟨?_, ?_, ?_⟩, ?_⟩)
  · rw [removeRecord_list]
    exact (List.length_erase_le).trans hlen
  · rw [removeRecord_nextSeq]
    exact hseq
  · rw [removeRecord_list]
    exact hpair.sublist List.erase_sublist
  · intro g
    rw [(only_removeRecord r s).ann (by decide), removeRecord_list]
    refine groupOk_of_list (hg g) (fun q hq hfound => ?_)
    rw [findRecord_erase (fun e => (not_referred_iff s r.seq).mp hr g (e ▸ hq))]
    exact hfound

/-- What making room leaves: the list as it was, or without one record that may give way (R98). -/
theorem makeRoom_cases {s t : State} (h : makeRoom s = some t) :
    s.recorder.list.length < 512 ∧ t = s
    ∨ 512 ≤ s.recorder.list.length ∧ ∃ r, s.recorder.list.find? (mayGiveWay s) = some r ∧ t = removeRecord r s := by
  unfold makeRoom at h
  split at h
  next hroom => exact .inl ⟨hroom, (Option.some.inj h).symm⟩
  next hfull =>
    obtain ⟨r, hr, rfl⟩ := Option.map_eq_some_iff.mp h
    exact .inr ⟨Nat.le_of_not_lt hfull, r, hr, rfl⟩

theorem mayGiveWay_iff (s : State) (r : TripRecord) :
    mayGiveWay s r = true ↔ r.acked = true ∧ r.shiftNo < s.shift.openRec.number ∧ ∀ g : Fin 16, s.ann[g].ref ≠ some r.seq := by
  unfold mayGiveWay
  rw [← not_referred_iff]
  simp [and_assoc]

theorem ordinary_makeRoom {s t : State} (h : makeRoom s = some t) :
    Ordinary s t ∧ (s.recorder.list.length ≤ 512 → t.recorder.list.length < 512)
      ∧ t.recorder.list.Sublist s.recorder.list := by
  obtain ⟨hroom, rfl⟩ | ⟨-, r, hr, rfl⟩ := makeRoom_cases h
  · exact ⟨Ordinary.refl _, fun _ => hroom, List.Sublist.refl _⟩
  · have hway := (mayGiveWay_iff s r).mp (List.find?_some hr)
    have hmem : r ∈ s.recorder.list := List.mem_of_find?_eq_some hr
    refine ⟨ordinary_removeRecord r s ((not_referred_iff s r.seq).mpr hway.2.2), fun hlen => ?_, ?_⟩
    · rw [removeRecord_list, List.length_erase_of_mem hmem]
      have := List.length_pos_of_mem hmem
      omega
    · rw [removeRecord_list]
      exact List.erase_sublist

/-- Room made and a record placed at the tail: flagged a restart where its source's number was in the list already
(R89, R94, R97). -/
theorem ordinary_placeRecord {s t : State} (h : makeRoom s = some t) (x : TripRecord)
    (hx : ∀ y ∈ s.recorder.list, y.source = x.source → y.stateNo = x.stateNo → x.restart = true) :
    Ordinary s { t with recorder.list := t.recorder.list ++ [x], recorder.nextSeq := seqNext t.recorder.nextSeq } := by
  obtain ⟨hroom, hlen, hsub⟩ := ordinary_makeRoom h
  refine Ordinary.of_only ((only_makeRoom h).seq (only_set_recorder t _) (l := [.recorder, .nRecorder]) (by decide)
    (by decide)) (trips := fun _ hs => ?_)
  obtain ⟨ht, hg⟩ := hroom.trips hs
  refine ⟨⟨?_, seqNext_ne_zero _, ?_⟩, ?_⟩
  · simpa using hlen hs.1.1
  · rw [List.pairwise_append]
    exact ⟨ht.2.2, List.pairwise_singleton _ _, fun y hy z hz => by
      rw [List.mem_singleton.mp hz]
      exact hx y (hsub.subset hy)⟩
  · exact fun g => groupOk_of_list (hg g) (fun q _ hq => by
      unfold findRecord at hq ⊢
      rw [List.find?_append, Option.isSome_or, hq, Bool.true_or])

theorem ordinary_tallyTripOpt (u : Option (Fin 6)) (stop : Bool) (s : State) :
    Ordinary s (match u with | some u => tallyTrip u stop s | none => s) := by
  cases u with
  | none => exact Ordinary.refl s
  | some u => exact ordinary_tallyTrip u stop s

theorem ordinary_handOn (r : TripReport) (x : TripRecord) (s : State)
    (hx : (findRecord x.seq s.recorder.list).isSome = true) : Ordinary s (handOn r x s) := by
  unfold handOn
  extract_lets s1 s2 s3
  have h3 : Ordinary s s3 := by
    refine Ordinary.ite _ (fun _ => ?_) (fun _ => Ordinary.refl s)
    have h1 : Ordinary s s1 := ordinary_countShiftTrip _ _ s
    have h2 : Ordinary s1 s2 := ordinary_tallyTripOpt r.unit r.unitStop s1
    have hlist : s2.recorder = s.recorder :=
      ((only_tallyTripOpt r.unit r.unitStop s1).recorder (by decide)).trans
        ((only_countShiftTrip _ _ s).recorder (by decide))
    exact (h1.trans h2).trans (ordinary_groupRecord x s2 (by rw [hlist]; exact hx))
  exact h3.trans (Ordinary.ite _ (fun _ => Ordinary.refl _) (fun _ => ordinary_notice _ _ _))

theorem ordinary_loseReport (r : TripReport) (e : BitVec 8) (s : State) : Ordinary s (loseReport r e s) := by
  unfold loseReport
  extract_lets s1 rc s2 s3
  have h1 : Ordinary s s1 := (ordinary_withSlot _ _ s).trans (Ordinary.free (only_countRec _ _))
  have h2 : Ordinary s1 s2 := ordinary_useNumber s1
  refine (h1.trans h2).trans (Ordinary.ite _ (fun _ => ?_) (fun _ => Ordinary.refl _))
  exact (ordinary_tallyTripOpt r.unit r.unitStop s2).trans (ordinary_groupLost _ s3)

/-- A report whose number is in the list for its source makes a restart record (R89). -/
theorem restartOf_fst (j : Judgement) (r : TripReport) (s : State) :
    ∀ y ∈ s.recorder.list, y.source = r.source → y.stateNo = r.stateNo → (restartOf j r s).1 = true := by
  intro y hy hsource hno
  unfold restartOf
  split
  · rfl
  · rw [if_pos]
    exact List.any_eq_true.mpr ⟨y, hy, by simp [hsource, hno]⟩

theorem ordinary_recordReport (j : Judgement) (r : TripReport) (s : State) : Ordinary s (recordReport j r s) := by
  unfold recordReport
  have hres := restartOf_fst j r s
  generalize hp : restartOf j r s = p at hres
  have honly : Only [.nRecorder] s p.2 := hp ▸ only_restartOf j r s
  obtain ⟨restart, s1⟩ := p
  dsimp only at honly hres ⊢
  have h1 : Ordinary s s1 := Ordinary.free honly
  have hlist1 : s1.recorder = s.recorder := honly.recorder (by decide)
  generalize hs2 : (if (recordStamp s1.cfg.plausibility r).2 = .fallback then
    s1.countRec (fun c => { c with fallback := c.fallback + 1 }) else s1) = s2
  have h2 : Ordinary s1 s2 := hs2 ▸ Ordinary.ite _ (fun _ => Ordinary.free (only_countRec s1 _)) (fun _ => Ordinary.refl _)
  have hlist2 : s2.recorder = s1.recorder := by
    rw [← hs2]
    split <;> rfl
  cases hroom : makeRoom s2 with
  | none => exact (h1.trans h2).trans (ordinary_loseReport r _ s2)
  | some s3 =>
    refine (h1.trans h2).trans ?_
    dsimp only
    have hplaced (x : TripRecord) (hs : x.source = r.source) (hn : x.stateNo = r.stateNo) (hr : x.restart = restart) :=
      ordinary_placeRecord hroom x (fun y hy hsource hno =>
        hr ▸ hres y (hlist1 ▸ hlist2 ▸ hy) (hsource.trans hs) (hno.trans hn))
    refine ((Ordinary.trans (hplaced _ rfl rfl rfl) (ordinary_withSlot _ _ _)).trans (Ordinary.free (only_countRec _ _))).trans
      (ordinary_handOn r _ _ ?_)
    simp [findRecord, List.find?_append]

theorem ordinary_repeatReport (r : TripReport) (s : State) : Ordinary s (repeatReport r s) := by
  unfold repeatReport
  extract_lets slot s1
  have h1 : Ordinary s s1 := (ordinary_withSlot _ _ s).trans (Ordinary.free (only_countRec _ _))
  split
  · exact h1.trans (ordinary_updRecord _ _ s1 ⟨fun _ => rfl, fun _ => rfl, fun _ => rfl, fun _ => rfl⟩)
  · exact h1

theorem ordinary_staleReport (r : TripReport) (s : State) : Ordinary s (staleReport r s) := by
  unfold staleReport
  exact (ordinary_withSlot _ _ s).trans (Ordinary.free (only_countRec _ _))

theorem ordinary_tripReport (r : TripReport) (s : State) : Ordinary s (tripReport r s) := by
  unfold tripReport
  split
  · exact ordinary_repeatReport r s
  · exact ordinary_staleReport r s
  · exact ordinary_recordReport _ r s
  · exact ordinary_recordReport _ r s

end Sys2Proof.Proofs
end

section
/-! SUPPORT. The calendar and the pulse lines: what their operations keep, and the eight lines one after another (02, 09). -/

namespace Sys2Proof.Proofs

open Sys2Proof Sys2Proof.Machine Sys2Proof.Safety

/-! ### Settings and the calendar -/

/-- Settings other than the lines' own. -/
theorem ordinary_setCfg (s : State) (c : Settings) (h : c.lines = s.cfg.lines) : Ordinary s { s with cfg := c } :=
  Ordinary.of_only (only_set_cfg s c) (lines := fun _ hs i => by
    have hi := hs i
    rw [← h] at hi
    exact hi)

theorem ordinary_runDue (s : State) : Ordinary s (runDue s) := by
  unfold runDue
  extract_lets r c s1 s2
  have h1 : Ordinary s s1 := Ordinary.free (only_set_cal s _)
  have h2 : Ordinary s1 s2 := Ordinary.ite _ (fun _ => Ordinary.free (only_countCal s1 _)) (fun _ => Ordinary.refl _)
  refine (h1.trans h2).trans ?_
  split
  · exact (Ordinary.free (only_countCal s2 _)).trans (ordinary_shiftDue _ _ _)
  · exact Ordinary.refl _

theorem ordinary_runWarning (s : State) : Ordinary s (runWarning s) := by
  unfold runWarning
  refine Ordinary.ite _ (fun _ => Ordinary.free (only_set_cal s _)) (fun _ => ?_)
  extract_lets r c s1 s2
  have h1 : Ordinary s s1 := Ordinary.free (only_set_cal s _)
  have h2 : Ordinary s1 s2 := Ordinary.ite _ (fun _ => Ordinary.free (only_countCal s1 _)) (fun _ => Ordinary.refl _)
  refine (h1.trans h2).trans ?_
  split
  · exact (Ordinary.free (only_countCal s2 _)).trans (ordinary_shiftWarning _ _ _)
  · exact Ordinary.refl _

theorem ordinary_runExaminers (s : State) : Ordinary s (runExaminers s) :=
  Ordinary.ite _ (fun _ => Ordinary.refl s) (fun _ => (ordinary_runDue s).trans (ordinary_runWarning _))

theorem ordinary_calendarEvent (b : Bool) (s : State) : Ordinary s (calendarEvent b s) := by
  unfold calendarEvent
  extract_lets f sw s1 c s2
  have h1 : Ordinary s s1 := Ordinary.ite _ (fun _ => Ordinary.free (only_countCal s _)) (fun _ => Ordinary.refl _)
  have h2 : Ordinary s1 s2 := Ordinary.free (only_set_cal s1 _)
  exact (h1.trans h2).trans (Ordinary.ite _ (fun _ => ordinary_runExaminers s2) (fun _ => Ordinary.refl _))

theorem ordinary_calendarRollover (n : Second) (s : State) : Ordinary s (calendarRollover n s) :=
  ordinary_calendarEvent _ s

theorem ordinary_calendarClockChange (s : State) : Ordinary s (calendarClockChange s) := by
  unfold calendarClockChange
  extract_lets c s1
  have h1 : Ordinary s s1 := Ordinary.ite _ (fun _ => Ordinary.free (only_set_cal s _)) (fun _ => Ordinary.refl _)
  exact h1.trans (ordinary_calendarEvent true s1)

theorem ordinary_calendarStart (s : State) : Ordinary s (calendarStart s) :=
  (Ordinary.free (only_set_cal s _)).trans (ordinary_runExaminers _)

theorem ordinary_leadChanged (s : State) : Ordinary s (leadChanged s) := by
  unfold leadChanged
  refine Ordinary.ite _ (fun _ => Ordinary.free (only_set_cal s _)) (fun _ => ?_)
  exact Ordinary.ite _ (fun _ => Ordinary.refl s) (fun _ => Ordinary.free (only_set_cal s _))

/-! ### One line -/

/-- The conditions of one line, with its configuration, the clock state and whether the main domain runs. -/
abbrev lineOk (l : Line) (c : LineCfg) (st : ClockState) (lv : Bool) : Prop :=
  l.pending.length ≤ 8 ∧ (l.pulse.wire.isSome = false → l.pending = []) ∧ l.mark % 36 = 0
    ∧ (l.target.isSome = true → c.function.cycle.isSome = true ∧ st ≠ .unset)
    ∧ (lv = false → l.pulse = .rest ∧ l.target = none)

/-- One line changes, with its configuration. -/
theorem ordinary_lineAndCfg {l : List Part} {s t : State} {i : Fin 8} {x : Line} {c : LineCfg} (h : Only l s t)
    (hx : t.lines = s.lines.set i x) (hc : t.cfg.lines = s.cfg.lines.set i c)
    (hok : lineOk s.lines[i] s.cfg.lines[i] s.clock.state (live s) → lineOk x c s.clock.state (live s))
    (hl : ∀ p ∈ l, p ∈ Part.lines :: Part.cfg :: freeParts := by decide) : Ordinary s t := by
  have h' := h.mono hl
  refine Ordinary.of_only h' (lines := fun _ hs j => ?_)
  rw [hx, hc, getElem_set_fin, getElem_set_fin, h'.clock (by decide), live_congr (h'.supply (by decide))]
  split
  · exact hok (hs i)
  · exact hs j

theorem set_getElem_fin {α : Type} {n : Nat} (v : Vector α n) (i : Fin n) : v.set i v[i] = v := by simp

/-- One line changes, its configuration standing. -/
theorem ordinary_line {l : List Part} {s t : State} {i : Fin 8} {x : Line} (h : Only l s t)
    (hx : t.lines = s.lines.set i x)
    (hok : lineOk s.lines[i] s.cfg.lines[i] s.clock.state (live s) →
      lineOk x s.cfg.lines[i] s.clock.state (live s))
    (hl : ∀ p ∈ l, p ∈ Part.lines :: freeParts := by decide) : Ordinary s t :=
  ordinary_lineAndCfg (h.mono hl) hx
    (by rw [h.cfg (fun m => absurd (hl _ m) (by decide)), set_getElem_fin]) hok

theorem ordinary_withLine (i : Fin 8) (x : Line) (s : State)
    (hok : lineOk s.lines[i] s.cfg.lines[i] s.clock.state (live s) →
      lineOk x s.cfg.lines[i] s.clock.state (live s)) : Ordinary s (s.withLine i x) :=
  ordinary_line (only_withLine s i x) rfl hok

/-- A pulse begins on a live line; pending changes and target stand, and the mark stays a multiple of 36. -/
theorem ordinary_beginPulse (i : Fin 8) (w : Wire) (l : Line) (s : State) (hlive : live s = true)
    (hpending : l.pending = s.lines[i].pending) (htarget : l.target = s.lines[i].target)
    (hmark : s.lines[i].mark % 36 = 0 → l.mark % 36 = 0) : Ordinary s (beginPulse i w l s) := by
  refine ordinary_line (i := i) (only_beginPulse i w l s) rfl (fun h => ?_)
  refine ⟨hpending ▸ h.1, fun e => absurd e.symm Bool.false_ne_true, hmark h.2.2.1, htarget ▸ h.2.2.2.1, fun e => ?_⟩
  exact absurd (hlive.symm.trans e) (by decide)

theorem ordinary_realign (i : Fin 8) (s : State) : Ordinary s (realign i s) := by
  refine ordinary_line (i := i) (only_realign i s) rfl (fun h => ⟨h.1, h.2.1, ?_, h.2.2.2⟩)
  exact Nat.mul_mod_left _ 36

theorem ordinary_agree (i : Fin 8) (s : State) : Ordinary s (agree i s) := by
  unfold agree
  extract_lets c l
  split
  · exact Ordinary.ite _ (fun _ => Ordinary.refl s) (fun _ => ordinary_withLine i _ s id)
  · exact Ordinary.ite _ (fun _ => ordinary_realign i s) (fun _ => Ordinary.refl s)

theorem ordinary_agreeAll (s : State) : Ordinary s (agreeAll s) :=
  Ordinary.foldl _ (fun s i => ordinary_agree i s) allLines s

theorem slaveTarget_isSome (f : LineFunction) (t : LocalTime) :
    (slaveTarget f t).isSome = true ↔ f.cycle.isSome = true := by
  cases f <;> simp [slaveTarget, LineFunction.cycle]

/-- A renewed target is one that its function and the clock allow (R172). -/
theorem renewed_target {f : LineFunction} {st : ClockState} {t : LocalTime}
    (h : (if st = .unset then none else slaveTarget f t).isSome = true) : f.cycle.isSome = true ∧ st ≠ .unset := by
  split at h
  · cases h
  · exact ⟨(slaveTarget_isSome f t).mp h, ‹_›⟩

theorem ordinary_renewTarget (i : Fin 8) (s : State) (hlive : live s = true) : Ordinary s (renewTarget i s) := by
  refine ordinary_withLine i _ s (fun h => ⟨h.1, h.2.1, h.2.2.1, renewed_target, fun e => ?_⟩)
  exact absurd (hlive.symm.trans e) (by decide)

theorem apply_function (c : LineCfg) (ch : LineChange) :
    (c.apply ch).function = (match ch with | .function f => f | _ => c.function) := by
  cases ch <;> rfl

theorem ordinary_applyChange (i : Fin 8) (ch : LineChange) (s : State) (hlive : live s = true) :
    Ordinary s (applyChange i ch s) := by
  have hcfg (x : Line) (c : LineCfg) (hx : lineOk s.lines[i] s.cfg.lines[i] s.clock.state (live s) →
      lineOk x c s.clock.state (live s)) : Ordinary s ((s.withLineCfg i c).withLine i x) :=
    ordinary_lineAndCfg (i := i) ((only_withLineCfg s i c).seq (only_withLine _ i x) (l := [.lines, .cfg]) (by decide)
      (by decide)) rfl rfl hx
  have hsame (c : LineCfg) (hc : c.function = s.cfg.lines[i].function) : Ordinary s (s.withLineCfg i c) := by
    have h := hcfg s.lines[i] c (fun h => ⟨h.1, h.2.1, h.2.2.1, by rw [hc]; exact h.2.2.2.1, h.2.2.2.2⟩)
    rwa [show (s.withLineCfg i c).withLine i s.lines[i] = s.withLineCfg i c by
      simp [State.withLine, State.withLineCfg]] at h
  unfold applyChange
  split
  next => exact ordinary_withLine i _ s id
  next f =>
    extract_lets s1
    refine Ordinary.trans ?_ (ordinary_agree i _)
    refine Ordinary.ite _ (fun hf => hsame _ hf.symm) (fun _ => ?_)
    refine hcfg _ _ (fun h => ⟨h.1, h.2.1, h.2.2.1, fun ht => ?_, fun e => ?_⟩)
    · have := renewed_target ht
      simpa [s1] using this
    · exact absurd (hlive.symm.trans e) (by decide)
  next ch hdial hfun =>
    refine Ordinary.trans (hsame _ ?_) (ordinary_agree i _)
    rw [apply_function]
    split
    · exact absurd rfl (hfun _)
    · rfl

theorem ordinary_decideLine (i : Fin 8) (s : State) : Ordinary s (decideLine i s) := by
  unfold decideLine
  extract_lets c l
  refine Ordinary.ite _ (fun hrest => ?_) (fun _ => Ordinary.refl s)
  have hlive : live s = true := (Bool.and_eq_true_iff.mp hrest).1
  split
  · exact Ordinary.ite _ (fun _ => ordinary_beginPulse i .a _ s hlive rfl rfl
      (fun h => (Nat.add_mod_right _ 36).trans h))
      (fun _ => Ordinary.refl s)
  · split
    · split
      · exact Ordinary.ite _ (fun _ => ordinary_beginPulse i _ _ s hlive rfl rfl id) (fun _ => Ordinary.refl s)
      · exact Ordinary.refl s
    · exact Ordinary.refl s

theorem ordinary_lineRollover (i : Fin 8) (s : State) (hlive : live s = true) : Ordinary s (lineRollover i s) := by
  unfold lineRollover
  split
  · split
    · exact Ordinary.refl s
    · split
      · exact ordinary_beginPulse i .a _ s hlive rfl rfl id
      · exact Ordinary.free (only_countLines s _)
      · exact Ordinary.refl s
  · exact Ordinary.ite _ (fun _ => (ordinary_renewTarget i s hlive).trans (ordinary_decideLine i _))
      (fun _ => Ordinary.refl s)

/-- The main domain runs on through an ordinary operation. -/
theorem Ordinary.live {s t : State} (h : Ordinary s t) (hs : Machine.live s = true) : Machine.live t = true :=
  (live_congr h.supply).trans hs

theorem Ordinary.foldl_live {α : Type} (f : State → α → State) (h : ∀ s x, Machine.live s = true → Ordinary s (f s x)) :
    ∀ (xs : List α) (s : State), Machine.live s = true → Ordinary s (xs.foldl f s)
  | [], s, _ => Ordinary.refl s
  | x :: xs, s, hs => (h s x hs).trans (Ordinary.foldl_live f h xs (f s x) ((h s x hs).live hs))

theorem ordinary_linesRollover (s : State) (hlive : live s = true) : Ordinary s (linesRollover s) :=
  Ordinary.foldl_live _ (fun s i => ordinary_lineRollover i s) allLines s hlive

/-- A line has room for a change unless it refuses it with BUSY (R170). -/
theorem ordinary_takeChange (i : Fin 8) (ch : LineChange) (s : State) (hlive : live s = true)
    (hbusy : lineBusy i s = false) : Ordinary s (takeChange i ch s) := by
  unfold takeChange
  split
  next w e hpulse =>
    refine ordinary_withLine i _ s (fun h => ⟨?_, fun he => ?_, h.2.2⟩)
    · unfold lineBusy at hbusy
      rw [hpulse] at hbusy
      have hlt : s.lines[i].pending.length < 8 := Nat.lt_of_not_le (of_decide_eq_false hbusy)
      simpa using hlt
    · dsimp only at he
      rw [hpulse] at he
      cases he
  next => exact (ordinary_applyChange i ch s hlive).trans (ordinary_decideLine i _)
  next => exact ordinary_applyChange i ch s hlive

/-- The pulse and the pending changes of every line stand. -/
def SamePulses (s t : State) : Prop :=
  ∀ j : Fin 8, t.lines[j].pulse = s.lines[j].pulse ∧ t.lines[j].pending = s.lines[j].pending

theorem SamePulses.refl (s : State) : SamePulses s s := fun _ => ⟨rfl, rfl⟩

theorem SamePulses.trans {s t u : State} (h : SamePulses s t) (k : SamePulses t u) : SamePulses s u := fun j =>
  ⟨(k j).1.trans (h j).1, (k j).2.trans (h j).2⟩

theorem samePulses_withLine (i : Fin 8) (x : Line) (s t : State) (ht : t.lines = s.lines)
    (hp : x.pulse = s.lines[i].pulse) (hq : x.pending = s.lines[i].pending) : SamePulses s (t.withLine i x) := fun j => by
  have e : (t.withLine i x).lines[j] = if j = i then x else s.lines[j] := by
    rw [← ht]
    exact getElem_set_fin t.lines i j x
  rw [e]
  split
  · next h => exact h ▸ ⟨hp, hq⟩
  · exact ⟨rfl, rfl⟩

theorem samePulses_agree (i : Fin 8) (s : State) : SamePulses s (agree i s) := by
  unfold agree
  extract_lets c l
  split
  · split
    · exact SamePulses.refl s
    · exact samePulses_withLine i _ s s rfl rfl rfl
  · split
    · exact samePulses_withLine i _ s s rfl rfl rfl
    · exact SamePulses.refl s

theorem samePulses_applyChange (i : Fin 8) (ch : LineChange) (s : State) : SamePulses s (applyChange i ch s) := by
  unfold applyChange
  split
  · exact samePulses_withLine i _ s s rfl rfl rfl
  · extract_lets s1
    refine SamePulses.trans ?_ (samePulses_agree i _)
    split
    · exact SamePulses.refl s
    · exact samePulses_withLine i _ s s1 rfl rfl rfl
  · exact samePulses_agree i _

theorem samePulses_foldl (i : Fin 8) :
    ∀ (chs : List LineChange) (s : State), SamePulses s (chs.foldl (fun s ch => applyChange i ch s) s)
  | [], s => SamePulses.refl s
  | ch :: chs, s => (samePulses_applyChange i ch s).trans (samePulses_foldl i chs _)

theorem ordinary_endDrive (i : Fin 8) (s : State) (hlive : live s = true) : Ordinary s (endDrive i s) := by
  unfold endDrive
  extract_lets l s1 s2 c
  have h1 : Ordinary s s1 :=
    ordinary_withLine i _ s (fun h => ⟨Nat.zero_le _, fun _ => rfl, h.2.2.1, h.2.2.2.1, fun e => ⟨rfl, (h.2.2.2.2 e).2⟩⟩)
  have h2 : Ordinary s1 s2 := Ordinary.foldl_live _ (fun s ch => ordinary_applyChange i ch s) l.pending s1 (h1.live hlive)
  refine (h1.trans h2).trans (Ordinary.ite _ (fun _ => ?_) (fun _ => Ordinary.refl _))
  have hlive2 : live s2 = true := (h1.trans h2).live hlive
  have hpending : s2.lines[i].pending = [] :=
    (samePulses_foldl i l.pending s1 i).2.trans (congrArg Line.pending ((getElem_set_fin s.lines i i _).trans (if_pos rfl)))
  refine ordinary_withLine i _ s2 (fun h => ⟨h.1, fun _ => hpending, h.2.2.1, h.2.2.2.1, fun e => ?_⟩)
  exact absurd (hlive2.symm.trans e) (by decide)

theorem ordinary_endGap (i : Fin 8) (s : State) (hgap : gapEndDue i s = true) : Ordinary s (endGap i s) := by
  refine Ordinary.trans ?_ (ordinary_decideLine i _)
  refine ordinary_withLine i _ s (fun h => ⟨h.1, fun _ => ?_, h.2.2.1, h.2.2.2.1, fun e => ⟨rfl, (h.2.2.2.2 e).2⟩⟩)
  refine h.2.1 ?_
  unfold gapEndDue at hgap
  cases hp : s.lines[i].pulse with
  | gap e => rfl
  | rest => rfl
  | drive w e =>
    rw [hp] at hgap
    exact absurd (Bool.and_eq_true_iff.mp hgap).2 Bool.false_ne_true

end Sys2Proof.Proofs
end

section
/-! SUPPORT. The eight lines one after another: an operation that each line does on its own account. -/

namespace Sys2Proof.Proofs

open Sys2Proof Sys2Proof.Machine Sys2Proof.Safety

/-- A state that differs from another in the lines and their counters alone. -/
theorem eq_of_only_lines {s t : State} (h : Only lineParts s t) :
    t = { s with lines := t.lines, cnt.lines := t.cnt.lines } := by
  obtain ⟨⟩ := s
  obtain ⟨_, _, _, _, _, _, _, _, _, _, _, _, _, _, ⟨⟩, _, _⟩ := t
  obtain ⟨h1, h2, h3, h4, h5, h6, h7, h8, h9, -, h11, h12, h13, h14, h15, h16, h17, h18, h19, h20, h21, h22, h23, h24,
    h25, -, h27, h28⟩ := h
  simp at *
  simp [*]

/-- An operation at each line: it changes that line and the counters of the lines, by what stands at that line and by the
rest of the state. -/
structure OneLine (f : Fin 8 → State → State) : Prop where
  only : ∀ i s, Only lineParts s (f i s)
  others : ∀ (i j : Fin 8) s, j ≠ i → (f i s).lines[j] = s.lines[j]
  own : ∀ (i : Fin 8) s (l : Vector Line 8) (n : LineCnt), l[i] = s.lines[i] →
    (f i { s with lines := l, cnt.lines := n }).lines[i] = (f i s).lines[i]

theorem OneLine.own_of_only {f : Fin 8 → State → State} (h : OneLine f) {s t : State} (i : Fin 8)
    (hst : Only lineParts s t) (hi : t.lines[i] = s.lines[i]) : (f i t).lines[i] = (f i s).lines[i] := by
  rw [eq_of_only_lines hst]
  exact h.own i s t.lines t.cnt.lines hi

/-- Over several lines, each becomes what its own operation makes of it. -/
theorem OneLine.foldl_lines {f : Fin 8 → State → State} (h : OneLine f) (j : Fin 8) :
    ∀ (xs : List (Fin 8)) (s : State), xs.Nodup →
      (xs.foldl (fun s i => f i s) s).lines[j] = if j ∈ xs then (f j s).lines[j] else s.lines[j]
  | [], s, _ => by simp
  | x :: xs, s, hx => by
    obtain ⟨hxs, hnodup⟩ := List.nodup_cons.mp hx
    rw [List.foldl_cons, h.foldl_lines j xs (f x s) hnodup]
    by_cases hj : j = x
    · subst hj
      rw [if_neg hxs, if_pos List.mem_cons_self]
    · rw [h.own_of_only j (h.only x s) (h.others x j s hj), h.others x j s hj]
      simp only [List.mem_cons, hj, false_or]

/-- Over the eight lines. -/
theorem OneLine.all {f : Fin 8 → State → State} (h : OneLine f) (j : Fin 8) (s : State) :
    (allLines.foldl (fun s i => f i s) s).lines[j] = (f j s).lines[j] := by
  rw [h.foldl_lines j allLines s (by decide), if_pos (by revert j; decide)]

theorem OneLine.only_all {f : Fin 8 → State → State} (h : OneLine f) (s : State) :
    Only lineParts s (allLines.foldl (fun s i => f i s) s) :=
  Only.foldl _ (fun s i => h.only i s) allLines s

/-! ### The line written -/

@[simp] theorem withLine_getElem (i j : Fin 8) (l : Line) (s : State) :
    (s.withLine i l).lines[j] = if j = i then l else s.lines[j] := getElem_set_fin s.lines i j l

theorem beginPulse_line (i : Fin 8) (w : Wire) (l : Line) (s : State) (j : Fin 8) :
    (beginPulse i w l s).lines[j] = if j = i then
      { l with pulse := .drive w (s.clock.m + BitVec.ofNat 48 s.cfg.lines[i].widthInForce) } else s.lines[j] :=
  getElem_set_fin s.lines i j _

theorem renewTarget_line (i j : Fin 8) (s : State) : (renewTarget i s).lines[j] = if j = i then
      { s.lines[i] with
        target := if s.clock.state = .unset then none else slaveTarget s.cfg.lines[i].function s.cal.fields }
      else s.lines[j] := getElem_set_fin s.lines i j _

theorem realign_line (i j : Fin 8) (s : State) : (realign i s).lines[j] = if j = i then
      { s.lines[i] with
        mark := tallySecs s s.cfg.lines[i].selection / 36 * 36, basis := some s.cfg.lines[i].selection }
      else s.lines[j] := getElem_set_fin s.lines i j _

/-- A line's own beginning of a pulse, or none (R171, R173, R178): all that the pulse decision can make of a line. -/
def decided (s : State) (c : LineCfg) (l : Line) : Line :=
  let e := s.clock.m + BitVec.ofNat 48 c.widthInForce
  if live s && l.pulse == .rest then
    if c.function = .hourMeter then
      if l.mark + 36 ≤ tallySecs s c.selection then { l with mark := l.mark + 36, pulse := .drive .a e } else l
    else if c.function.cycle.isSome && s.clock.state != .unset then
      match l.cycle, l.target with
      | some cy, some t =>
        if 1 ≤ (t + cy.steps - l.pos) % cy.steps ∧ (t + cy.steps - l.pos) % cy.steps ≤ cy.steps - c.holdSteps then
          { l with pos := (l.pos + 1) % cy.steps, pol := l.pol.flip, pulse := .drive l.pol e }
        else l
      | _, _ => l
    else l
  else l

theorem decideLine_line (i j : Fin 8) (s : State) :
    (decideLine i s).lines[j] = if j = i then decided s s.cfg.lines[i] s.lines[i] else s.lines[j] := by
  by_cases hj : j = i
  · subst hj
    unfold decideLine decided
    rw [if_pos rfl]
    dsimp only
    split_ifs
    · rw [beginPulse_line, if_pos rfl]
    · rfl
    · generalize s.lines[j].cycle = cycle
      generalize s.lines[j].target = target
      match cycle, target with
      | some cy, some t =>
        dsimp only
        split_ifs
        · rw [beginPulse_line, if_pos rfl]
        · rfl
      | none, _ => rfl
      | some _, none => rfl
    · rfl
    · rfl
  · unfold decideLine
    rw [if_neg hj]
    extract_lets c l
    split_ifs
    · rw [beginPulse_line, if_neg hj]
    · rfl
    · split
      · extract_lets d
        split_ifs
        · rw [beginPulse_line, if_neg hj]
        · rfl
      · rfl
    · rfl
    · rfl

/-- The pulse decision keeps a line's conditions. -/
theorem lineOk_decided (s : State) (c : LineCfg) (l : Line) (h : lineOk l c s.clock.state (live s)) :
    lineOk (decided s c l) c s.clock.state (live s) := by
  obtain ⟨hlen, -, hmark, htarget, -⟩ := id h
  have driven (x : Line) (w : Wire) (e : Elapsed) (hlive : live s = true) (hp : x.pending = l.pending)
      (ht : x.target = l.target) (hm : x.mark % 36 = 0) :
      lineOk { x with pulse := .drive w e } c s.clock.state (live s) :=
    ⟨hp ▸ hlen, fun h => absurd h.symm Bool.false_ne_true, hm, ht ▸ htarget,
      fun h => absurd (hlive.symm.trans h) (by decide)⟩
  unfold decided
  extract_lets e
  split_ifs with hrest
  · exact driven { l with mark := l.mark + 36 } _ _ (Bool.and_eq_true_iff.mp hrest).1 rfl rfl
      ((Nat.add_mod_right _ 36).trans hmark)
  · exact h
  · split
    next cy t _ _ =>
      split_ifs
      · exact driven { l with pos := (l.pos + 1) % cy.steps, pol := l.pol.flip } _ _
          (Bool.and_eq_true_iff.mp hrest).1 rfl rfl hmark
      · exact h
    next => exact h
  · exact h
  · exact h

theorem decided_congr {s t : State} (h : Only lineParts s t) (c : LineCfg) (l : Line) : decided t c l = decided s c l := by
  rw [eq_of_only_lines h]
  rfl

/-! ### A clock change and a rollover at the lines -/

/-- A line after a clock change: a slave line renews its target and decides (R172, R173). -/
def lineAtChange (s : State) (c : LineCfg) (l : Line) : Line :=
  if c.function.cycle.isSome then
    decided s c { l with target := if s.clock.state = .unset then none else slaveTarget c.function s.cal.fields }
  else l

theorem decideLine_renewTarget (i j : Fin 8) (s : State) :
    (decideLine i (renewTarget i s)).lines[j] = if j = i then
      decided s s.cfg.lines[i] { s.lines[i] with
        target := if s.clock.state = .unset then none else slaveTarget s.cfg.lines[i].function s.cal.fields }
      else s.lines[j] := by
  rw [decideLine_line, renewTarget_line, renewTarget_line, if_pos rfl,
    decided_congr ((only_renewTarget i s).mono (by decide))]
  split
  · rfl
  · rfl

theorem lineClockChange_line (i j : Fin 8) (s : State) : (lineClockChange i s).lines[j] =
    if j = i then lineAtChange s s.cfg.lines[i] s.lines[i] else s.lines[j] := by
  unfold lineClockChange lineAtChange
  split
  · rw [decideLine_renewTarget]
  · split
    · next h => rw [h]
    · rfl

theorem oneLine_lineClockChange : OneLine lineClockChange where
  only := only_lineClockChange
  others i j s h := by rw [lineClockChange_line, if_neg h]
  own i s l n h := by
    rw [lineClockChange_line, lineClockChange_line, if_pos rfl, if_pos rfl]
    dsimp only
    rw [h]
    rfl

theorem linesClockChange_line (i : Fin 8) (s : State) :
    (linesClockChange s).lines[i] = lineAtChange s s.cfg.lines[i] s.lines[i] := by
  rw [linesClockChange, oneLine_lineClockChange.all, lineClockChange_line, if_pos rfl]

theorem ordinary_lineClockChange (i : Fin 8) (s : State) (hlive : live s = true) : Ordinary s (lineClockChange i s) :=
  Ordinary.ite _ (fun _ => (ordinary_renewTarget i s hlive).trans (ordinary_decideLine i _)) (fun _ => Ordinary.refl s)

theorem ordinary_linesClockChange (s : State) (hlive : live s = true) : Ordinary s (linesClockChange s) :=
  Ordinary.foldl_live _ (fun s i => ordinary_lineClockChange i s) allLines s hlive

theorem ordinary_deliverChange (s : State) : Ordinary s (deliverChange s) :=
  Ordinary.ite _ (fun hlive => (ordinary_calendarClockChange s).trans
    (ordinary_linesClockChange _ ((ordinary_calendarClockChange s).live hlive))) (fun _ => Ordinary.refl s)

theorem ordinary_finishClock (b : State) (k : Kinds) (s : State) : Ordinary s (finishClock b k s) := by
  unfold finishClock
  extract_lets c s1
  have h1 : Ordinary s s1 := Ordinary.ite _ (fun _ => Ordinary.refl _) (fun _ => ordinary_deliverChange s)
  exact h1.trans (Ordinary.ite _ (fun _ => ordinary_notice _ _ s1) (fun _ => Ordinary.refl _))

/-- After a clock change a line has its conditions in the new clock state, whatever its target was. -/
theorem lineOk_lineAtChange (s : State) (c : LineCfg) (l : Line) (st : ClockState) (hlive : live s = true)
    (h : lineOk l c st (live s)) : lineOk (lineAtChange s c l) c s.clock.state (live s) := by
  obtain ⟨hlen, hpending, hmark, htarget, hhalt⟩ := h
  have hno (e : live s = false) : False := absurd (hlive.symm.trans e) (by decide)
  unfold lineAtChange
  split
  · exact lineOk_decided s c _ ⟨hlen, hpending, hmark, renewed_target, fun e => (hno e).elim⟩
  next hc => exact ⟨hlen, hpending, hmark, fun ht => absurd (htarget ht).1 hc, fun e => (hno e).elim⟩

theorem only_calendarClockChange (s : State) : Only calParts s (calendarClockChange s) := by
  unfold calendarClockChange
  extract_lets c s1
  have h1 : Only calParts s s1 := Only.ite _ ((only_set_cal s _).mono (by decide)) (Only.refl _ s)
  exact h1.trans (only_calendarEvent true s1)

/-- A clock change delivered: the lines have their conditions in whatever state the clock is now. -/
theorem linesOk_deliverChange (s s1 : State) (h1 : Only [.clock, .nClock] s s1) (h : linesOk s) :
    linesOk (deliverChange s1) := by
  have hlive1 : live s1 = live s := live_congr (h1.supply (by decide))
  unfold deliverChange
  split
  next hlive =>
    intro i
    have h2 := only_calendarClockChange s1
    have h3 := only_linesClockChange (calendarClockChange s1)
    have hlive2 : live (calendarClockChange s1) = true := (live_congr (h2.supply (by decide))).trans hlive
    rw [linesClockChange_line, h3.cfg (by decide), h3.clock (by decide), live_congr (h3.supply (by decide))]
    refine lineOk_lineAtChange _ _ _ s.clock.state hlive2 ?_
    rw [h2.lines (by decide), h2.cfg (by decide), h1.lines (by decide), h1.cfg (by decide), hlive2, ← hlive, hlive1]
    exact h i
  next hlive =>
    intro i
    rw [h1.lines (by decide), h1.cfg (by decide), hlive1]
    obtain ⟨hlen, hpending, hmark, -, hhalt⟩ := h i
    have hdead := hhalt (hlive1 ▸ Bool.eq_false_iff.mpr hlive)
    exact ⟨hlen, hpending, hmark, fun ht => absurd ((congrArg Option.isSome hdead.2).symm.trans ht) Bool.false_ne_true, hhalt⟩

/-- The end of a clock event: the invariants of the other blocks hold, where the clock comes to UNSET by a change that is
delivered. -/
theorem keepsRest_clockEvent {s s1 : State} (b : State) (k : Kinds) (h1 : Only [.clock, .nClock] s s1)
    (hk : k = 0 → s1.clock.state = .unset → s.clock.state = .unset) : KeepsRest s (finishClock b k s1) := by
  have h := (ordinary_finishClock b k s1).toKeepsRest
  have hlive1 : live s1 = live s := live_congr (h1.supply (by decide))
  refine ⟨?_, ?_, ?_, ?_, ?_, ?_⟩
  · exact fun hs => h.queues (by rwa [queuesOk, h1.portU (by decide), h1.portS (by decide)])
  · intro hs
    refine h.trips ?_
    simpa only [tripsOk, groupsOk, h1.recorder (by decide), h1.ann (by decide)] using hs
  · exact fun hs => h.units (by simpa only [unitsOk, h1.tally (by decide)] using hs)
  · intro hs
    refine h.shifts ?_
    simpa only [shiftsOk, handoverOk, h1.shift (by decide), anySettling_congr (h1.ann (by decide))] using hs
  · intro hs
    by_cases hk0 : k = 0
    · refine h.lines (fun i => ?_)
      rw [h1.lines (by decide), h1.cfg (by decide), hlive1]
      obtain ⟨hlen, hpending, hmark, htarget, hhalt⟩ := hs i
      exact ⟨hlen, hpending, hmark, fun ht => ⟨(htarget ht).1, fun e => (htarget ht).2 (hk hk0 e)⟩, hhalt⟩
    · have hd := linesOk_deliverChange s s1 h1 hs
      unfold finishClock
      extract_lets c s2
      have e2 : s2 = deliverChange s1 := if_neg hk0
      rw [e2]
      exact (Ordinary.ite _ (fun _ => ordinary_notice _ _ _) (fun _ => Ordinary.refl _)).lines hd
  · exact fun hs => h.writer (by simpa only [writerOk, h1.store (by decide), hlive1] using hs)

/-- The kinds of an event that changes the clock itself: the clock keeps its ranges, and comes to UNSET by a clock change
alone. -/
structure ClockMoves (s t : State) (k : Kinds) : Prop where
  only : Only [.clock, .nClock] s t
  ok : clockOk s → clockOk t
  unset : k = 0 → t.clock.state = .unset → s.clock.state = .unset

theorem ordinary_clockEvent {s s1 : State} {k : Kinds} (b : State) (h1 : ClockMoves s s1 k) :
    Ordinary s (finishClock b k s1) where
  toKeepsRest := keepsRest_clockEvent b k h1.only h1.unset
  clock := (ordinary_finishClock b k s1).clock ∘ h1.ok
  supply := (ordinary_finishClock b k s1).supply.trans (h1.only.supply (by decide))
  runs := (RunsUp.of_eq (h1.only.tally (by decide))).trans (ordinary_finishClock b k s1).runs

theorem ClockMoves.trans {s t u : State} {k : Kinds} (h : ClockMoves s t 0) (h' : ClockMoves t u k) :
    ClockMoves s u k :=
  ⟨h.only.trans h'.only, h'.ok ∘ h.ok, fun hk hu => h.unset rfl (h'.unset hk hu)⟩

/-- After a further change the kinds are no longer none. -/
theorem ClockMoves.join {s t u : State} {k j : Kinds} (h : ClockMoves s t k) (h' : ClockMoves t u j)
    (hj : k ||| j ≠ 0) : ClockMoves s u (k ||| j) :=
  ⟨h.only.trans h'.only, h'.ok ∘ h.ok, fun e => absurd e hj⟩

end Sys2Proof.Proofs
end

section
/-! SUPPORT. The clock: the ranges its stages keep, markers, ticks and settings of the time (01). -/

namespace Sys2Proof.Proofs

open Sys2Proof Sys2Proof.Machine Sys2Proof.Safety

/-- The ranges of the clock's items. -/
abbrev clockIn (c : Clock) : Prop :=
  c.ns < 1000000000 ∧ c.accNs < 1000000 ∧ -150000 ≤ c.trim ∧ c.trim ≤ 150000 ∧ -150000 ≤ c.integral
    ∧ c.integral ≤ 150000 ∧ c.good ≤ 4 ∧ (c.state = .acquire → c.good ≤ 3)

theorem clockMoves_set (s : State) (c : Clock) (k : Kinds) (ok : clockIn s.clock → clockIn c)
    (unset : k = 0 → c.state = .unset → s.clock.state = .unset) : ClockMoves s { s with clock := c } k :=
  ⟨(only_set_clock s c).mono (by decide), ok, unset⟩

theorem clockMoves_count (s : State) (c : Clock) (f : ClockCnt → ClockCnt) (k : Kinds)
    (ok : clockIn s.clock → clockIn c) (unset : k = 0 → c.state = .unset → s.clock.state = .unset) :
    ClockMoves s ({ s with clock := c }.countClock f) k :=
  ⟨(only_set_clock s c).seq (only_countClock _ f) (by decide) (by decide), ok, unset⟩

theorem clockIn_applyLabel {c : Clock} (v : Second) (h : clockIn c) : clockIn (c.applyLabel v) := by
  obtain ⟨-, hacc, ht, ht', hi, hi', -⟩ := h
  exact ⟨Nat.zero_lt_succ _, hacc, ht, ht', hi, hi', Nat.zero_le _, fun _ => Nat.zero_le _⟩

theorem clockIn_relabel {c : Clock} (d : BitVec 32) (h : clockIn c) : clockIn (c.relabel d) := by
  obtain ⟨hns, hacc, ht, ht', hi, hi', -⟩ := h
  exact ⟨hns, hacc, ht, ht', hi, hi', Nat.zero_le _, fun _ => Nat.zero_le _⟩

theorem clockIn_wrapped {c : Clock} (h : clockIn c) : clockIn c.wrapped := by
  obtain ⟨hns, hacc, ht, ht', hi, hi', -⟩ := h
  exact ⟨hns, hacc, ht, ht', hi, hi', Nat.zero_le _, fun _ => Nat.zero_le _⟩

theorem clockIn_enterHoldover {c : Clock} (h : clockIn c) : clockIn c.enterHoldover := by
  obtain ⟨hns, hacc, -, -, hi, hi', -⟩ := h
  exact ⟨hns, hacc, hi, hi', hi, hi', Nat.zero_le _, fun _ => Nat.zero_le _⟩

/-! ### The stages of a marker -/

/-- A label is applied: the clock of R8, with the label taken out of its slot. -/
theorem labelStage_manual (s : State) (v : Second) (h : s.clock.held = some (.manual v)) :
    labelStage s = ⟨{ s with clock := { s.clock with held := none }.applyLabel v }.countClock
      (fun c => { c with manualSet := c.manualSet + 1 }), kindManualSet, true⟩ := by
  simp only [labelStage, h]

theorem labelStage_beacon_applied (s : State) (v : Second) (at' : Instant) (h : s.clock.held = some (.beacon v at'))
    (hst : s.clock.state = .unset ∨ s.clock.state = .manual) :
    labelStage s = ⟨{ s with clock := { s.clock with held := none }.applyLabel v }.countClock
      (fun c => { c with relabel := c.relabel + 1 }), kindRelabel, true⟩ := by
  rcases hst with hst | hst <;> simp only [labelStage, h, hst]

/-- In ACQUIRE and HOLDOVER a label that differs relabels, and one that agrees is consumed (R9). -/
theorem labelStage_beacon_compared (s : State) (v : Second) (at' : Instant) (h : s.clock.held = some (.beacon v at'))
    (hst : s.clock.state = .acquire ∨ s.clock.state = .holdover) :
    labelStage s = if v - nearestSecond s.clock.sec s.clock.ns = 0 then ⟨{ s with clock.held := none }, 0, false⟩
      else relabelState (v - nearestSecond s.clock.sec s.clock.ns) { s with clock.held := none } := by
  rcases hst with hst | hst <;> simp only [labelStage, h, hst]

/-- In LOCKED only a difference seen before relabels, and another is kept (R9). -/
theorem labelStage_beacon_locked (s : State) (v : Second) (at' : Instant) (h : s.clock.held = some (.beacon v at'))
    (hst : s.clock.state = .locked) :
    labelStage s = if v - nearestSecond s.clock.sec s.clock.ns = 0 then
        ⟨{ s with clock.held := none, clock.pendingDiff := none }, 0, false⟩
      else if s.clock.pendingDiff = some (v - nearestSecond s.clock.sec s.clock.ns).toInt then
        relabelState (v - nearestSecond s.clock.sec s.clock.ns) { s with clock.held := none }
      else ⟨{ s with
          clock.held := none
          clock.pendingDiff := some (v - nearestSecond s.clock.sec s.clock.ns).toInt }.countClock
        (fun c => { c with labelMismatch := c.labelMismatch + 1 }), 0, false⟩ := by
  simp only [labelStage, h, hst]

/-- Without a label UNSET aligns the second (R13), LOCKED forgets a kept difference, and the other states do nothing. -/
theorem labelStage_none (s : State) (h : s.clock.held = none) :
    labelStage s = match s.clock.state with
      | .unset => ⟨{ s with clock.held := none, clock.ns := 0, clock.frac := 0 }, 0, true⟩
      | .locked => ⟨{ s with clock.held := none, clock.pendingDiff := none }, 0, false⟩
      | .manual => ⟨{ s with clock.held := none }, 0, false⟩
      | .acquire => ⟨{ s with clock.held := none }, 0, false⟩
      | .holdover => ⟨{ s with clock.held := none }, 0, false⟩ := by
  cases hst : s.clock.state <;> simp only [labelStage, h, hst]

theorem clockMoves_relabelState (d : BitVec 32) (s s0 : State) (h : ClockMoves s s0 0) :
    ClockMoves s (relabelState d s0).state (relabelState d s0).kinds := by
  unfold relabelState
  dsimp only
  exact h.trans (clockMoves_count s0 (s0.clock.relabel d) _ kindRelabel (clockIn_relabel d) (fun e => absurd e (by decide)))

theorem clockMoves_labelStage (s : State) : ClockMoves s (labelStage s).state (labelStage s).kinds := by
  have h0 : ClockMoves s { s with clock.held := none } 0 := clockMoves_set s _ 0 id (fun _ => id)
  have applied (v : Second) (f : ClockCnt → ClockCnt) (k : Kinds) (hk : k ≠ 0) :
      ClockMoves s ({ s with clock := { s.clock with held := none }.applyLabel v }.countClock f) k :=
    clockMoves_count s _ _ _ (clockIn_applyLabel (c := { s.clock with held := none }) v) (fun e => absurd e hk)
  rcases hheld : s.clock.held with _ | ⟨v, at'⟩ | v
  · rw [labelStage_none s hheld]
    cases s.clock.state with
    | unset => exact clockMoves_set s _ 0 (fun h => ⟨Nat.zero_lt_succ _, h.2⟩) (fun _ => id)
    | locked => exact clockMoves_set s _ 0 id (fun _ => id)
    | manual => exact h0
    | acquire => exact h0
    | holdover => exact h0
  · have compared (hst : s.clock.state = .acquire ∨ s.clock.state = .holdover) :
        ClockMoves s (labelStage s).state (labelStage s).kinds := by
      rw [labelStage_beacon_compared s v at' hheld hst]
      split
      · exact h0
      · exact clockMoves_relabelState _ s _ h0
    have taken (hst : s.clock.state = .unset ∨ s.clock.state = .manual) :
        ClockMoves s (labelStage s).state (labelStage s).kinds := by
      rw [labelStage_beacon_applied s v at' hheld hst]
      dsimp only
      exact applied v _ kindRelabel (by decide)
    cases hst : s.clock.state with
    | unset => exact taken (.inl hst)
    | manual => exact taken (.inr hst)
    | acquire => exact compared (.inl hst)
    | holdover => exact compared (.inr hst)
    | locked =>
      rw [labelStage_beacon_locked s v at' hheld hst]
      split_ifs
      · exact clockMoves_set s _ 0 id (fun _ => id)
      · exact clockMoves_relabelState _ s _ h0
      · dsimp only
        exact clockMoves_count s _ _ 0 id (fun _ => id)
  · rw [labelStage_manual s v hheld]
    dsimp only
    exact applied v _ kindManualSet (by decide)

theorem clockMoves_stepClock (s : State) : ClockMoves s (stepClock s).1 (stepClock s).2 := by
  unfold stepClock
  split
  · dsimp only
    exact clockMoves_count s _ _ _ (fun h => ⟨Nat.zero_lt_succ _, (clockIn_wrapped h).2⟩) (fun e => absurd e (by decide))
  · dsimp only
    refine clockMoves_count s _ _ _ (fun h => ?_) (fun e => absurd e (by decide))
    obtain ⟨-, hacc, ht, ht', hi, hi', -⟩ := h
    exact ⟨Nat.zero_lt_succ _, hacc, ht, ht', hi, hi', Nat.zero_le _, fun _ => Nat.zero_le _⟩

/-- A step is a clock change, with a relabel or without (R19). -/
theorem stepClock_kinds (k : Kinds) (s : State) : k ||| (stepClock s).2 ≠ 0 := by
  unfold stepClock
  split
  · exact (by decide : ∀ k : Kinds, k ||| kindRangeWrap ≠ 0) k
  · exact (by decide : ∀ k : Kinds, k ||| kindStep ≠ 0) k

theorem clampInt_bounds (lo hi x : Int) (h : lo ≤ hi) : lo ≤ clampInt lo hi x ∧ clampInt lo hi x ≤ hi := by
  exact ⟨le_max_left _ _, max_le h (min_le_left _ _)⟩

theorem clockMoves_slewClock (e : Int) (s : State) : ClockMoves s (slewClock e s) 0 := by
  refine clockMoves_set s _ 0 (fun h => ?_) (fun _ => id)
  obtain ⟨hns, hacc, -, -, -, -, hg⟩ := h
  have hi := clampInt_bounds (-150000) 150000 (s.clock.integral - roundDiv e (2 ^ s.cfg.clock.ki)) (by decide)
  have ht := clampInt_bounds (-150000) 150000 (clampInt (-150000) 150000 (s.clock.integral
    - roundDiv e (2 ^ s.cfg.clock.ki)) - roundDiv e (2 ^ s.cfg.clock.kp)) (by decide)
  exact ⟨hns, hacc, ht.1, ht.2, hi.1, hi.2, hg⟩

theorem clockMoves_windowStage (e : Int) (s : State) : ClockMoves s (windowStage e s) 0 := by
  have good (n : Nat) (st : ClockState) (d : Option Int) (hn : n ≤ 4) (hst : st = .acquire → n ≤ 3) (hu : st ≠ .unset) :
      ClockMoves s { s with clock.state := st, clock.good := n, clock.pendingDiff := d } 0 :=
    clockMoves_set s _ 0 (fun h => ⟨h.1, h.2.1, h.2.2.1, h.2.2.2.1, h.2.2.2.2.1, h.2.2.2.2.2.1, hn, hst⟩)
      (fun _ h => absurd h hu)
  unfold windowStage
  extract_lets wl inside
  split
  next hst =>
    split_ifs with hin h4
    · exact good 4 .locked _ le_rfl nofun nofun
    · refine clockMoves_set s _ 0 (fun h => ?_) (fun _ => id)
      obtain ⟨hns, hacc, ht, ht', hi, hi', -, hg⟩ := h
      have h3 := hg hst
      have h3' : s.clock.good + 1 ≤ 3 := by omega
      exact ⟨hns, hacc, ht, ht', hi, hi', h3'.trans (by decide), fun _ => h3'⟩
    · refine clockMoves_set s _ 0 (fun h => ?_) (fun _ => id)
      obtain ⟨hns, hacc, ht, ht', hi, hi', -⟩ := h
      exact ⟨hns, hacc, ht, ht', hi, hi', Nat.zero_le _, fun _ => Nat.zero_le _⟩
  next =>
    split
    · exact ⟨Only.refl _ s, id, fun _ => id⟩
    · exact good 0 .acquire _ (by decide) (fun _ => by decide) nofun
  next =>
    exact good (if inside then 1 else 0) .acquire s.clock.pendingDiff (by split <;> decide)
      (fun _ => by split <;> decide) nofun
  next =>
    exact good (if inside then 1 else 0) .acquire s.clock.pendingDiff (by split <;> decide)
      (fun _ => by split <;> decide) nofun
  next => exact ⟨Only.refl _ s, id, fun _ => id⟩

theorem ordinary_acceptedMarker (s : State) : Ordinary s (acceptedMarker s) := by
  unfold acceptedMarker
  extract_lets e c s1 r p
  have h1 : ClockMoves s s1 0 := clockMoves_count s _ _ 0 id (fun _ => id)
  have hr : ClockMoves s r.state r.kinds := h1.trans (clockMoves_labelStage s1)
  split_ifs
  · exact ordinary_clockEvent s hr
  · exact ordinary_clockEvent s (hr.join (clockMoves_stepClock r.state) (stepClock_kinds _ _))
  · have hw := (clockMoves_slewClock e r.state).trans (clockMoves_windowStage e _)
    exact ordinary_clockEvent s
      ⟨hr.only.trans hw.only, hw.ok ∘ hr.ok, fun hk hu => hr.unset hk (hw.unset rfl hu)⟩

/-- The lines follow the clock only where it comes to UNSET. -/
theorem linesOk_of_clock {s t : State} (h : Only [.clock, .nClock] s t)
    (hu : t.clock.state = .unset → s.clock.state = .unset) (hs : linesOk s) : linesOk t := by
  intro i
  rw [h.lines (by decide), h.cfg (by decide), live_congr (h.supply (by decide))]
  obtain ⟨hlen, hpending, hmark, htarget, hhalt⟩ := hs i
  exact ⟨hlen, hpending, hmark, fun ht => ⟨(htarget ht).1, fun e => (htarget ht).2 (hu e)⟩, hhalt⟩

/-- A clock event without a change to deliver. -/
theorem ordinary_clockMoves {s t : State} (h : ClockMoves s t 0) : Ordinary s t :=
  Ordinary.of_only h.only (clock := fun _ => h.ok) (lines := fun _ => linesOk_of_clock h.only (h.unset rfl))

theorem ordinary_markerEdge (s : State) : Ordinary s (markerEdge s) := by
  unfold markerEdge
  split_ifs
  · exact ordinary_acceptedMarker s
  · exact Ordinary.free (only_countClock s _)
  · exact Ordinary.refl s

/-! ### Labels, silence, holdover, setting of the time -/

theorem ordinary_setHeld (s : State) (h : Option HeldLabel) : Ordinary s { s with clock.held := h } :=
  ordinary_clockMoves (clockMoves_set s _ 0 id (fun _ => id))

theorem ordinary_beaconLabel (v : Second) (s : State) : Ordinary s (beaconLabel v s) := ordinary_setHeld s _

theorem ordinary_silenceExpires (s : State) : Ordinary s (silenceExpires s) :=
  ordinary_clockEvent s (clockMoves_count s _ _ 0 clockIn_enterHoldover (fun _ => nofun))

theorem ordinary_setLimitTaken (s : State) (b : Bool) : Ordinary s { s with clock.limitTaken := b } :=
  ordinary_clockMoves (clockMoves_set s _ 0 id (fun _ => id))

theorem ordinary_holdoverLimitReached (s : State) : Ordinary s (holdoverLimitReached s) := by
  unfold holdoverLimitReached
  extract_lets c s1
  have h1 : Ordinary s s1 := ordinary_clockMoves (clockMoves_count s _ _ 0 id (fun _ => id))
  exact h1.trans (ordinary_notice _ _ _)

theorem ordinary_limitChanged (s : State) (c : Settings) (hc : c.lines = s.cfg.lines) :
    Ordinary s (limitChanged s { s with cfg := c }) := by
  unfold limitChanged
  extract_lets s0 s1 c1
  have h1 : Ordinary s s1 := by
    refine Ordinary.ite _ (fun _ => ?_) (fun _ => ordinary_setCfg s c hc)
    refine (ordinary_holdoverLimitReached s).trans (ordinary_setCfg _ c ?_)
    rw [hc]
    unfold holdoverLimitReached
    rw [(only_notice _ _ _).cfg (by decide)]
    rfl
  exact (h1.trans (ordinary_setLimitTaken s1 _)).trans (ordinary_finishClock _ _ _)

theorem ordinary_setTimeNow (sec : Second) (ns : Nat) (s : State) (hns : ns < 1000000000) :
    Ordinary s (setTimeNow sec ns s) := by
  refine ordinary_clockEvent s (clockMoves_count s _ _ _ (fun h => ?_) (fun e => absurd e (by decide)))
  obtain ⟨-, hacc, -, -, hi, hi', -⟩ := h
  exact ⟨hns, hacc, hi, hi', hi, hi', Nat.zero_le _, fun _ => Nat.zero_le _⟩

end Sys2Proof.Proofs
end

section
/-! SUPPORT. The tick: what elapsed time and the reading keep (01, Reading and rate). -/

namespace Sys2Proof.Proofs

open Sys2Proof Sys2Proof.Machine Sys2Proof.Safety

theorem advance_fst (ns : Nat) (frac : BitVec 32) (inc : Nat) :
    (advance ns frac inc).1 = (ns * 4294967296 + frac.toNat + inc) / 4294967296 := by
  norm_num [advance]

/-- One tick adds no more than 30,518 ns. -/
theorem tickIncrement_le (s : State) (h : clockOk s) : tickIncrement s ≤ 131074000000000 := by
  obtain ⟨-, -, ht, ht', -⟩ := h
  unfold tickIncrement
  split
  · have hb : trimIncrement s.clock.trim ≤ 30000000 := by
      unfold trimIncrement roundDiv
      have hn : (2 * (s.clock.trim * 67108864).natAbs + 390625) / (2 * 390625) ≤ 30000000 := by omega
      rcases lt_trichotomy (s.clock.trim * 67108864) 0 with h | h | h
      · rw [Int.sign_eq_neg_one_of_neg h]
        omega
      · rw [h]
        decide
      · rw [Int.sign_eq_one_of_pos h]
        omega
    norm_num
    omega
  · norm_num

/-- The elapsed part of a tick, with the millisecond it completes or without (R3). -/
theorem tickElapsed_of_carry {c : Clock} {inc : Nat} (h : 1000000 ≤ (advance c.accNs c.accFrac inc).1) :
    c.tickElapsed inc = { c with
      accNs := (advance c.accNs c.accFrac inc).1 - 1000000, accFrac := (advance c.accNs c.accFrac inc).2, m := c.m + 1 } := by
  rw [Clock.tickElapsed]
  exact if_pos h

theorem tickElapsed_of_not_carry {c : Clock} {inc : Nat} (h : (advance c.accNs c.accFrac inc).1 < 1000000) :
    c.tickElapsed inc = { c with
      accNs := (advance c.accNs c.accFrac inc).1, accFrac := (advance c.accNs c.accFrac inc).2 } := by
  rw [Clock.tickElapsed]
  exact if_neg (not_le.mpr h)

/-- The reading's part of a tick, with the second it completes or without (R2). -/
theorem tickReading_of_carry {c : Clock} {inc : Nat} (h : 1000000000 ≤ (advance c.ns c.frac inc).1) :
    c.tickReading inc = { c with
      ns := (advance c.ns c.frac inc).1 - 1000000000, frac := (advance c.ns c.frac inc).2, sec := c.sec + 1 } := by
  rw [Clock.tickReading]
  exact if_pos h

theorem tickReading_of_not_carry {c : Clock} {inc : Nat} (h : (advance c.ns c.frac inc).1 < 1000000000) :
    c.tickReading inc = { c with ns := (advance c.ns c.frac inc).1, frac := (advance c.ns c.frac inc).2 } := by
  rw [Clock.tickReading]
  exact if_neg (not_le.mpr h)

theorem clockIn_tickElapsed {c : Clock} (inc : Nat) (hinc : inc ≤ 131074000000000) (h : clockIn c) :
    clockIn (c.tickElapsed inc) := by
  obtain ⟨hns, hacc, hrest⟩ := h
  have hf := c.accFrac.isLt
  have ha := advance_fst c.accNs c.accFrac inc
  rcases Nat.lt_or_ge (advance c.accNs c.accFrac inc).1 1000000 with hc | hc
  · rw [tickElapsed_of_not_carry hc]
    exact ⟨hns, hc, hrest⟩
  · have hlt : (advance c.accNs c.accFrac inc).1 - 1000000 < 1000000 := by omega
    rw [tickElapsed_of_carry hc]
    exact ⟨hns, hlt, hrest⟩

theorem clockIn_tickReading {c : Clock} (inc : Nat) (hinc : inc ≤ 131074000000000) (h : clockIn c) :
    clockIn (c.tickReading inc) := by
  obtain ⟨hns, hrest⟩ := h
  have hf := c.frac.isLt
  have ha := advance_fst c.ns c.frac inc
  rcases Nat.lt_or_ge (advance c.ns c.frac inc).1 1000000000 with hc | hc
  · rw [tickReading_of_not_carry hc]
    exact ⟨hc, hrest⟩
  · have hlt : (advance c.ns c.frac inc).1 - 1000000000 < 1000000000 := by omega
    rw [tickReading_of_carry hc]
    exact ⟨hlt, hrest⟩

theorem tickElapsed_state (c : Clock) (inc : Nat) : (c.tickElapsed inc).state = c.state := by
  rcases Nat.lt_or_ge (advance c.accNs c.accFrac inc).1 1000000 with hc | hc
  · rw [tickElapsed_of_not_carry hc]
  · rw [tickElapsed_of_carry hc]

theorem tickReading_state (c : Clock) (inc : Nat) : (c.tickReading inc).state = c.state := by
  rcases Nat.lt_or_ge (advance c.ns c.frac inc).1 1000000000 with hc | hc
  · rw [tickReading_of_not_carry hc]
  · rw [tickReading_of_carry hc]

theorem ordinary_elapsedTick (s : State) : Ordinary s (elapsedTick s) :=
  ordinary_clockMoves (clockMoves_set s _ 0 (fun h => clockIn_tickElapsed _ (tickIncrement_le s h) h)
    (fun _ h => (tickElapsed_state s.clock _).symm.trans h))

/-- What a tick of the reading keeps: for the clock's own ranges its increment has to be a tick's. -/
structure OrdinaryTick (n : Nat) (s t : State) : Prop extends KeepsRest s t where
  clock : n ≤ 131074000000000 → clockOk s → clockOk t
  supply : t.supply = s.supply
  runs : RunsUp s t

theorem OrdinaryTick.then {n : Nat} {s t u : State} (h : OrdinaryTick n s t) (k : Ordinary t u) : OrdinaryTick n s u where
  toKeepsRest := h.toKeepsRest.trans k.toKeepsRest
  clock hn := k.clock ∘ h.clock hn
  supply := k.supply.trans h.supply
  runs := h.runs.trans k.runs

/-- After the elapsed time of the tick that the increment is taken from, the clock keeps its ranges too. -/
theorem OrdinaryTick.of_elapsed {s u t : State} (k : Ordinary s u) (h : OrdinaryTick (tickIncrement s) u t) :
    Ordinary s t where
  toKeepsRest := k.toKeepsRest.trans h.toKeepsRest
  clock hs := h.clock (tickIncrement_le s hs) (k.clock hs)
  supply := h.supply.trans k.supply
  runs := k.runs.trans h.runs

theorem ordinaryTick_set (n : Nat) (s : State) (c : Clock)
    (hc : n ≤ 131074000000000 → clockIn s.clock → clockIn c) (hu : c.state = .unset → s.clock.state = .unset) :
    OrdinaryTick n s { s with clock := c } where
  toKeepsRest := KeepsRest.of_only (only_set_clock s c) (lines := fun _ =>
    linesOk_of_clock ((only_set_clock s c).mono (by decide)) hu)
  clock := hc
  supply := rfl
  runs := RunsUp.refl s

theorem ordinaryTick_finish (n : Nat) (s : State) (c : Clock) (f : ClockCnt → ClockCnt) (k : Kinds) (hk : k ≠ 0)
    (hc : n ≤ 131074000000000 → clockIn s.clock → clockIn c) :
    OrdinaryTick n s (finishClock s k ({ s with clock := c }.countClock f)) := by
  have h : Only [.clock, .nClock] s ({ s with clock := c }.countClock f) :=
    (only_set_clock s c).seq (only_countClock _ f) (by decide) (by decide)
  have hin : clockIn c → clockOk ({ s with clock := c }.countClock f) := id
  generalize ({ s with clock := c } : State).countClock f = s1 at h hin ⊢
  have hf := ordinary_finishClock s k s1
  exact ⟨keepsRest_clockEvent s k h (fun e => absurd e hk), fun hn hs => hf.clock (hin (hc hn hs)),
    hf.supply.trans (h.supply (by decide)), (RunsUp.of_eq (h.tally (by decide))).trans hf.runs⟩

theorem ordinaryTick_readingTick (n : Nat) (s : State) : OrdinaryTick n s (readingTick n s) :=
  ordinaryTick_set n s (s.clock.tickReading n) (clockIn_tickReading n)
    (fun h => (tickReading_state s.clock n).symm.trans h)

theorem finishClock_wrapped (s : State) (c : Clock) (f : ClockCnt → ClockCnt) :
    (let s' : State := { s with clock := c }
     finishClock s kindRangeWrap ({ s' with clock := s'.clock.wrapped }.countClock f))
      = finishClock s kindRangeWrap ({ s with clock := c.wrapped }.countClock f) := rfl

theorem takeWrap_eq (n : Nat) (s : State) : takeWrap n s = finishClock s kindRangeWrap
    ({ s with clock := (s.clock.tickReading n).wrapped }.countClock (fun c => { c with rangeWrap := c.rangeWrap + 1 })) :=
  finishClock_wrapped s (s.clock.tickReading n) _

theorem ordinaryTick_takeWrap (n : Nat) (s : State) : OrdinaryTick n s (takeWrap n s) := by
  rw [takeWrap_eq]
  exact ordinaryTick_finish n s (s.clock.tickReading n).wrapped _ _ (by decide)
    (fun hn hs => clockIn_wrapped (clockIn_tickReading n hn hs))

theorem ordinaryTick_takeReading (n : Nat) (s : State) : OrdinaryTick n s (takeReading n s) := by
  unfold takeReading
  split_ifs
  · exact ordinaryTick_takeWrap n s
  · unfold takeSecond
    extract_lets s1
    refine (ordinaryTick_readingTick n s).then (Ordinary.ite _ (fun hlive => ?_) (fun _ => Ordinary.refl _))
    exact (ordinary_calendarRollover _ _).trans (ordinary_linesRollover _ ((ordinary_calendarRollover _ _).live hlive))
  · exact ordinaryTick_readingTick n s

theorem ordinary_tickState (s : State) : Ordinary s (tickState s) :=
  (ordinaryTick_readingTick (tickIncrement s) (elapsedTick s)).of_elapsed (ordinary_elapsedTick s)

theorem ordinary_secondRollover (s : State) (h : rolloverDue s = true) : Ordinary s (secondRollover s) := by
  rw [← takeReading_second s h]
  exact (ordinaryTick_takeReading _ _).of_elapsed (ordinary_elapsedTick s)

theorem ordinary_rangeWrap (s : State) (h : wrapDue s = true) : Ordinary s (rangeWrap s) := by
  rw [← takeReading_wrap s h]
  exact (ordinaryTick_takeReading _ _).of_elapsed (ordinary_elapsedTick s)

end Sys2Proof.Proofs
end

section
/-! SUPPORT. The frame path, the match banks and the responder: what their operations keep (03, 04, 11). -/

namespace Sys2Proof.Proofs

open Sys2Proof Sys2Proof.Machine Sys2Proof.Safety

/-! ### The frame path -/

theorem ordinary_countPort (s : State) (p : Port) (f : PortCnt → PortCnt) : Ordinary s (s.countPort p f) :=
  Ordinary.free (only_countPort s p f)

theorem ordinary_frameStart (p : Port) (s : State) : Ordinary s (frameStart p s) :=
  Ordinary.ite _ (fun _ => ordinary_withPort p _ s id) (fun _ => Ordinary.refl s)

theorem ordinary_ingressPlace (p : Port) (f : RxFrame) (s : State) : Ordinary s (ingressPlace p f s) := by
  refine Ordinary.ite _ (fun hroom => ordinary_withPort p _ s (fun h => ⟨?_, h.2⟩)) (fun _ => ordinary_countPort s p _)
  rw [List.length_append]
  exact Nat.succ_le_of_lt hroom

theorem ordinary_frameReceived (p : Port) (bytes : List Byte) (s : State) : Ordinary s (frameReceived p bytes s) := by
  unfold frameReceived
  split
  · exact Ordinary.refl s
  · split
    · refine (ordinary_withPort p { s.port p with rx := none } s id).trans (Ordinary.ite _ (fun _ => ?_) (fun _ => ?_))
      · exact ordinary_countPort _ p _
      · refine Ordinary.ite _ (fun _ => ordinary_countPort _ p _) (fun _ => ?_)
        exact (ordinary_countPort _ p _).trans (ordinary_ingressPlace p _ _)
    · exact Ordinary.refl s

theorem ordinary_frameTake (s : State) : Ordinary s (frameTake s) := by
  unfold frameTake
  extract_lets p
  split
  · exact Ordinary.refl s
  next f rest hq =>
    refine (ordinary_withPort p { s.port p with ingress := rest } s (fun h => ⟨?_, h.2⟩)).trans
      (Ordinary.free (only_set_cls _ _))
    exact (Nat.le_succ _).trans (by simpa [hq] using h.1)

/-- Taking the head of a queue leaves it within its capacity. -/
theorem portOk_dequeue {x : PortPath} {c : EgressClass} {f : TxFrame} {rest : List TxFrame} (h : portOk x)
    (hq : x.queue c = f :: rest) : portOk (x.withQueue c rest) := by
  obtain ⟨hin, hurgent, hnotice, hbulk⟩ := h
  have shorter {q : List TxFrame} {n : Nat} (e : q = f :: rest) (hn : q.length ≤ n) : rest.length ≤ n := by
    rw [e] at hn
    exact (Nat.le_succ _).trans hn
  cases c with
  | urgent => exact ⟨hin, shorter hq hurgent, hnotice, hbulk⟩
  | notice => exact ⟨hin, hurgent, shorter hq hnotice, hbulk⟩
  | bulk => exact ⟨hin, hurgent, hnotice, shorter hq hbulk⟩

theorem ordinary_txStart (p : Port) (s : State) : Ordinary s (txStart p s) := by
  unfold txStart
  split
  · exact Ordinary.refl s
  · split
    · exact Ordinary.refl s
    next hq => exact ordinary_withPort p _ s (fun h => portOk_dequeue h hq)

theorem ordinary_txComplete (p : Port) (s : State) : Ordinary s (txComplete p s) := by
  unfold txComplete
  split
  · exact Ordinary.refl s
  next t _ =>
    extract_lets x s1
    have h1 : Ordinary s s1 :=
      (ordinary_withPort p { s.port p with tx := none } s id).trans (ordinary_countPort _ p _)
    exact h1.trans (Ordinary.ite _ (fun _ => Ordinary.free (only_set_resp s1 _)) (fun _ => Ordinary.refl _))

/-! ### Matching (R63 to R78) -/

theorem ordinary_unitAction (p : UnitParams) (w : Work) (m : Nat) (x : Option Nat) (s : State) :
    Ordinary s (unitAction p w m x s) := by
  unfold unitAction
  split
  · exact ordinary_unitReport _ _ _ _ s
  · exact Ordinary.free (only_countCls s _)
  · exact Ordinary.refl s

theorem ordinary_handoverAction (w : Work) (v c o : Nat) (s : State) : Ordinary s (handoverAction w v c o s) := by
  unfold handoverAction
  split
  · exact Ordinary.ite _ (fun _ => ordinary_handoverReport _ _ s) (fun _ => Ordinary.free (only_countCls s _))
  · exact Ordinary.free (only_countCls s _)

theorem ordinary_takeAction (a : Action) (w : Work) (s t : State) (wr : Option StampWrite)
    (h : takeAction a w s = some (t, wr)) : Ordinary s t := by
  have mapped {α : Type} {o : Option α} {f : α → State × Option StampWrite} (hf : ∀ x, Ordinary s (f x).1)
      (e : o.map f = some (t, wr)) : Ordinary s t := by
    obtain ⟨x, -, hx⟩ := Option.map_eq_some_iff.mp e
    have := hf x
    rwa [hx] at this
  have same (x : Option StampWrite) (e : some (s, x) = some (t, wr)) : Ordinary s t := by
    obtain ⟨rfl, -⟩ := Prod.mk.inj (Option.some.inj e)
    exact Ordinary.refl s
  cases a with
  | pass => exact same _ h
  | drop => exact same _ h
  | stamp x => exact same _ h
  | trip p => exact mapped (fun r => ordinary_tripReport r s) h
  | unit p => exact mapped (fun r => ordinary_unitAction p w r.1 r.2 s) h
  | beacon o => exact mapped (fun v => ordinary_beaconLabel _ s) h
  | handover v c o =>
    unfold takeAction at h
    dsimp only at h
    split at h
    · obtain ⟨rfl, -⟩ := Prod.mk.inj (Option.some.inj h)
      exact ordinary_handoverAction w _ _ _ s
    · cases h

theorem ordinary_stampWrite (wr : StampWrite) (w : Work) (g : Gathered) (s : State) :
    Ordinary s (stampWrite wr w g s).2 := by
  unfold stampWrite
  split
  · exact Ordinary.refl s
  · dsimp only
    exact ordinary_countPort s w.port _

theorem ordinary_raiseFault (k : FaultKind) (i : Nat) (w : Work) (s : State) : Ordinary s (raiseFault k i w s) :=
  (Ordinary.free (only_set_cls s _)).trans (Ordinary.free (only_countCls _ _))

theorem ordinary_actEntry (i : Fin 128) (w : Work) (g : Gathered) (s : State) : Ordinary s (actEntry i w g s).2 := by
  unfold actEntry
  extract_lets e g1 c s1
  have h1 : Ordinary s s1 := Ordinary.free (only_set_cls s _)
  split
  · exact h1.trans (ordinary_raiseFault _ _ _ s1)
  next ht => exact h1.trans (ordinary_takeAction _ _ _ _ _ ht)
  next ht => exact (h1.trans (ordinary_takeAction _ _ _ _ _ ht)).trans (ordinary_stampWrite _ _ _ _)

theorem ordinary_searchBank (w : Work) :
    ∀ (fuel i : Nat) (g : Gathered) (s : State), Ordinary s (searchBank w fuel i g s).2
  | 0, _, _, s => Ordinary.refl s
  | fuel + 1, i, g, s => by
    unfold searchBank
    split
    next h =>
      extract_lets e r
      have hr : Ordinary s r.2 := ordinary_actEntry ⟨i, h⟩ w g s
      split
      · split
        · exact ordinary_raiseFault _ _ _ s
        · split
          · exact hr
          · exact hr.trans (ordinary_searchBank w fuel _ _ _)
      · exact ordinary_searchBank w fuel _ _ _
    next => exact Ordinary.refl s

theorem ordinary_outcome (w : Work) (g : Gathered) (s : State) : Ordinary s (outcome w g s) := by
  unfold outcome
  extract_lets s1
  have h1 : Ordinary s s1 := Ordinary.ite _ (fun _ => Ordinary.free (only_countCls s _)) (fun _ => Ordinary.refl _)
  exact h1.trans (Ordinary.ite _ (fun _ => ordinary_countPort s1 _ _) (fun _ => ordinary_place _ _ _ s1))

/-! ### The responder (R200 to R203) -/

theorem ordinary_setHanded (s : State) (l : List Request) : Ordinary s { s with resp.handed := l } :=
  Ordinary.free (only_set_resp s _)

theorem ordinary_answerUnknown : ∀ (l : List Request) (s : State), Ordinary s (answerUnknown l s)
  | [], s => ordinary_setHanded s []
  | r :: rs, s => by
    unfold answerUnknown
    refine Ordinary.ite _ (fun _ => ordinary_setHanded s _) (fun _ => ?_)
    exact ((Ordinary.free (only_countResp s _)).trans (ordinary_reply _ _ _)).trans (ordinary_answerUnknown rs _)

theorem ordinary_settleHanded (s : State) : Ordinary s (settleHanded s) :=
  Ordinary.ite _ (fun _ => ordinary_answerUnknown _ s) (fun _ => Ordinary.refl s)

theorem ordinary_hand (r : Request) (s : State) : Ordinary s (hand r s) :=
  (ordinary_setHanded s _).trans (ordinary_settleHanded _)

theorem ordinary_classifyFrame (w : Work) (s : State) : Ordinary s (classifyFrame w s) := by
  unfold classifyFrame
  refine Ordinary.ite _ (fun _ => ?_) (fun _ => ?_)
  · refine Ordinary.ite _ (fun _ => ordinary_countPort s _ _) (fun _ => ?_)
    exact (ordinary_countPort s _ _).trans (ordinary_hand _ _)
  · exact (ordinary_searchBank w _ _ _ s).trans (ordinary_outcome w _ _)

theorem ordinary_classificationDone (s : State) : Ordinary s (classificationDone s) := by
  unfold classificationDone
  split
  · exact Ordinary.refl s
  · exact Ordinary.ite _ (fun _ => (Ordinary.free (only_set_cls s _)).trans (ordinary_classifyFrame _ _))
      (fun _ => Ordinary.refl s)

/-- What a request does besides being taken and answered is what a request command does. -/
structure Composes (R : State → State → Prop) : Prop where
  trans : ∀ {s t u}, R s t → R t u → R s u
  ordinary : ∀ {s t}, Ordinary s t → R s t

theorem composes_ordinary : Composes Ordinary := ⟨Ordinary.trans, id⟩

theorem Composes.conduct {R : State → State → Prop} (hR : Composes R) {auth : Authority}
    {op : Request → State → Served} (hop : ∀ r s, live s = true → R s (op r s).1) (r : Request) (s : State)
    (hlive : live s = true) : R s (conduct auth op r s) := by
  unfold Machine.conduct
  extract_lets s1
  have h1 : Ordinary s s1 := Ordinary.free (only_countResp s _)
  split
  · exact hR.ordinary ((h1.trans (Ordinary.free (only_countResp s1 _))).trans (ordinary_reply _ _ _))
  · have h2 : R s (op r s1).1 := hR.trans (hR.ordinary h1) (hop r s1 (h1.live hlive))
    split
    next s2 a hs2 =>
      rw [hs2] at h2
      split
      · exact hR.trans h2 (hR.ordinary (ordinary_reply _ _ _))
      · exact h2

theorem Composes.command {R : State → State → Prop} (hR : Composes R) {auth : Authority}
    {op : Request → State → Served} (hop : ∀ r s, live s = true → R s (op r s).1) (code : Byte) (h : ReqHead)
    (body : List Byte) (s : State) : R s (command code auth op h body s) := by
  unfold Machine.command
  extract_lets r
  split
  next hlive =>
    split
    · exact hR.conduct hop r s hlive
    next x xs _ _ =>
      split
      · have h1 := ordinary_setHanded s xs
        exact hR.trans (hR.trans (hR.ordinary h1) (hR.conduct hop r _ (h1.live hlive)))
          (hR.ordinary (ordinary_settleHanded _))
      · exact hR.ordinary (ordinary_setHanded s _)
    · exact hR.ordinary (ordinary_setHanded s _)
  next => exact hR.ordinary (Ordinary.refl s)

end Sys2Proof.Proofs
end

section
/-! SUPPORT. The checkpoint writer, the requests, and every command that neither starts nor ends a domain and presets no
run time. -/

namespace Sys2Proof.Proofs

open Sys2Proof Sys2Proof.Machine Sys2Proof.Safety

/-! ### The writer (R192 to R196) -/

/-- The writer changes, the flags and the order as asked. -/
theorem ordinary_setStore (s : State) (x : Store)
    (h : writerOk s → x.order.Nodup ∧ (∀ u : Fin 6, u ∈ x.order ↔ x.flags[u].isSome = true) ∧ engineFollows x = true
      ∧ (x.engine ≠ .idle ∨ x.waiting.isSome = true → live s = true)) : Ordinary s { s with store := x } :=
  Ordinary.of_only (only_set_store s x) (writer := fun _ => h)

/-- Flags and order after the head of the order is taken. -/
theorem order_take {u : Fin 6} {rest : List (Fin 6)} {flags : Vector (Option Reason) 6} (hnodup : (u :: rest).Nodup)
    (hmem : ∀ v : Fin 6, v ∈ u :: rest ↔ flags[v].isSome = true) :
    rest.Nodup ∧ ∀ v : Fin 6, v ∈ rest ↔ (flags.set u none)[v].isSome = true := by
  obtain ⟨hu, hrest⟩ := List.nodup_cons.mp hnodup
  refine ⟨hrest, fun v => ?_⟩
  rw [getElem_set_fin]
  split
  next h => exact ⟨fun hv => absurd (h ▸ hv) hu, fun e => absurd e Bool.false_ne_true⟩
  next h => rw [← hmem v, List.mem_cons, or_iff_right h]

theorem ordinary_ckptStart (s : State) (hlive : live s = true) : Ordinary s (ckptStart s) := by
  unfold ckptStart
  split
  · exact Ordinary.refl s
  next u rest horder =>
    extract_lets why st s1 s2 gen bytes st2
    have h1 : Ordinary s s1 := by
      refine ordinary_setStore s _ (fun ⟨hnodup, hmem, heng, hlv⟩ => ?_)
      rw [horder] at hnodup hmem
      obtain ⟨hnodup', hmem'⟩ := order_take hnodup hmem
      exact ⟨hnodup', hmem', heng, hlv⟩
    have h2 : Ordinary s1 s2 := ordinary_checkpointSnapshot u s1
    refine (h1.trans h2).trans (ordinary_setStore s2 _ (fun ⟨hnodup, hmem, _, _⟩ => ⟨hnodup, hmem, ?_, ?_⟩))
    · exact Bool.and_eq_true_iff.mpr ⟨beq_self_eq_true _, beq_self_eq_true _⟩
    · exact fun _ => (h1.trans h2).live hlive

theorem ordinary_ckptComplete (s : State) : Ordinary s (ckptComplete s) := by
  unfold ckptComplete
  split
  · refine Ordinary.trans ?_ (Ordinary.free (only_countStore _ _))
    refine ordinary_setStore s _ (fun ⟨hnodup, hmem, _, hlv⟩ => ⟨hnodup, hmem, rfl, fun e => ?_⟩)
    exact hlv (e.elim (fun e => absurd rfl e) .inr)
  · exact Ordinary.refl s

theorem ordinary_imageStart (r : Request) (s : State) (hlive : live s = true) : Ordinary s (imageStart r s) :=
  ordinary_setStore s _ (fun ⟨hnodup, hmem, _, _⟩ => ⟨hnodup, hmem, rfl, fun _ => hlive⟩)

theorem ordinary_imageStartWaiting (s : State) (hlive : live s = true) : Ordinary s (imageStartWaiting s) := by
  unfold imageStartWaiting
  split
  · exact ordinary_imageStart _ s hlive
  · exact Ordinary.refl s

theorem ordinary_imageComplete (s : State) : Ordinary s (imageComplete s) := by
  unfold imageComplete
  split
  · refine Ordinary.trans (Ordinary.trans ?_ (Ordinary.free (only_countStore _ _))) (ordinary_reply _ _ _)
    refine ordinary_setStore s _ (fun ⟨hnodup, hmem, _, hlv⟩ => ⟨hnodup, hmem, rfl, fun e => ?_⟩)
    exact hlv (e.elim (fun e => absurd rfl e) .inr)
  · exact Ordinary.refl s

theorem ordinary_opStoreConfig (r : Request) (s : State) (hlive : live s = true) :
    Ordinary s (opStoreConfig r s).1 := by
  unfold opStoreConfig
  split
  · exact ordinary_imageStart r s hlive
  · exact ordinary_setStore s _ (fun ⟨hnodup, hmem, heng, _⟩ => ⟨hnodup, hmem, heng, fun _ => hlive⟩)
  · exact Ordinary.refl s
  · exact Ordinary.refl s
  · exact Ordinary.refl s

/-! ### Requests on the banks (R80 to R83) -/

theorem ordinary_activateBank (s : State) : Ordinary s (activateBank s) := Ordinary.free (only_set_cls s _)

theorem ordinary_opLoadEntry (r : Request) (s : State) : Ordinary s (opLoadEntry r s).1 := by
  unfold opLoadEntry
  split
  · exact Ordinary.refl s
  · split
    · exact Ordinary.refl s
    · split
      · exact Ordinary.free (only_set_cls s _)
      · exact Ordinary.refl s

theorem opReadEntry_state (r : Request) (s : State) : (opReadEntry r s).1 = s := by
  unfold opReadEntry
  split
  · rfl
  · dsimp only
    split_ifs <;> rfl

theorem ordinary_opCommitBank (r : Request) (s : State) : Ordinary s (opCommitBank r s).1 := by
  unfold opCommitBank
  split
  · exact Ordinary.refl s
  · split
    · exact ordinary_activateBank s
    · exact Ordinary.free (only_set_resp s _)

theorem ordinary_commitActivated (s : State) : Ordinary s (commitActivated s) := by
  unfold commitActivated
  split
  · exact Ordinary.refl s
  next r _ =>
    have h1 : Ordinary s { s with resp.state := .ready, resp.inProgress := none } := Ordinary.free (only_set_resp s _)
    exact ((h1.trans (ordinary_activateBank _)).trans (ordinary_reply _ _ _)).trans (ordinary_settleHanded _)

/-! ### Requests that set something (R17, R114 to R117, R161, R176, R208) -/

theorem ordinary_opAckGroup (r : Request) (s : State) : Ordinary s (opAckGroup r s).1 := by
  unfold opAckGroup
  split
  · exact Ordinary.refl s
  · split
    · exact Ordinary.refl s
    · split
      next hg => exact ordinary_ackGroup _ s hg
      next => exact Ordinary.refl s

theorem ordinary_opResetGroup (r : Request) (s : State) : Ordinary s (opResetGroup r s).1 := by
  unfold opResetGroup
  split
  · exact Ordinary.refl s
  · split
    · exact Ordinary.refl s
    · split
      next => exact ordinary_quietReset _ s
      next => exact Ordinary.refl s
      next => exact Ordinary.refl s
      next hg => exact ordinary_resetGroup _ s hg

theorem ordinary_opSetMask (r : Request) (s : State) : Ordinary s (opSetMask r s).1 := by
  unfold opSetMask
  split
  · exact Ordinary.refl s
  · split
    · exact ordinary_setCfg s _ rfl
    · exact Ordinary.refl s

theorem ordinary_opSetTime (r : Request) (s : State) : Ordinary s (opSetTime r s).1 := by
  unfold opSetTime
  split
  · exact Ordinary.refl s
  · split
    · exact Ordinary.refl s
    next ns _ _ =>
      split
      · exact Ordinary.refl s
      · exact ordinary_setTimeNow _ _ s
          (Nat.lt_of_le_of_lt (max_le (Nat.zero_le _) (min_le_left 999999999 ns)) (by decide))
      · exact ordinary_setHeld s _
      · exact Ordinary.refl s

theorem ordinary_setDial (i : Fin 8) (pos : Nat) (pol : Wire) (s : State) (hlive : live s = true)
    (hbusy : lineBusy i s = false) : Ordinary s (setDial i pos pol s) :=
  (ordinary_takeChange i _ s hlive hbusy).trans (Ordinary.free (only_countLines _ _))

theorem ordinary_opSetDial (r : Request) (s : State) (hlive : live s = true) : Ordinary s (opSetDial r s).1 := by
  unfold opSetDial
  split
  · exact Ordinary.refl s
  · split
    · exact Ordinary.refl s
    · split
      · exact Ordinary.refl s
      · split
        · split
          · exact Ordinary.refl s
          · split
            next => exact Ordinary.refl s
            next hbusy => exact ordinary_setDial _ _ _ s hlive (Bool.eq_false_iff.mpr hbusy)
        · exact Ordinary.refl s

/-- A setting other than a line's leaves the lines' settings. -/
theorem set_lines (p : Param) (b : List Byte) (c c' : Settings) (clamped : Bool) (hp : ∀ i f, p ≠ .line i f)
    (h : p.set b c = some (c', clamped)) : c'.lines = c.lines := by
  have mapped {α : Type} {o : Option α} {f : α → Settings × Bool} (hf : ∀ x, (f x).1.lines = c.lines)
      (e : o.map f = some (c', clamped)) : c'.lines = c.lines := by
    obtain ⟨x, -, hx⟩ := Option.map_eq_some_iff.mp e
    exact (congrArg (fun r => r.1.lines) hx).symm.trans (hf x)
  have given {x : Settings × Bool} (hx : x.1.lines = c.lines) (e : some x = some (c', clamped)) : c'.lines = c.lines :=
    (congrArg (fun r => r.1.lines) (Option.some.inj e)).symm.trans hx
  cases p with
  | line i f => exact absurd rfl (hp i f)
  | enabled => exact mapped (fun _ => rfl) h
  | entry e f => exact mapped (fun _ => rfl) h
  | mgmtU => exact mapped (fun _ => rfl) h
  | totalSel u =>
    unfold Param.set at h
    dsimp only at h
    split at h
    · exact given rfl h
    · cases h
  | station =>
    unfold Param.set at h
    dsimp only at h
    split at h
    · cases h
    · exact given rfl h
  | clock k => exact given rfl h
  | offset => exact given rfl h
  | amount => exact given rfl h
  | start k => exact given rfl h
  | stop k => exact given rfl h
  | lead => exact given rfl h
  | plausibility => exact given rfl h
  | window g => exact given rfl h
  | holdLen u => exact given rfl h
  | overdueLen => exact given rfl h
  | lapseLen => exact given rfl h
  | initialCrew => exact given rfl h
  | mtype => exact given rfl h
  | noticeDst => exact given rfl h

theorem ordinary_settingTakesEffect (p : Param) (s : State) (c : Settings) (hc : c.lines = s.cfg.lines) :
    Ordinary s (settingTakesEffect p s { s with cfg := c }) := by
  have h1 : Ordinary s { s with cfg := c } := ordinary_setCfg s c hc
  cases p with
  | clock k => exact Ordinary.ite _ (fun _ => ordinary_limitChanged s c hc) (fun _ => h1)
  | offset => exact h1.trans (ordinary_calendarEvent true _)
  | enabled => exact h1.trans (ordinary_calendarEvent true _)
  | amount => exact h1.trans (ordinary_calendarEvent true _)
  | start _ => exact h1.trans (ordinary_calendarEvent true _)
  | stop _ => exact h1.trans (ordinary_calendarEvent true _)
  | lead => exact h1.trans (ordinary_leadChanged _)
  | entry _ _ => exact h1
  | plausibility => exact h1
  | window _ => exact h1
  | holdLen _ => exact h1
  | totalSel _ => exact h1
  | overdueLen => exact h1
  | lapseLen => exact h1
  | initialCrew => exact h1
  | line _ _ => exact h1
  | station => exact h1
  | mtype => exact h1
  | mgmtU => exact h1
  | noticeDst => exact h1

theorem ordinary_setParam (id : Nat) (p : Param) (b : List Byte) (s : State) (hlive : live s = true) :
    Ordinary s (setParam id p b s).1 := by
  unfold setParam
  split
  next i f =>
    split
    · exact Ordinary.refl s
    · split
      next => exact Ordinary.refl s
      next hbusy => exact ordinary_takeChange i _ s hlive (Bool.eq_false_iff.mpr hbusy)
  next hp =>
    split
    · exact Ordinary.refl s
    next c clamped hset =>
      exact ordinary_settingTakesEffect p s c (set_lines p b s.cfg c clamped hp hset)

theorem ordinary_opSetParam (r : Request) (s : State) (hlive : live s = true) : Ordinary s (opSetParam r s).1 := by
  unfold opSetParam
  split
  · exact Ordinary.refl s
  · split
    · exact Ordinary.refl s
    · split
      · exact Ordinary.refl s
      · exact ordinary_setParam _ _ _ s hlive

theorem ordinary_opForceHandover (r : Request) (s : State) : Ordinary s (opForceHandover r s).1 := by
  unfold opForceHandover
  split
  · exact Ordinary.refl s
  · split
    · exact Ordinary.refl s
    · extract_lets crew
      have h1 : Ordinary s (complete .forced r.head.stamp crew.1 none none s) := ordinary_complete _ _ _ _ _ s
      generalize complete .forced r.head.stamp crew.1 none none s = t at h1 ⊢
      dsimp only
      exact h1.trans (Ordinary.free (only_countShift t _))

/-- The lowest index at which a test on the elements of a vector, with their indices, succeeds. -/
theorem firstIndex_eq_some {α : Type} {n : Nat} (v : Vector α n) (p : α × Nat → Bool) (k : Nat) :
    ((v.toList.zipIdx).find? p).map Prod.snd = some k
      ↔ ∃ h : k < n, p (v[k], k) = true ∧ ∀ (j : Nat) (hj : j < k), p (v[j], j) = false := by
  rw [Option.map_eq_some_iff]
  constructor
  · rintro ⟨a, ha, rfl⟩
    obtain ⟨hp, i, hi, rfl, hmin⟩ := List.find?_eq_some_iff_getElem.mp ha
    have hin : i < n := by simpa using hi
    have e (j : Nat) (hj : j < v.toList.zipIdx.length) (hjn : j < n) : v.toList.zipIdx[j] = (v[j], j) := by simp
    rw [e i hi hin] at hp ⊢
    refine ⟨hin, hp, fun j hj => ?_⟩
    have h := hmin j hj
    rw [e j _ (hj.trans hin)] at h
    simpa using h
  · rintro ⟨hk, hp, hmin⟩
    refine ⟨(v[k], k), List.find?_eq_some_iff_getElem.mpr ⟨hp, k, by simpa using hk, by simp, fun j hj => ?_⟩, rfl⟩
    simpa using hmin j hj

/-- The group with highest priority is ANNOUNCED, and those before it are not. -/
theorem highestAnnounced_eq_some (s : State) (g : Fin 16) :
    (highestAnnounced s).bind groupOf = some g ↔
      s.ann[g].state = .announced ∧ ∀ j : Fin 16, j < g → s.ann[j].state ≠ .announced := by
  unfold highestAnnounced
  rw [Option.bind_eq_some_iff]
  simp only [firstIndex_eq_some, beq_iff_eq, beq_eq_false_iff_ne]
  constructor
  · rintro ⟨k, ⟨hk, hst, hmin⟩, hg⟩
    obtain rfl : (⟨k, hk⟩ : Fin 16) = g := by simpa [groupOf, hk] using hg
    exact ⟨hst, fun j hj => hmin j.val hj⟩
  · rintro ⟨hst, hmin⟩
    exact ⟨g.val, ⟨g.isLt, hst, fun j hj => hmin ⟨j, hj.trans g.isLt⟩ hj⟩, by simp [groupOf]⟩

theorem ordinary_opAckNext (r : Request) (s : State) : Ordinary s (opAckNext r s).1 := by
  unfold opAckNext
  split
  next g hg => exact ordinary_ackGroup g s ((highestAnnounced_eq_some s g).mp hg).1
  next => exact Ordinary.refl s

theorem ordinary_opRestart (r : Request) (s : State) : Ordinary s (opRestart r s).1 :=
  (ordinary_place _ _ _ s).trans (Ordinary.free (only_set_resp _ _))

/-! ### The reading requests -/

/-- Clearing a block's counters changes counters only, the recorder's slots among them. -/
theorem only_clearBlock (s : State) (n : Nat) : Only
    [.recorder, .nClock, .nCal, .nPortU, .nPortS, .nCls, .nRecorder, .nAnn, .nTally, .nShift, .nLines, .nStore, .nResp] s
    (clearBlock s n) := by
  unfold clearBlock
  split <;> constructor <;> intro h <;> first | rfl | exact absurd (by decide) h

theorem clearBlock_list (s : State) (n : Nat) :
    (clearBlock s n).recorder.list = s.recorder.list ∧ (clearBlock s n).recorder.nextSeq = s.recorder.nextSeq := by
  unfold clearBlock
  split <;> exact ⟨rfl, rfl⟩

theorem ordinary_clearBlock (s : State) (n : Nat) : Ordinary s (clearBlock s n) := by
  have h := only_clearBlock s n
  refine Ordinary.of_only h (trips := fun _ hs => ?_)
  rw [tripsOk, groupsOk, (clearBlock_list s n).1, (clearBlock_list s n).2, h.ann (by decide)]
  exact hs

theorem ordinary_opReadCounters (r : Request) (s : State) : Ordinary s (opReadCounters r s).1 := by
  unfold opReadCounters
  split
  · exact Ordinary.refl s
  · split
    · exact Ordinary.ite _ (fun _ => ordinary_clearBlock s _) (fun _ => Ordinary.refl s)
    · exact Ordinary.refl s

theorem opReadTrips_state (r : Request) (s : State) : (opReadTrips r s).1 = s := by
  unfold opReadTrips
  split
  · rfl
  · split <;> rfl

theorem opReadTally_state (r : Request) (s : State) : (opReadTally r s).1 = s := by
  unfold opReadTally
  split
  · rfl
  · split <;> rfl

theorem opReadShifts_state (r : Request) (s : State) : (opReadShifts r s).1 = s := by
  unfold opReadShifts
  split
  · rfl
  · split <;> rfl

end Sys2Proof.Proofs
end

section
/-! SUPPORT. The start sequences part by part: what the image load, the start of the path, the silencing and the start of
the lines, and the examiners at a start leave (10, Start sequences). -/

namespace Sys2Proof.Proofs

open Sys2Proof Sys2Proof.Machine Sys2Proof.Safety

/-! ### Lines agreed, cut and started -/

/-- A line's records brought into agreement with its configuration (R170). -/
def agreed (s : State) (c : LineCfg) (l : Line) : Line :=
  match c.function.cycle with
  | some cy => if l.cycle = some cy then l else { l with cycle := none }
  | none =>
    if c.function = .hourMeter ∧ l.basis ≠ some c.selection then
      { l with mark := tallySecs s c.selection / 36 * 36, basis := some c.selection }
    else l

/-- A silenced line (R181, R182). -/
def cut (l : Line) : Line := { l with pulse := .rest, pending := [], target := none }

/-- A line as a start leaves it (R181, R182). -/
def started (s : State) (c : LineCfg) (l : Line) : Line :=
  { l with
    target := if c.function.cycle.isSome then
        (if s.clock.state = .unset then none else slaveTarget c.function s.cal.fields)
      else l.target
    pulse := if c.function.cycle.isSome ∨ c.function = .hourMeter then .gap (s.clock.m + BitVec.ofNat 48 c.gap)
      else .rest }

theorem agree_line (i j : Fin 8) (s : State) :
    (agree i s).lines[j] = if j = i then agreed s s.cfg.lines[i] s.lines[i] else s.lines[j] := by
  unfold agree agreed
  extract_lets c l
  cases c.function.cycle with
  | some cy =>
    dsimp only
    split
    · split
      · next h => rw [h]
      · rfl
    · exact withLine_getElem i j _ s
  | none =>
    dsimp only
    split
    · exact realign_line i j s
    · split
      · next h => rw [h]
      · rfl

theorem cutLine_line (i j : Fin 8) (s : State) :
    (cutLine i s).lines[j] = if j = i then cut s.lines[i] else s.lines[j] := by
  unfold cutLine
  extract_lets l s1
  have h1 : s1.lines[j] = if j = i then cut s.lines[i] else s.lines[j] := withLine_getElem i j _ s
  split <;> exact h1

theorem startLine_line (i j : Fin 8) (s : State) :
    (startLine i s).lines[j] = if j = i then started s s.cfg.lines[i] s.lines[i] else s.lines[j] := by
  unfold startLine started
  extract_lets c s1 gap p l
  have hc : s1.clock = s.clock := by
    unfold s1
    split
    · exact (only_renewTarget i s).clock (by decide)
    · rfl
  have hl (k : Fin 8) : s1.lines[k] = if k = i ∧ c.function.cycle.isSome = true then { s.lines[i] with
      target := if s.clock.state = .unset then none else slaveTarget c.function s.cal.fields } else s.lines[k] := by
    unfold s1
    split
    next h =>
      rw [renewTarget_line]
      simp only [h, and_true, c]
    next h => simp only [h, and_false, if_false, Bool.false_eq_true]
  rw [withLine_getElem]
  by_cases hj : j = i
  · rw [if_pos hj, if_pos hj]
    have hi : l = _ := hl i
    unfold p gap
    rw [hc]
    by_cases hcy : c.function.cycle.isSome = true
    · rw [if_pos ⟨rfl, hcy⟩] at hi
      rw [hi, if_pos (Or.inl hcy), if_pos hcy]
    · rw [if_neg (fun h => hcy h.2)] at hi
      rw [hi, if_neg hcy]
  · rw [if_neg hj, if_neg hj, hl j, if_neg (fun h => hj h.1)]

theorem only_cutLine (i : Fin 8) (s : State) : Only lineParts s (cutLine i s) := by
  unfold cutLine
  extract_lets l s1
  have h1 : Only lineParts s s1 := (only_withLine s i _).mono (by decide)
  split
  · exact h1.trans ((only_countLines s1 _).mono (by decide))
  · exact h1
  
theorem only_startLine (i : Fin 8) (s : State) : Only [.lines] s (startLine i s) := by
  unfold startLine
  extract_lets c s1 gap p
  have h1 : Only [.lines] s s1 := Only.ite _ (only_renewTarget i s) (Only.refl _ s)
  exact h1.trans (only_withLine s1 i _)

theorem oneLine_agree : OneLine agree where
  only := only_agree
  others i j s h := by rw [agree_line, if_neg h]
  own i s l n h := by
    rw [agree_line, agree_line, if_pos rfl, if_pos rfl]
    dsimp only
    rw [h]
    rfl

theorem oneLine_cutLine : OneLine cutLine where
  only := only_cutLine
  others i j s h := by rw [cutLine_line, if_neg h]
  own i s l n h := by
    rw [cutLine_line, cutLine_line, if_pos rfl, if_pos rfl]
    dsimp only
    rw [h]

theorem oneLine_startLine : OneLine startLine where
  only i s := (only_startLine i s).mono (by decide)
  others i j s h := by rw [startLine_line, if_neg h]
  own i s l n h := by
    rw [startLine_line, startLine_line, if_pos rfl, if_pos rfl]
    dsimp only
    rw [h]
    rfl

theorem agreeAll_line (i : Fin 8) (s : State) : (agreeAll s).lines[i] = agreed s s.cfg.lines[i] s.lines[i] := by
  rw [agreeAll, oneLine_agree.all, agree_line, if_pos rfl]

theorem cutLines_line (i : Fin 8) (s : State) : (cutLines s).lines[i] = cut s.lines[i] := by
  rw [cutLines, oneLine_cutLine.all, cutLine_line, if_pos rfl]

theorem only_agreeAll (s : State) : Only lineParts s (agreeAll s) := oneLine_agree.only_all s

theorem only_cutLines (s : State) : Only lineParts s (cutLines s) := oneLine_cutLine.only_all s

theorem startLines_line (i : Fin 8) (s : State) :
    (startLines s).lines[i] = started s s.cfg.lines[i] s.lines[i] := by
  rw [startLines, oneLine_startLine.all, startLine_line, if_pos rfl]

theorem only_startLines (s : State) : Only [.lines] s (startLines s) :=
  Only.foldl _ (fun s i => only_startLine i s) allLines s

/-- Agreement changes a line's dial or its mark, and nothing else of it. -/
theorem agreed_eq (s : State) (c : LineCfg) (l : Line) : agreed s c l = { l with
    cycle := (agreed s c l).cycle, mark := (agreed s c l).mark, basis := (agreed s c l).basis } := by
  unfold agreed
  split <;> split <;> rfl

theorem agreed_mark (s : State) (c : LineCfg) (l : Line) (h : l.mark % 36 = 0) : (agreed s c l).mark % 36 = 0 := by
  unfold agreed
  split
  · split <;> exact h
  · split
    · exact Nat.mul_mod_left _ 36
    · exact h

/-! ### The calendar at a start (R42) -/

/-- With no last minute an examiner only takes one up (R34, R36). -/
theorem examine_none (es : Vector ScheduleEntry 8) (n : Int) : examine es none n = (n, none, false) := rfl

theorem only_runExaminers_fresh (s : State) (hd : s.cal.lastDue = none) (hw : s.cal.lastWarn = none) :
    Only [.cal] s (runExaminers s) := by
  have hdue : runDue s = { s with cal.lastDue := some (presentMinute s) } := by
    simp only [runDue, hd, examine_none, Bool.false_eq_true, if_false]
  unfold runExaminers
  split
  · exact Only.refl _ s
  · rw [hdue]
    have h1 : Only [.cal] s { s with cal.lastDue := some (presentMinute s) } := only_set_cal s _
    unfold runWarning
    split
    · exact h1.trans (only_set_cal _ _)
    · simp only [hw, examine_none, Bool.false_eq_true, if_false]
      exact h1.trans (only_set_cal _ _)

theorem only_calendarStart (s : State) : Only [.cal] s (calendarStart s) :=
  (only_set_cal s _).trans (only_runExaminers_fresh _ rfl rfl)

theorem calendarStart_fields (s : State) : (calendarStart s).cal.fields = localTime s.cfg.cal s.clock.sec
    ∧ (calendarStart s).cal.flag = inForce s.cfg.cal s.clock.sec := runExaminers_fields _

/-! ### Frames of the start sequences -/

theorem only_set_supply (s : State) (x : Supply) : Only [.supply] s { s with supply := x } := by
  constructor <;> intro h <;> first | rfl | exact absurd (by decide) h

theorem only_emptyPath (s : State) : Only [.portU, .portS, .cls] s (emptyPath s) := by
  constructor <;> intro h <;> first | rfl | exact absurd (by decide) h

theorem only_startPath (s : State) : Only [.portU, .portS, .cls, .resp] s (startPath s) := by
  constructor <;> intro h <;> first | rfl | exact absurd (by decide) h

/-- The event counters of every block. -/
abbrev counterParts : List Part :=
  [.nClock, .nCal, .nPortU, .nPortS, .nCls, .nRecorder, .nAnn, .nTally, .nShift, .nLines, .nStore, .nResp]

theorem only_set_cnt (s : State) (x : Counters) : Only counterParts s { s with cnt := x } := by
  constructor <;> intro h <;> first | rfl | exact absurd (by decide) h

theorem only_clearCounters (s : State) : Only (.store :: counterParts) s (clearCounters s) := by
  constructor <;> intro h <;> first | rfl | exact absurd (by decide) h

/-- The state an image load leaves before the lines agree and the calendar starts. -/
def loaded (s : State) : State :=
  { s with
    cfg := (imageToLoad s.store).1, store.configInvalid := (validImage s.store).isNone
    cls.active := (imageToLoad s.store).2, cls.standby := (imageToLoad s.store).2, cls.hits := Vector.replicate 128 0 }

theorem loaded_cfg (s : State) : (loaded s).cfg = (imageToLoad s.store).1 := rfl
theorem loaded_store (s : State) : (loaded s).store = { s.store with configInvalid := (validImage s.store).isNone } := rfl
theorem loaded_cls (s : State) : (loaded s).cls = { s.cls with
    active := (imageToLoad s.store).2, standby := (imageToLoad s.store).2, hits := Vector.replicate 128 0 } := rfl

theorem imageLoad_eq (s : State) : imageLoad s = { calendarStart (agreeAll (loaded s)) with
    clock.limitTaken := ageAtLimit (calendarStart (agreeAll (loaded s)))
      (calendarStart (agreeAll (loaded s))).cfg.clock.holdLimit } := by
  unfold imageLoad loaded
  generalize imageToLoad s.store = p
  obtain ⟨c, bank⟩ := p
  dsimp only

/-- What an image load changes (R198). -/
abbrev imageParts : List Part := [.clock, .cal, .cls, .lines, .nLines, .store, .cfg]

theorem only_loaded (s : State) : Only imageParts s (loaded s) := by
  unfold loaded
  generalize imageToLoad s.store = p
  constructor <;> intro h <;> first | rfl | exact absurd (by decide) h

theorem only_agreed_started (s : State) : Only [.cal, .lines, .nLines] s (calendarStart (agreeAll s)) :=
  (only_agreeAll s).seq (only_calendarStart _) (by decide) (by decide)

/-- The load with what its three steps leave. -/
theorem imageLoad_parts (s : State) : ∃ t b, imageLoad s = { t with clock.limitTaken := b }
    ∧ Only [.cal, .lines, .nLines] (loaded s) t ∧ t = calendarStart (agreeAll (loaded s)) :=
  ⟨_, _, imageLoad_eq s, only_agreed_started (loaded s), rfl⟩

theorem only_imageLoad (s : State) : Only imageParts s (imageLoad s) := by
  obtain ⟨t, b, e, h, -⟩ := imageLoad_parts s
  rw [e]
  exact ((only_loaded s).trans (h.mono (by decide))).trans ((only_set_clock t _).mono (by decide))

theorem imageLoad_cfg (s : State) : (imageLoad s).cfg = (imageToLoad s.store).1 := by
  obtain ⟨t, b, e, h, -⟩ := imageLoad_parts s
  rw [e]
  exact (h.cfg (by decide)).trans (loaded_cfg s)

theorem imageLoad_cls (s : State) : (imageLoad s).cls = { s.cls with
    active := (imageToLoad s.store).2, standby := (imageToLoad s.store).2, hits := Vector.replicate 128 0 } := by
  obtain ⟨t, b, e, h, -⟩ := imageLoad_parts s
  rw [e]
  exact (h.cls (by decide)).trans (loaded_cls s)

theorem imageLoad_store (s : State) :
    (imageLoad s).store = { s.store with configInvalid := (validImage s.store).isNone } := by
  obtain ⟨t, b, e, h, -⟩ := imageLoad_parts s
  rw [e]
  exact (h.store (by decide)).trans (loaded_store s)

theorem imageLoad_clock (s : State) :
    (imageLoad s).clock = { s.clock with limitTaken := (imageLoad s).clock.limitTaken } := by
  obtain ⟨t, b, e, h, -⟩ := imageLoad_parts s
  rw [e]
  have hc : t.clock = s.clock := h.clock (by decide)
  dsimp only
  rw [hc]

theorem imageLoad_fields (s : State) :
    (imageLoad s).cal.fields = localTime (imageToLoad s.store).1.cal s.clock.sec
      ∧ (imageLoad s).cal.flag = inForce (imageToLoad s.store).1.cal s.clock.sec := by
  obtain ⟨t, b, e, -, ht⟩ := imageLoad_parts s
  have h := calendarStart_fields (agreeAll (loaded s))
  have ha := only_agreeAll (loaded s)
  have hcfg : (agreeAll (loaded s)).cfg = (imageToLoad s.store).1 := (ha.cfg (by decide)).trans (loaded_cfg s)
  have hclock : (agreeAll (loaded s)).clock = s.clock := ha.clock (by decide)
  rw [hcfg, hclock, ← ht] at h
  rw [e]
  exact h

theorem imageLoad_line (i : Fin 8) (s : State) :
    (imageLoad s).lines[i] = agreed s (imageToLoad s.store).1.lines[i] s.lines[i] := by
  obtain ⟨t, b, e, -, ht⟩ := imageLoad_parts s
  have hlines : t.lines = (agreeAll (loaded s)).lines := by
    rw [ht]
    exact (only_calendarStart _).lines (by decide)
  rw [e]
  dsimp only
  rw [hlines, agreeAll_line, loaded_cfg]
  rfl

end Sys2Proof.Proofs
end

section
/-! SUPPORT. The commands of the supply monitor: what a start, the reset line, a BACKUP entry and the loss of the retained
domain keep (10). -/

namespace Sys2Proof.Proofs

open Sys2Proof Sys2Proof.Machine Sys2Proof.Safety

/-! ### Lines at rest while the main domain is lost or held -/

/-- Every line rests, has nothing pending and no target; its mark is in order. -/
def silent (s : State) : Prop :=
  ∀ i : Fin 8, s.lines[i].pulse = .rest ∧ s.lines[i].pending = [] ∧ s.lines[i].target = none ∧ s.lines[i].mark % 36 = 0

theorem linesOk_of_silent {s : State} (h : silent s) : linesOk s := by
  intro i
  obtain ⟨hpulse, hpending, htarget, hmark⟩ := h i
  rw [hpulse, hpending, htarget]
  exact ⟨Nat.zero_le _, fun _ => rfl, hmark, fun e => absurd e Bool.false_ne_true, fun _ => ⟨rfl, rfl⟩⟩

theorem silent_of_not_live {s : State} (hlive : live s = false) (h : linesOk s) : silent s := by
  intro i
  obtain ⟨-, hpending, hmark, -, hhalt⟩ := h i
  obtain ⟨hpulse, htarget⟩ := hhalt hlive
  exact ⟨hpulse, hpending (by rw [hpulse]; rfl), htarget, hmark⟩

theorem silent_congr {s t : State} (h : t.lines = s.lines) (hs : silent s) : silent t := by
  unfold silent
  rw [h]
  exact hs

theorem silent_imageLoad {s : State} (h : silent s) : silent (imageLoad s) := by
  intro i
  obtain ⟨hpulse, hpending, htarget, hmark⟩ := h i
  rw [imageLoad_line, agreed_eq]
  exact ⟨hpulse, hpending, htarget, agreed_mark _ _ _ hmark⟩

theorem silent_cutLines {s : State} (h : ∀ i : Fin 8, s.lines[i].mark % 36 = 0) : silent (cutLines s) := by
  intro i
  rw [cutLines_line]
  exact ⟨rfl, rfl, rfl, h i⟩

/-- Lines at rest, once started, have their conditions. -/
theorem linesOk_startLines {s : State} (hlive : live s = true) (h : silent s) : linesOk (startLines s) := by
  intro i
  have hf := only_startLines s
  rw [startLines_line, hf.cfg (by decide), hf.clock (by decide), live_congr (hf.supply (by decide)), hlive]
  obtain ⟨-, hpending, htarget, hmark⟩ := h i
  refine ⟨?_, fun _ => hpending, hmark, ?_, fun e => absurd e.symm Bool.false_ne_true⟩
  · show (s.lines[i].pending).length ≤ 8
    rw [hpending]
    exact Nat.zero_le _
  · unfold started
    dsimp only
    split
    · exact renewed_target
    · rw [htarget]
      exact fun e => absurd e Bool.false_ne_true

/-! ### The writer stopped -/

/-- The store at the reset line or RESTART (R195). -/
def restoredStore (st : Store) : Store :=
  match st.engine with
  | .idle => { st with waiting := none }
  | .checkpoint u slot _ why _ _ =>
    { st with
      slots := st.slots.set slot .torn, flags := st.flags.set u (some why), order := u :: st.order.filter (· != u)
      engine := .idle, waiting := none, abandoned := true }
  | .image _ _ _ => { st with image := .torn, engine := .idle, waiting := none }

theorem abandonAndRestore_eq (s : State) : abandonAndRestore s = { s with store := restoredStore s.store } := by
  cases h : s.store.engine <;> simp only [abandonAndRestore, restoredStore, abandonProgram, h]

theorem restoredStore_idle (st : Store) : (restoredStore st).engine = .idle ∧ (restoredStore st).waiting = none := by
  unfold restoredStore
  split
  next h => exact ⟨h, rfl⟩
  next => exact ⟨rfl, rfl⟩
  next => exact ⟨rfl, rfl⟩

/-- An idle writer without a store waiting asks nothing of the main domain. -/
theorem writerOk_of_idle {s : State} (hidle : s.store.engine = .idle) (hwait : s.store.waiting = none)
    (hnodup : s.store.order.Nodup) (hmem : ∀ u : Fin 6, u ∈ s.store.order ↔ s.store.flags[u].isSome = true) :
    writerOk s := by
  refine ⟨hnodup, hmem, ?_, ?_⟩
  · unfold engineFollows
    rw [hidle]
  · rw [hidle, hwait]
    exact fun e => e.elim (fun e => absurd rfl e) (fun e => absurd e Bool.false_ne_true)

theorem restoredStore_order {st : Store} (hnodup : st.order.Nodup)
    (hmem : ∀ u : Fin 6, u ∈ st.order ↔ st.flags[u].isSome = true) :
    (restoredStore st).order.Nodup
      ∧ ∀ u : Fin 6, u ∈ (restoredStore st).order ↔ (restoredStore st).flags[u].isSome = true := by
  unfold restoredStore
  split
  · exact ⟨hnodup, hmem⟩
  next u slot gen why bytes e _ =>
    refine ⟨List.nodup_cons.mpr ⟨fun h => ?_, hnodup.filter _⟩, fun v => ?_⟩
    · simp at h
    · rw [getElem_set_fin, List.mem_cons, List.mem_filter, bne_iff_ne]
      split
      next h => exact ⟨fun _ => rfl, fun _ => .inl h⟩
      next h => rw [or_iff_right h, and_iff_left h, hmem v]
  · exact ⟨hnodup, hmem⟩

/-- A writer that does not run, where the main domain does not run. -/
theorem idle_of_not_live {s : State} (hlive : live s = false) (h : writerOk s) :
    s.store.engine = .idle ∧ s.store.waiting = none := by
  obtain ⟨-, -, -, hrun⟩ := h
  rw [hlive] at hrun
  have hno := fun e => Bool.false_ne_true (hrun e)
  refine ⟨by_contra (fun e => hno (.inl e)), ?_⟩
  exact Option.not_isSome_iff_eq_none.mp (fun e => hno (.inr e))

/-! ### The main domain held and restarted (R190) -/

/-- What holding the main domain changes. -/
abbrev holdParts : List Part := [.clock, .portU, .portS, .cls, .resp, .lines, .nLines, .store]

theorem only_mainHold (s : State) : Only holdParts s (mainHold s) := by
  unfold mainHold
  rw [abandonAndRestore_eq]
  refine Only.trans ?_ ((only_cutLines _).mono (by decide))
  constructor <;> intro h <;> first | rfl | exact absurd (by decide) h

theorem mainHold_line (i : Fin 8) (s : State) : (mainHold s).lines[i] = cut s.lines[i] := by
  unfold mainHold
  rw [abandonAndRestore_eq]
  exact cutLines_line i _

theorem mainHold_store (s : State) : (mainHold s).store = restoredStore s.store := by
  unfold mainHold
  rw [abandonAndRestore_eq]
  exact (only_cutLines _).store (by decide)

theorem mainHold_clock (s : State) : (mainHold s).clock = s.clock.hold := by
  unfold mainHold
  rw [abandonAndRestore_eq]
  exact (only_cutLines _).clock (by decide)

theorem mainHold_ports (s : State) : (mainHold s).portU = PortPath.empty ∧ (mainHold s).portS = PortPath.empty := by
  unfold mainHold
  rw [abandonAndRestore_eq]
  exact ⟨(only_cutLines _).portU (by decide), (only_cutLines _).portS (by decide)⟩

theorem clockIn_hold {c : Clock} (h : clockIn c) : clockIn c.hold := by
  obtain ⟨hns, hacc, ht, ht', hi, hi', -⟩ := h
  exact ⟨hns, hacc, ht, ht', hi, hi', Nat.zero_le _, fun _ => Nat.zero_le _⟩

theorem queuesOk_empty {s : State} (hu : s.portU = PortPath.empty) (hs : s.portS = PortPath.empty) : queuesOk s := by
  rw [queuesOk, hu, hs]
  exact ⟨⟨Nat.zero_le _, Nat.zero_le _, Nat.zero_le _, Nat.zero_le _⟩,
    ⟨Nat.zero_le _, Nat.zero_le _, Nat.zero_le _, Nat.zero_le _⟩⟩

/-- The main domain held: the invariants are kept, whatever the supply monitor holds afterwards. -/
theorem keeps_mainHold (s : State) (x : Supply) : Keeps s (mainHold { s with supply := x }) where
  toKeepsRest := by
    have h := only_mainHold { s with supply := x }
    refine KeepsRest.of_only (l := .supply :: holdParts) ((only_set_supply s x).seq h (by decide) (by decide))
      (queues := fun _ _ => queuesOk_empty (mainHold_ports _).1 (mainHold_ports _).2)
      (lines := fun _ hs => linesOk_of_silent (fun i => ?_)) (writer := fun _ ⟨hnodup, hmem, _, _⟩ => ?_)
    · rw [mainHold_line]
      exact ⟨rfl, rfl, rfl, (hs i).2.2.1⟩
    · have hst := mainHold_store { s with supply := x }
      obtain ⟨hnodup', hmem'⟩ := restoredStore_order hnodup hmem
      obtain ⟨hidle, hwait⟩ := restoredStore_idle s.store
      refine writerOk_of_idle ?_ ?_ ?_ ?_ <;> rw [hst]
      · exact hidle
      · exact hwait
      · exact hnodup'
      · exact hmem'
  clock hs := by
    have hc : clockIn (mainHold { s with supply := x }).clock := by
      rw [mainHold_clock]
      exact clockIn_hold hs
    exact hc

/-- What a restart of the main domain changes. -/
abbrev restartParts : List Part :=
  [.clock, .cal, .portU, .portS, .cls, .resp, .lines, .store, .cfg] ++ counterParts

theorem only_mainRestart (s : State) : Only restartParts s (mainRestart s) :=
  ((((only_imageLoad s).mono (by decide)).trans ((only_startPath _).mono (by decide))).trans
    ((only_startLines _).mono (by decide))).trans ((only_clearCounters _).mono (by decide))

/-- What follows the image load in a restart. -/
theorem restartTail_clock (t : State) : (clearCounters (startLines (startPath t))).clock = t.clock :=
  ((only_clearCounters _).clock (by decide)).trans
    (((only_startLines _).clock (by decide)).trans ((only_startPath t).clock (by decide)))

theorem clearCounters_store (t : State) : (clearCounters t).store = { t.store with abandoned := false } := rfl

theorem restartTail_store (t : State) :
    (clearCounters (startLines (startPath t))).store = { t.store with abandoned := false } := by
  rw [clearCounters_store, (only_startLines _).store (by decide), (only_startPath t).store (by decide)]

theorem startPath_ports (t : State) : (startPath t).portU = PortPath.empty ∧ (startPath t).portS = PortPath.empty :=
  ⟨rfl, rfl⟩

theorem restartTail_ports (t : State) : (clearCounters (startLines (startPath t))).portU = PortPath.empty
    ∧ (clearCounters (startLines (startPath t))).portS = PortPath.empty := by
  rw [(only_clearCounters _).portU (by decide), (only_clearCounters _).portS (by decide),
    (only_startLines _).portU (by decide), (only_startLines _).portS (by decide)]
  exact startPath_ports t

theorem started_startPath (t : State) : started (startPath t) = started t := rfl

theorem restartTail_line (i : Fin 8) (t : State) :
    (clearCounters (startLines (startPath t))).lines[i] = started t t.cfg.lines[i] t.lines[i] := by
  rw [(only_clearCounters _).lines (by decide), startLines_line, started_startPath,
    (only_startPath t).cfg (by decide), (only_startPath t).lines (by decide)]

theorem restartTail_linesOk (t : State) (hlive : live t = true) (h : silent t) :
    linesOk (clearCounters (startLines (startPath t))) := by
  have hf := only_startPath t
  have hc := only_clearCounters (startLines (startPath t))
  have hs : linesOk (startLines (startPath t)) := linesOk_startLines
    ((live_congr (hf.supply (by decide))).trans hlive) (silent_congr (hf.lines (by decide)) h)
  rw [linesOk, hc.lines (by decide), hc.cfg (by decide), hc.clock (by decide), live_congr (hc.supply (by decide))]
  exact hs

theorem mainRestart_clock (s : State) :
    (mainRestart s).clock = { s.clock with limitTaken := (mainRestart s).clock.limitTaken } := by
  have h : (mainRestart s).clock = (imageLoad s).clock := restartTail_clock (imageLoad s)
  rw [h]
  exact imageLoad_clock s

theorem mainRestart_store (s : State) :
    (mainRestart s).store = { s.store with configInvalid := (validImage s.store).isNone, abandoned := false } := by
  rw [mainRestart, restartTail_store, imageLoad_store]

theorem mainRestart_ports (s : State) :
    (mainRestart s).portU = PortPath.empty ∧ (mainRestart s).portS = PortPath.empty :=
  restartTail_ports (imageLoad s)

theorem keeps_mainRestart (s : State) (x : Supply) (hlive : live { s with supply := x } = true)
    (hsilent : linesOk s → silent s) : Keeps s (mainRestart { s with supply := x }) where
  toKeepsRest := by
    have h := only_mainRestart { s with supply := x }
    have hlive' : live (mainRestart { s with supply := x }) = true :=
      (live_congr (h.supply (by decide))).trans hlive
    refine KeepsRest.of_only (l := .supply :: restartParts) ((only_set_supply s x).seq h (by decide) (by decide))
      (queues := fun _ _ => queuesOk_empty (mainRestart_ports _).1 (mainRestart_ports _).2)
      (lines := fun _ hs => ?_) (writer := fun _ hs => ?_)
    · rw [mainRestart]
      refine restartTail_linesOk _ ?_ (silent_imageLoad (silent_congr rfl (hsilent hs)))
      rw [live_congr ((only_imageLoad _).supply (by decide)), hlive]
    · obtain ⟨hnodup, hmem, heng, -⟩ := hs
      rw [writerOk, mainRestart_store, hlive']
      exact ⟨hnodup, hmem, heng, fun _ => rfl⟩
  clock hs := by
    have hc : clockIn (mainRestart { s with supply := x }).clock := by
      rw [mainRestart_clock]
      exact hs
    exact hc

end Sys2Proof.Proofs
end

section
/-! SUPPORT. The start sequences and the losses of a domain: what each of them keeps (10). -/

namespace Sys2Proof.Proofs

open Sys2Proof Sys2Proof.Machine Sys2Proof.Safety

/-! ### Cold and warm start -/

theorem keeps_setSupply (s : State) (x : Supply) (h : live { s with supply := x } = live s) :
    Keeps s { s with supply := x } where
  toKeepsRest := KeepsRest.of_only (only_set_supply s x)
    (lines := fun _ hs => by rw [linesOk, h]; exact hs) (writer := fun _ hs => by rw [writerOk, h]; exact hs)
  clock := id

/-- While the main domain is lost or held the supply monitor may change as it will. -/
theorem keeps_setSupply_held (s : State) (x : Supply) (hlive : live s = false) : Keeps s { s with supply := x } where
  toKeepsRest := KeepsRest.of_only (only_set_supply s x)
    (lines := fun _ hs => linesOk_of_silent (silent_congr (s := s) rfl (silent_of_not_live hlive hs)))
    (writer := fun _ hs => writerOk_of_idle (idle_of_not_live hlive hs).1 (idle_of_not_live hlive hs).2 hs.1 hs.2.1)
  clock := id

/-- Only the lines differ from a state that keeps the rest. -/
theorem KeepsRest.change_lines {s u t : State} (k : KeepsRest s u) (h : Only [.lines] u t)
    (hl : linesOk s → linesOk t) : KeepsRest s t where
  queues hs := by
    rw [queuesOk, h.portU (by decide), h.portS (by decide)]
    exact k.queues hs
  trips hs := by
    rw [tripsOk, groupsOk, h.recorder (by decide), h.ann (by decide)]
    exact k.trips hs
  units hs := by
    rw [unitsOk, h.tally (by decide)]
    exact k.units hs
  shifts hs := by
    rw [shiftsOk, handoverOk, h.shift (by decide), anySettling_congr (h.ann (by decide))]
    exact k.shifts hs
  lines := hl
  writer hs := by
    rw [writerOk, h.store (by decide), live_congr (h.supply (by decide))]
    exact k.writer hs

/-- The image load and the path's start. -/
theorem keeps_loadPath (s : State) (x : Supply) (hlive : live { s with supply := x } = true)
    (hsilent : linesOk s → silent s) : Keeps s (startPath (imageLoad { s with supply := x })) := by
  have h := only_imageLoad { s with supply := x }
  have hstore := imageLoad_store { s with supply := x }
  have hclock := imageLoad_clock { s with supply := x }
  have hsil : linesOk s → silent (imageLoad { s with supply := x }) :=
    fun hs => silent_imageLoad (silent_congr rfl (hsilent hs))
  generalize imageLoad { s with supply := x } = t at *
  have hp := only_startPath t
  have hlive' : live (startPath t) = true :=
    (live_congr (hp.supply (by decide))).trans ((live_congr (h.supply (by decide))).trans hlive)
  refine ⟨KeepsRest.of_only (l := .supply :: .portU :: .portS :: .resp :: imageParts)
    (((only_set_supply s x).seq h (by decide) (by decide)).trans (hp.mono (by decide)))
    (queues := fun _ _ => queuesOk_empty (startPath_ports t).1 (startPath_ports t).2)
    (lines := fun _ hs => linesOk_of_silent (silent_congr (hp.lines (by decide)) (hsil hs)))
    (writer := fun _ hs => ?_), fun hs => ?_⟩
  · rw [writerOk, hp.store (by decide), hlive', hstore]
    exact ⟨hs.1, hs.2.1, hs.2.2.1, fun _ => rfl⟩
  · rw [clockOk, hp.clock (by decide), hclock]
    exact hs

theorem keeps_clearCounters (s : State) : Keeps s (clearCounters s) where
  toKeepsRest := by
    have h := only_clearCounters s
    refine KeepsRest.of_only h (writer := fun _ hs => ?_)
    rw [writerOk, live_congr (h.supply (by decide)), clearCounters_store]
    exact hs
  clock := id

theorem keeps_setCnt (s : State) (x : Counters) : Keeps s { s with cnt := x } where
  toKeepsRest := KeepsRest.of_only (only_set_cnt s x)
  clock := id

theorem keeps_setCrew (s : State) (n : Nat) : Keeps s { s with shift.openRec.crew := n } where
  toKeepsRest := KeepsRest.of_only (only_set_shift s _) (shifts := fun _ hs => hs)
  clock := id

theorem keeps_coldMain (s : State) (x : Supply) (hlive : live { s with supply := x } = true)
    (hsilent : linesOk s → silent s) : Keeps s (coldMain { s with supply := x }) := by
  have h1 := keeps_loadPath s x hlive hsilent
  unfold coldMain
  generalize startPath (imageLoad { s with supply := x }) = t at *
  extract_lets sc s0 u o sup s1
  have h2 : Keeps t s1 :=
    ((keeps_setCrew t t.cfg.initialCrew).trans (keeps_setCnt _ _)).trans (keeps_setSupply _ _ rfl)
  exact (h1.trans h2).trans (ordinary_notice _ _ s1).toKeeps

theorem keeps_warmMain (s : State) (x : Supply) (hlive : live { s with supply := x } = true)
    (hsilent : linesOk s → silent s) : Keeps s (warmMain { s with supply := x }) := by
  unfold warmMain
  extract_lets a b sup c d
  have h1 : Keeps s a := keeps_loadPath s x hlive hsilent
  have hsil : linesOk s → silent a := fun hs =>
    silent_congr ((only_startPath _).lines (by decide)) (silent_imageLoad (silent_congr rfl (hsilent hs)))
  have hlive1 : live a = true :=
    ((live_congr ((only_startPath _).supply (by decide))).trans
      (live_congr ((only_imageLoad _).supply (by decide)))).trans hlive
  clear_value a
  have h2 : Ordinary a b := (ordinary_requestAllCheckpoints _ a).trans (ordinary_restartHandoverTimer _)
  have hl2 : b.lines = a.lines :=
    ((only_restartHandoverTimer _).lines (by decide)).trans ((only_requestAllCheckpoints _ a).lines (by decide))
  clear_value b
  have h3 : Keeps b { b with supply.halted := none } := keeps_setSupply b _ rfl
  have hl3 : live { b with supply.halted := none } = true := h2.live hlive1
  have h4 := only_startLines { b with supply.halted := none }
  have h5 : Keeps s (startLines { b with supply.halted := none }) :=
    { toKeepsRest := ((h1.trans h2.toKeeps).trans h3).toKeepsRest.change_lines h4
        (fun hs => linesOk_startLines hl3 (silent_congr hl2 (hsil hs)))
      clock := fun hs => by
        rw [clockOk, h4.clock (by decide)]
        exact ((h1.trans h2.toKeeps).trans h3).clock hs }
  have h6 : Keeps s c := h5.trans (keeps_clearCounters _)
  clear_value c
  have h7 : Keeps s d := h6.trans (ordinary_notice _ _ c).toKeeps
  clear_value d
  exact h7.trans (keeps_setSupply d _ rfl)

end Sys2Proof.Proofs
end

section
/-! SUPPORT. Starts and losses as commands: the invariants across every supply event (10). -/

namespace Sys2Proof.Proofs

open Sys2Proof Sys2Proof.Machine Sys2Proof.Safety

theorem live_resetLine (x : Supply) (h : x.resetLine = true) (s : State) : live { s with supply := x } = false := by
  simp [live, h]

/-! ### The loss of the retained domain (R184) -/

theorem clockIn_cold : clockIn Clock.cold := by decide

theorem groupOk_cold (l : List TripRecord) : groupOk Group.cold l := by
  simp [groupOk, Group.cold]

/-- Fresh recorder and groups. -/
theorem trips_cold {s : State} (hr : s.recorder = Recorder.cold) (ha : s.ann = Vector.replicate 16 Group.cold) :
    tripsOk s ∧ groupsOk s := by
  rw [tripsOk, groupsOk, hr, ha]
  refine ⟨⟨Nat.zero_le _, by decide, List.Pairwise.nil⟩, fun g => ?_⟩
  rw [Fin.getElem_fin, Vector.getElem_replicate]
  exact groupOk_cold _

theorem anySettling_cold {s : State} (ha : s.ann = Vector.replicate 16 Group.cold) : anySettling s = false := by
  rw [← Bool.not_eq_true, anySettling_iff, ha]
  rintro ⟨g, hg⟩
  rw [Fin.getElem_fin, Vector.getElem_replicate] at hg
  cases hg

theorem shifts_cold {s : State} {v : Vector (Vector Int 6) 6} (hs : s.shift = ShiftUnit.cold v) :
    shiftsOk s ∧ handoverOk s := by
  rw [shiftsOk, handoverOk, hs]
  simp [ShiftUnit.cold]

theorem silent_cold {s : State} (h : s.lines = Vector.replicate 8 Line.cold) : silent s := by
  intro i
  rw [h, Fin.getElem_fin, Vector.getElem_replicate]
  exact ⟨rfl, rfl, rfl, rfl⟩

theorem unitOk_restored (r : Option Ckpt) : unitOk (UnitRec.restored r) := by
  cases r <;> exact ⟨nofun, nofun, nofun⟩

theorem keeps_loseRetained (s : State) (hlive : live s = false) : Keeps s (loseRetained s) where
  queues hs := hs
  trips _ := trips_cold rfl rfl
  units _ u := by
    have h : (loseRetained s).tally = Vector.replicate 6 UnitRec.cold := rfl
    rw [h, Fin.getElem_fin, Vector.getElem_replicate]
    exact unitOk_restored none
  shifts _ := shifts_cold (v := Vector.replicate 6 (Vector.replicate 6 0)) rfl
  lines _ := linesOk_of_silent (silent_cold rfl)
  writer hs :=
    have h := idle_of_not_live hlive hs
    writerOk_of_idle h.1 h.2 hs.1 hs.2.1
  clock _ := clockIn_cold

/-! ### Starts (R188, R189) -/

theorem coldRetained_live (s : State) : live (coldRetained s) = !s.supply.resetLine := rfl

theorem keeps_coldRetained (s : State) : Keeps s (coldRetained s) where
  queues hs := hs
  trips _ := trips_cold rfl rfl
  units _ u := by
    have h : (coldRetained s).tally = (scanSlots s.store.slots).best.map UnitRec.restored := rfl
    rw [h, Fin.getElem_fin, Vector.getElem_map]
    exact unitOk_restored _
  shifts _ := shifts_cold (s := coldRetained s) (v := (coldRetained s).shift.openRec.snaps) rfl
  lines _ := linesOk_of_silent (silent_cold rfl)
  writer _ := by
    refine writerOk_of_idle rfl rfl List.nodup_nil (fun u => ?_)
    have h : (coldRetained s).store.flags = Vector.replicate 6 none := rfl
    rw [h, Fin.getElem_fin, Vector.getElem_replicate]
    exact ⟨fun h => absurd h List.not_mem_nil, fun h => absurd h Bool.false_ne_true⟩
  clock _ := clockIn_cold

theorem silent_coldRetained (s : State) : silent (coldRetained s) := silent_cold rfl

theorem keeps_coldStart (s : State) : Keeps s (coldStart s) := by
  unfold coldStart
  split
  · have h1 := keeps_coldRetained s
    have hlive := coldRetained_live s
    have hsilent := silent_coldRetained s
    have hr : (coldRetained s).supply.resetLine = s.supply.resetLine := rfl
    generalize coldRetained s = t at *
    extract_lets t' sup
    split
    next hreset =>
      refine h1.trans (keeps_setSupply_held t _ ?_)
      rw [hlive, ← hr, hreset]
      rfl
    next hreset =>
      refine h1.trans (keeps_coldMain t t.supply ?_ (fun _ => hsilent))
      refine hlive.trans ?_
      rw [← hr, Bool.eq_false_iff.mpr hreset]
      rfl
  · exact Keeps.refl s

theorem clockIn_warmStart {c : Clock} (h : clockIn c) : clockIn c.warmStart := by
  obtain ⟨hns, hacc, -, -, hi, hi', -⟩ := h
  exact ⟨hns, hacc, hi, hi', hi, hi', Nat.zero_le _, fun _ => Nat.zero_le _⟩

theorem backup_not_live {s : State} (h : s.supply.state = .backup) : live s = false := by
  simp [live, h]

theorem keeps_warmStart (s : State) : Keeps s (warmStart s) := by
  unfold warmStart
  split
  next hdue =>
    have hlive : live s = false := backup_not_live (by simpa using (Bool.and_eq_true_iff.mp hdue).1)
    have h1 : Keeps s { s with clock := s.clock.warmStart } :=
      (ordinary_clockMoves (clockMoves_set s s.clock.warmStart 0 clockIn_warmStart (fun _ => id))).toKeeps
    extract_lets sup s1
    split
    next => exact h1.trans (keeps_setSupply_held { s with clock := s.clock.warmStart } _ hlive)
    next hreset =>
      refine h1.trans (keeps_warmMain { s with clock := s.clock.warmStart } { s.supply with state := .run } ?_
        (silent_of_not_live hlive))
      simpa [live] using Bool.eq_false_iff.mpr hreset
  next => exact Keeps.refl s

/-! ### The reset line and RESTART (R190) -/

theorem keeps_resetAsserted (s : State) : Keeps s (resetAsserted s) := by
  unfold resetAsserted
  split
  · exact Keeps.refl s
  · extract_lets sup s1
    split
    · exact keeps_mainHold s { s.supply with resetLine := true }
    next hrun =>
      refine keeps_setSupply_held s { s.supply with resetLine := true } ?_
      exact Bool.eq_false_iff.mpr (fun h => hrun (Bool.and_eq_true_iff.mp h).1)

theorem keeps_resetReleased (s : State) : Keeps s (resetReleased s) := by
  unfold resetReleased
  split
  next hreset =>
    have hlive : live s = false := live_resetLine s.supply hreset s
    have hsilent : linesOk s → silent s := silent_of_not_live hlive
    extract_lets sup s1
    split
    next hrun =>
      have hlive' : live { s with supply := { s.supply with resetLine := false } } = true := by
        simpa [live, runs] using hrun
      split
      · exact keeps_coldMain s _ hlive' hsilent
      · exact keeps_warmMain s _ hlive' hsilent
      · exact keeps_mainRestart s _ hlive' hsilent
    next => exact keeps_setSupply_held s { s.supply with resetLine := false } hlive
  next => exact Keeps.refl s

theorem keeps_restartNow (s : State) (hlive : live s = true) : Keeps s (restartNow s) := by
  have h1 : Keeps s (mainHold s) := keeps_mainHold s s.supply
  have h2 : linesOk (mainHold s) → silent (mainHold s) := fun hs i => by
    have hmark := (hs i).2.2.1
    rw [mainHold_line] at hmark ⊢
    exact ⟨rfl, rfl, rfl, hmark⟩
  have hlive1 : live (mainHold s) = true := (live_congr ((only_mainHold s).supply (by decide))).trans hlive
  unfold restartNow
  generalize mainHold s = t at *
  exact h1.trans (keeps_mainRestart t t.supply hlive1 h2)

/-! ### BACKUP entry (R186) -/

theorem unitOk_backupEntry (u : UnitRec) (m : Elapsed) : unitOk (u.backupEntry m) :=
  ⟨fun e => absurd e Bool.false_ne_true, fun e => absurd e Bool.false_ne_true, fun _ => rfl⟩

theorem clockBackupEntry_eq (c : Clock) : c.backupEntry = if c.state = .acquire ∨ c.state = .locked then
    { c with held := none, good := 0, pendingDiff := none, state := .holdover, trim := c.integral, limitTaken := false }
    else { c with held := none, good := 0, pendingDiff := none } := by
  cases h : c.state <;> simp [Clock.backupEntry, Clock.enterHoldover, h]

theorem clockIn_backupEntry {c : Clock} (h : clockIn c) : clockIn c.backupEntry := by
  obtain ⟨hns, hacc, ht, ht', hi, hi', -⟩ := h
  rw [clockBackupEntry_eq]
  split
  · exact ⟨hns, hacc, hi, hi', hi, hi', Nat.zero_le _, fun _ => Nat.zero_le _⟩
  · exact ⟨hns, hacc, ht, ht', hi, hi', Nat.zero_le _, fun _ => Nat.zero_le _⟩

/-- One group's share of a BACKUP entry (R120). -/
def groupBackup (s : State) (g : Fin 16) : State := if s.ann[g].state = .settling then decideGroup g s else s

theorem groupBackup_trips (s : State) (g : Fin 16) (h : tripsOk s ∧ groupsOk s) :
    tripsOk (groupBackup s g) ∧ groupsOk (groupBackup s g) := by
  unfold groupBackup
  split
  next hg =>
    obtain ⟨-, href, hfound⟩ := h.2 g
    obtain ⟨q, hq⟩ := Option.isSome_iff_exists.mp (href.mpr (fun e => nomatch hg.symm.trans e))
    rw [hq] at hfound
    exact decideGroup_trips h.1 (fun j _ => h.2 j) hq hfound
  next => exact h

theorem groupsBackup_trips (s : State) (h : tripsOk s ∧ groupsOk s) :
    tripsOk (groupsBackup s) ∧ groupsOk (groupsBackup s) := by
  have hf : ∀ (gs : List (Fin 16)) (t : State), tripsOk t ∧ groupsOk t →
      tripsOk (gs.foldl groupBackup t) ∧ groupsOk (gs.foldl groupBackup t) := by
    intro gs
    induction gs with
    | nil => exact fun t h => h
    | cons g gs ih => exact fun t h => ih _ (groupBackup_trips t g h)
  have e : groupsBackup s = allGroups.foldl groupBackup s := rfl
  rw [e]
  exact hf allGroups s h

theorem handoverOk_backupEntry {s t : State} (ht : t.shift = s.shift.backupEntry) (h : handoverOk s) : handoverOk t := by
  unfold handoverOk at h ⊢
  rw [ht]
  unfold ShiftUnit.backupEntry ShiftUnit.offerEnds
  split
  · split <;> simp_all [ShiftUnit.cleared]
  next hst =>
    obtain ⟨-, hheld⟩ := not_or.mp hst
    obtain ⟨hoffer, haccept, -, -, hrest⟩ := h
    exact ⟨hoffer, haccept, fun e => absurd e hheld, fun e => absurd e Bool.false_ne_true, hrest⟩

theorem backupEntry_list (u : ShiftUnit) : u.backupEntry.list = u.list := by
  unfold ShiftUnit.backupEntry
  split
  · exact (offerEnds_list u).1
  · rfl

theorem backupEntry_openRec (u : ShiftUnit) : u.backupEntry.openRec = u.openRec := by
  unfold ShiftUnit.backupEntry
  split
  · exact (offerEnds_list u).2
  · rfl

/-- The retained domain's share of a BACKUP entry, but for the lines. -/
def entered (s : State) : State :=
  groupsBackup { s with
    supply.backupEntry := some s.clock.m, clock := s.clock.backupEntry
    tally := s.tally.map (fun u => u.backupEntry s.clock.m) }

theorem only_entered (s : State) : Only [.clock, .tally, .supply, .ann, .nAnn, .recorder] s (entered s) := by
  refine Only.trans ?_ ((only_groupsBackup _).mono (by decide))
  constructor <;> intro h <;> first | rfl | exact absurd (by decide) h

theorem retainedEntry_eq (s : State) :
    retainedEntry s = cutLines { entered s with shift := (entered s).shift.backupEntry } := rfl

theorem only_retainedEntry (s : State) :
    Only [.clock, .tally, .supply, .ann, .nAnn, .recorder, .shift, .lines, .nLines] s (retainedEntry s) := by
  rw [retainedEntry_eq]
  exact (((only_entered s).mono (by decide)).trans ((only_set_shift _ _).mono (by decide))).trans
    ((only_cutLines _).mono (by decide))

theorem entered_clock (s : State) : (entered s).clock = s.clock.backupEntry := (only_groupsBackup _).clock (by decide)

theorem entered_tally (s : State) : (entered s).tally = s.tally.map (fun u => u.backupEntry s.clock.m) :=
  (only_groupsBackup _).tally (by decide)

theorem entered_trips (s : State) (h : tripsOk s ∧ groupsOk s) : tripsOk (entered s) ∧ groupsOk (entered s) := by
  unfold entered
  exact groupsBackup_trips _ h

theorem retainedEntry_clock (s : State) : (retainedEntry s).clock = s.clock.backupEntry := by
  rw [retainedEntry_eq, (only_cutLines _).clock (by decide)]
  dsimp only
  exact entered_clock s

theorem retainedEntry_tally (s : State) :
    (retainedEntry s).tally = s.tally.map (fun u => u.backupEntry s.clock.m) := by
  rw [retainedEntry_eq, (only_cutLines _).tally (by decide)]
  dsimp only
  exact entered_tally s

theorem retainedEntry_shift (s : State) : (retainedEntry s).shift = s.shift.backupEntry := by
  rw [retainedEntry_eq, (only_cutLines _).shift (by decide)]
  dsimp only
  exact congrArg ShiftUnit.backupEntry ((only_entered s).shift (by decide))

theorem retainedEntry_supply (s : State) :
    (retainedEntry s).supply = { s.supply with backupEntry := some s.clock.m } := by
  rw [retainedEntry_eq, (only_cutLines _).supply (by decide)]
  dsimp only
  exact (only_groupsBackup _).supply (by decide)

theorem retainedEntry_ann (s : State) :
    (retainedEntry s).ann = (entered s).ann ∧ (retainedEntry s).recorder = (entered s).recorder := by
  rw [retainedEntry_eq, (only_cutLines _).ann (by decide), (only_cutLines _).recorder (by decide)]
  dsimp only
  exact ⟨rfl, rfl⟩

theorem retainedEntry_line (i : Fin 8) (s : State) : (retainedEntry s).lines[i] = cut s.lines[i] := by
  rw [retainedEntry_eq, cutLines_line]
  dsimp only
  rw [(only_entered s).lines (by decide)]

/-- The store after a BACKUP entry (R192, R195). -/
def discardedStore (st : Store) : Store :=
  { restoredStore st with
    flags := Vector.replicate 6 none, order := [], abandoned := false, configInvalid := true }

theorem loseMain_eq (s : State) : loseMain s = { s with
    portU := PortPath.empty, portS := PortPath.empty, cal := Calendar.cold, cls := Classifier.cold, resp := Responder.cold
    cfg := Settings.default s.store.serial, cnt := {}, store := discardedStore s.store, supply.halted := none } := by
  cases h : s.store.engine <;>
    simp only [loseMain, abandonAndDiscard, abandonProgram, discardedStore, restoredStore, emptyPath, h]

/-- What the loss of the main domain changes. -/
abbrev lossParts : List Part := [.portU, .portS, .cal, .cls, .resp, .cfg, .store, .supply] ++ counterParts

theorem only_loseMain (s : State) : Only lossParts s (loseMain s) := by
  rw [loseMain_eq]
  constructor <;> intro h <;> first | rfl | exact absurd (by decide) h

theorem keeps_backupMain (s : State) (x : Supply) : Keeps s (loseMain (retainedEntry { s with supply := x })) := by
  have h1 := only_retainedEntry { s with supply := x }
  have hclock := retainedEntry_clock { s with supply := x }
  have htally := retainedEntry_tally { s with supply := x }
  have hshift := retainedEntry_shift { s with supply := x }
  have hlines (i : Fin 8) : (retainedEntry { s with supply := x }).lines[i] = cut s.lines[i] := retainedEntry_line i _
  have htrips (h : tripsOk s ∧ groupsOk s) :
      tripsOk (retainedEntry { s with supply := x }) ∧ groupsOk (retainedEntry { s with supply := x }) := by
    rw [tripsOk, groupsOk, (retainedEntry_ann _).1, (retainedEntry_ann _).2]
    exact entered_trips { s with supply := x } h
  generalize retainedEntry { s with supply := x } = t at *
  have h2 := only_loseMain t
  have hstore : (loseMain t).store = discardedStore t.store := by rw [loseMain_eq]
  have hports : (loseMain t).portU = PortPath.empty ∧ (loseMain t).portS = PortPath.empty := by
    rw [loseMain_eq]
    exact ⟨rfl, rfl⟩
  generalize loseMain t = u at *
  refine ⟨⟨?_, ?_, ?_, ?_, ?_, ?_⟩, ?_⟩
  · exact fun _ => queuesOk_empty hports.1 hports.2
  · intro h
    rw [tripsOk, groupsOk, h2.recorder (by decide), h2.ann (by decide)]
    exact htrips h
  · intro _ i
    rw [h2.tally (by decide), htally, Fin.getElem_fin, Vector.getElem_map]
    exact unitOk_backupEntry _ _
  · intro h
    have hs : u.shift = s.shift.backupEntry := (h2.shift (by decide)).trans hshift
    refine ⟨?_, handoverOk_backupEntry hs h.2⟩
    rw [shiftsOk, hs, backupEntry_list, backupEntry_openRec]
    exact h.1
  · intro h
    refine linesOk_of_silent (fun i => ?_)
    rw [h2.lines (by decide), hlines]
    exact ⟨rfl, rfl, rfl, (h i).2.2.1⟩
  · intro _
    have hi := restoredStore_idle t.store
    refine writerOk_of_idle ?_ ?_ ?_ ?_ <;> rw [hstore]
    · exact hi.1
    · exact hi.2
    · exact List.nodup_nil
    · intro i
      unfold discardedStore
      dsimp only
      rw [Fin.getElem_fin, Vector.getElem_replicate]
      exact ⟨fun h => absurd h List.not_mem_nil, fun h => absurd h Bool.false_ne_true⟩
  · intro h
    rw [clockOk, h2.clock (by decide), hclock]
    exact clockIn_backupEntry h

theorem keeps_judgeBackup (mv : Nat) (s : State) (hlive : live s = false) : Keeps s (judgeBackup mv s) := by
  unfold judgeBackup
  extract_lets s1 sup
  have h1 : Keeps s s1 ∧ live s1 = false := by
    unfold s1
    split
    · exact ⟨keeps_loseRetained s hlive, hlive⟩
    · exact ⟨Keeps.refl s, hlive⟩
  split
  · exact h1.1.trans (keeps_setSupply_held s1 _ h1.2)
  · exact h1.1

theorem keeps_backupEntry (mv : Nat) (s : State) : Keeps s (backupEntry mv s) := by
  unfold backupEntry
  split
  · refine (keeps_backupMain s { s.supply with state := .backup }).trans (keeps_judgeBackup mv _ ?_)
    refine backup_not_live ?_
    rw [loseMain_eq]
    dsimp only
    rw [retainedEntry_supply]
  · exact Keeps.refl s

end Sys2Proof.Proofs
end

section
/-! SUPPORT. Every command: what each keeps, collected over the table of commands. -/

namespace Sys2Proof.Proofs

open Sys2Proof Sys2Proof.Machine Sys2Proof.Safety

/-! ### A preset (R138) -/

/-- Every invariant kept and the supply monitor left alone: what a preset does, run times aside. -/
structure Mild (s t : State) : Prop extends Keeps s t where
  supply : t.supply = s.supply

theorem composes_mild : Composes Mild :=
  ⟨fun h k => ⟨h.toKeeps.trans k.toKeeps, k.supply.trans h.supply⟩, fun h => ⟨h.toKeeps, h.supply⟩⟩

/-- A unit whose mode, flags and holds stand. -/
theorem keeps_withUnit (i : Fin 6) (u : UnitRec) (s : State) (h : unitOk s.tally[i] → unitOk u) :
    Keeps s (s.withUnit i u) where
  toKeepsRest := KeepsRest.of_only (only_withUnit s i u) (units := fun _ hs v => by
    rw [withUnit_tally, getElem_set_fin]
    split
    · exact h (hs i)
    · exact hs v)
  clock := id

theorem keeps_setSnaps (s : State) (x : Vector (Vector Int 6) 6) : Keeps s { s with shift.openRec.snaps := x } where
  toKeepsRest := KeepsRest.of_only (only_set_shift s _) (shifts := fun _ hs => hs)
  clock := id

theorem mild_presetItem (i : Fin 6) (x : PresetItem) (s : State) : Mild s (presetItem i x s) := by
  cases x with
  | run k ms =>
    let u : UnitRec := { s.tally[i] with
      run := s.tally[i].run.set k ms, saturated := s.tally[i].saturated.set k (ms == Config.runLimit) }
    have h1 : Keeps s (s.withUnit i u) := keeps_withUnit i u s id
    exact ⟨h1.trans (keeps_setSnaps _ _), rfl⟩
  | starts k n => exact ⟨keeps_withUnit i _ s id, rfl⟩
  | stops k n => exact ⟨keeps_withUnit i _ s id, rfl⟩

theorem mild_presetItems (i : Fin 6) : ∀ (xs : List PresetItem) (s : State),
    Mild s (xs.foldl (fun s x => presetItem i x s) s)
  | [], s => ⟨Keeps.refl s, rfl⟩
  | x :: xs, s => composes_mild.trans (mild_presetItem i x s) (mild_presetItems i xs _)

theorem ordinary_realignUnit (u : Fin 6) (s : State) : Ordinary s (realignUnit u s) :=
  Ordinary.foldl _ (fun s i => Ordinary.ite _ (fun _ => ordinary_realign i s) (fun _ => Ordinary.refl s)) allLines s

theorem mild_presetTally (i : Fin 6) (items : List PresetItem) (s : State) : Mild s (presetTally i items s) := by
  unfold presetTally
  extract_lets s1
  have h1 : Mild s s1 :=
    composes_mild.trans (composes_mild.ordinary (ordinary_creditUnit i s)) (mild_presetItems i items _)
  exact composes_mild.trans h1
    (composes_mild.ordinary ((ordinary_realignUnit i s1).trans (ordinary_requestCheckpoint _ _ _)))

theorem mild_opPresetTally (r : Request) (s : State) : Mild s (opPresetTally r s).1 := by
  have same : Mild s s := ⟨Keeps.refl s, rfl⟩
  unfold opPresetTally
  split
  · exact same
  · split
    · exact same
    · split
      · exact same
      · split
        · exact same
        · split
          · split
            · exact same
            · next i items _ _ _ =>
              have h1 := mild_presetTally i (items.map Prod.fst) s
              generalize presetTally i (items.map Prod.fst) s = t at h1 ⊢
              exact h1
          · exact same

theorem ordinary_opCheckpointNow (r : Request) (s : State) : Ordinary s (opCheckpointNow r s).1 := by
  have h := ordinary_requestAllCheckpoints .request s
  rw [opCheckpointNow]
  generalize requestAllCheckpoints .request s = t at h ⊢
  exact h

/-! ### The commands -/

/-- The commands of the supply monitor, of the start sequences and of a preset. -/
def isOrdinary : Instr → Bool
  | .presetTally _ _ => false
  | .backupEntry _ => false
  | .retentionValidCleared => false
  | .supplyOff => false
  | .coldStart => false
  | .warmStart => false
  | .resetAsserted => false
  | .resetReleased => false
  | .commissionChange _ => false
  | .restartTakesEffect => false
  | _ => true

theorem ordinary_of_next {s t u : State} (h : Ordinary s u) (e : Host.Outcome.next u = (.next t : Host.Outcome State Fault Refusal)) :
    Ordinary s t := Host.Outcome.next.inj e ▸ h

theorem ordinary_when {s t u : State} {b : Bool} (h : b = true → Ordinary s u)
    (e : Host.Outcome.next (if b then u else s) = (.next t : Host.Outcome State Fault Refusal)) : Ordinary s t :=
  ordinary_of_next (Ordinary.ite _ h (fun _ => Ordinary.refl s)) e

theorem ordinary_request {s t : State} {code : Byte} {auth : Authority} {op : Request → State → Served} {h : ReqHead}
    {body : List Byte} (hop : ∀ r s, live s = true → Ordinary s (op r s).1)
    (e : Host.Outcome.next (command code auth op h body s) = (.next t : Host.Outcome State Fault Refusal)) :
    Ordinary s t := ordinary_of_next (composes_ordinary.command hop code h body s) e

theorem ordinary_reading {s t : State} {code : Byte} {auth : Authority} {op : Request → State → Served} {h : ReqHead}
    {body : List Byte} (hop : ∀ r s, (op r s).1 = s)
    (e : Host.Outcome.next (command code auth op h body s) = (.next t : Host.Outcome State Fault Refusal)) :
    Ordinary s t := ordinary_request (fun r s _ => by rw [hop]; exact Ordinary.refl s) e

theorem live_of_and {s : State} {b : Bool} (h : (live s && b) = true) : live s = true := (Bool.and_eq_true_iff.mp h).1

theorem settling_of_settleDue {g : Fin 16} {s : State} (h : settleDue g s = true) : s.ann[g].state = .settling := by
  unfold settleDue at h
  exact eq_of_beq (Bool.and_eq_true_iff.mp (Bool.and_eq_true_iff.mp h).1).2

/-- An ordinary command keeps every invariant, leaves the supply monitor alone and lowers no run time. -/
theorem exec_ordinary (i : Instr) (s t : State) (hi : isOrdinary i = true) (e : exec i s = .next t) : Ordinary s t := by
  cases i with
  | secondRollover => exact ordinary_when (ordinary_secondRollover s) e
  | rangeWrap => exact ordinary_when (ordinary_rangeWrap s) e
  | markerEdge => exact ordinary_of_next (ordinary_markerEdge s) e
  | beaconStale =>
    exact ordinary_when (fun _ => (ordinary_setHeld s none).trans (Ordinary.free (only_countClock _ _))) e
  | silenceExpiry => exact ordinary_when (fun _ => ordinary_silenceExpires s) e
  | holdoverLimit => exact ordinary_when (fun _ => ordinary_holdoverLimitReached s) e
  | frameStart p => exact ordinary_of_next (ordinary_frameStart p s) e
  | frameReceived p b => exact ordinary_of_next (ordinary_frameReceived p b s) e
  | frameTake => exact ordinary_when (fun _ => ordinary_frameTake s) e
  | classificationDone => exact ordinary_of_next (ordinary_classificationDone s) e
  | transmissionStart p => exact ordinary_when (fun _ => ordinary_txStart p s) e
  | transmissionComplete p => exact ordinary_when (fun _ => ordinary_txComplete p s) e
  | tripHoldExpiry u => exact ordinary_when (fun _ => ordinary_endTripHold u s) e
  | hourlyRequest u => exact ordinary_when (fun _ => ordinary_askHourly u s) e
  | settleDeadline g =>
    exact ordinary_when (fun h => ordinary_groupDecides_settling g s (settling_of_settleDue h)) e
  | overdueExpiry => exact ordinary_when (fun _ => ordinary_overdueExpires s) e
  | offerLapse => exact ordinary_when (fun _ => ordinary_offerLapses s) e
  | driveEnd l => exact ordinary_when (fun h => ordinary_endDrive l s (live_of_and h)) e
  | gapEnd l => exact ordinary_when (ordinary_endGap l s) e
  | meterThreshold l => exact ordinary_when (fun _ => ordinary_decideLine l s) e
  | checkpointProgramStart =>
    refine ordinary_when (fun h => ordinary_ckptStart s ?_) e
    simp only [ckptStartDue, Bool.and_eq_true] at h
    exact h.1.1.1.1
  | checkpointProgramComplete => exact ordinary_when (fun _ => ordinary_ckptComplete s) e
  | imageProgramStart =>
    refine ordinary_when (fun h => ordinary_imageStartWaiting s ?_) e
    simp only [imageStartDue, Bool.and_eq_true] at h
    exact h.1.1
  | imageProgramComplete => exact ordinary_when (fun _ => ordinary_imageComplete s) e
  | commitBankActivated => exact ordinary_when (fun _ => ordinary_commitActivated s) e
  | readClock h b => exact ordinary_reading (fun _ _ => rfl) e
  | readStatus h b => exact ordinary_reading (fun _ _ => rfl) e
  | readCounters h b => exact ordinary_request (fun r s _ => ordinary_opReadCounters r s) e
  | readFault h b => exact ordinary_reading (fun _ _ => rfl) e
  | clearFault h b => exact ordinary_request (fun _ s _ => Ordinary.free (only_set_cls s _)) e
  | readTrips h b => exact ordinary_reading opReadTrips_state e
  | ackGroup h b => exact ordinary_request (fun r s _ => ordinary_opAckGroup r s) e
  | ackNext h b => exact ordinary_request (fun r s _ => ordinary_opAckNext r s) e
  | resetGroup h b => exact ordinary_request (fun r s _ => ordinary_opResetGroup r s) e
  | pollGroups h b => exact ordinary_reading (fun _ _ => rfl) e
  | readTally h b => exact ordinary_reading opReadTally_state e
  | readShift h b => exact ordinary_reading (fun _ _ => rfl) e
  | readShifts h b => exact ordinary_reading opReadShifts_state e
  | readLines h b => exact ordinary_reading (fun _ _ => rfl) e
  | setDial h b => exact ordinary_request (fun r s hl => ordinary_opSetDial r s hl) e
  | loadEntry h b => exact ordinary_request (fun r s _ => ordinary_opLoadEntry r s) e
  | readEntry h b => exact ordinary_reading opReadEntry_state e
  | commitBank h b => exact ordinary_request (fun r s _ => ordinary_opCommitBank r s) e
  | setParam h b => exact ordinary_request (fun r s hl => ordinary_opSetParam r s hl) e
  | setMask h b => exact ordinary_request (fun r s _ => ordinary_opSetMask r s) e
  | setTime h b => exact ordinary_request (fun r s _ => ordinary_opSetTime r s) e
  | forceHandover h b => exact ordinary_request (fun r s _ => ordinary_opForceHandover r s) e
  | checkpointNow h b => exact ordinary_request (fun r s _ => ordinary_opCheckpointNow r s) e
  | storeConfig h b => exact ordinary_request (fun r s hl => ordinary_opStoreConfig r s hl) e
  | restart h b => exact ordinary_request (fun r s _ => ordinary_opRestart r s) e
  | presetTally h b => cases hi
  | backupEntry mv => cases hi
  | retentionValidCleared => cases hi
  | supplyOff => cases hi
  | coldStart => cases hi
  | warmStart => cases hi
  | resetAsserted => cases hi
  | resetReleased => cases hi
  | commissionChange b => cases hi
  | restartTakesEffect => cases hi

theorem keeps_of_next {s t u : State} (h : Keeps s u)
    (e : Host.Outcome.next u = (.next t : Host.Outcome State Fault Refusal)) : Keeps s t := Host.Outcome.next.inj e ▸ h

theorem Keeps.ite {s t u : State} (b : Prop) [Decidable b] (h : b → Keeps s t) (k : ¬b → Keeps s u) :
    Keeps s (if b then t else u) := by
  split
  · exact h ‹_›
  · exact k ‹_›

/-- Every command keeps every invariant. -/
theorem exec_keeps (i : Instr) (s t : State) (e : exec i s = .next t) : Keeps s t := by
  by_cases hi : isOrdinary i = true
  · exact (exec_ordinary i s t hi e).toKeeps
  · cases i with
    | presetTally h b =>
      exact keeps_of_next (composes_mild.command (fun r s _ => mild_opPresetTally r s) _ h b s).toKeeps e
    | backupEntry mv => exact keeps_of_next (keeps_backupEntry mv s) e
    | retentionValidCleared =>
      exact keeps_of_next (Keeps.ite _ (fun h => keeps_loseRetained s (backup_not_live h)) (fun _ => Keeps.refl s)) e
    | supplyOff =>
      refine keeps_of_next (Keeps.ite _ (fun h => ?_) (fun _ => Keeps.refl s)) e
      have hl := backup_not_live h
      exact (keeps_loseRetained s hl).trans (keeps_setSupply_held (loseRetained s) _ hl)
    | coldStart => exact keeps_of_next (keeps_coldStart s) e
    | warmStart => exact keeps_of_next (keeps_warmStart s) e
    | resetAsserted => exact keeps_of_next (keeps_resetAsserted s) e
    | resetReleased => exact keeps_of_next (keeps_resetReleased s) e
    | commissionChange b => exact keeps_of_next (keeps_setSupply s { s.supply with commission := b } rfl) e
    | restartTakesEffect =>
      refine keeps_of_next (Keeps.ite _ (fun h => keeps_restartNow s ?_) (fun _ => Keeps.refl s)) e
      simp only [restartDue, Bool.and_eq_true] at h
      exact h.1.1
    | _ => exact absurd rfl hi

/-! ### Steps -/

theorem takeEvents_keepsAll (n : Nat) (s t : State) (e : takeEvents n s = .next t) : Keeps s t :=
  takeEvents_keeps (P := Keeps s) (fun i u v h e => h.trans (exec_keeps i u v e))
    (fun u n h => h.trans (ordinary_choices u n).toKeeps) n s t (Keeps.refl s) e

/-- A tick keeps every invariant; where the reading carries, its increment is the one of the state it began in. -/
theorem tickStep_keeps (s t : State) (e : tickStep s = .next t) : Keeps s t := by
  unfold tickStep at e
  split at e
  · split at e
    · unfold carryStep at e
      split at e
      next u hu =>
        have h1 : Keeps s u := ((ordinary_elapsedTick s).toKeeps.trans (ordinary_choices _ _).toKeeps).trans
          (takeEvents_keepsAll _ _ u hu)
        have h2 := ordinaryTick_takeReading (tickIncrement s) u
        refine keeps_of_next ⟨h1.toKeepsRest.trans h2.toKeepsRest, fun hs => ?_⟩ e
        exact h2.clock (tickIncrement_le s hs) (h1.clock hs)
      next => cases e
      next => cases e
    · exact keeps_of_next (ordinary_tickState s).toKeeps e
  · exact keeps_of_next (Keeps.refl s) e

/-- Every step keeps every invariant. -/
theorem step_keepsAll (s t : State) (e : step s = .next t) : Keeps s t := by
  unfold step at e
  split at e
  · exact (ordinary_pending s _).toKeeps.trans (exec_keeps _ _ _ e)
  · unfold idleStep at e
    split at e
    · split at e
      · split at e
        · exact (ordinary_choices s _).toKeeps.trans (exec_keeps _ _ _ e)
        · exact (ordinary_choices s _).toKeeps.trans (tickStep_keeps _ _ e)
      · exact tickStep_keeps _ _ e
    · exact takeEvent_keeps (P := Keeps s) (fun i u v h e => h.trans (exec_keeps i u v e))
        (fun u n h => h.trans (ordinary_choices u n).toKeeps) s t (Keeps.refl s) e

end Sys2Proof.Proofs
end

section
/-! OBLIGATIONS. What every step keeps, run times (R129) and the retention-valid flag (R184). -/

namespace Sys2Proof.Proofs

open Sys2Proof Sys2Proof.Machine Sys2Proof.Safety

/-- Settles O54: the clock's share of what every step keeps. -/
theorem stepKeepsClock : Obligations.StepKeepsClock := fun s t hs e => (step_keepsAll s t e).clock hs

/-- Settles O55: the frame path's share of what every step keeps. -/
theorem stepKeepsQueues : Obligations.StepKeepsQueues := fun s t hs e => (step_keepsAll s t e).queues hs

/-- Settles O56: the trip list and the groups are kept together, for a group's reference is judged in the list. -/
theorem stepKeepsTripsAndGroups : Obligations.StepKeepsTripsAndGroups := fun s t hs hg e =>
  (step_keepsAll s t e).trips ⟨hs, hg⟩

/-- Settles O57: the tally unit's share of what every step keeps. -/
theorem stepKeepsUnits : Obligations.StepKeepsUnits := fun s t hs e => (step_keepsAll s t e).units hs

/-- Settles O58: the shift unit's share; the records and the handover in progress go together. -/
theorem stepKeepsShifts : Obligations.StepKeepsShifts := fun s t hs hh e => (step_keepsAll s t e).shifts ⟨hs, hh⟩

/-- Settles O59: the lines' share of what every step keeps. -/
theorem stepKeepsLines : Obligations.StepKeepsLines := fun s t hs e => (step_keepsAll s t e).lines hs

/-- Settles O60: the checkpoint writer's share of what every step keeps. -/
theorem stepKeepsWriter : Obligations.StepKeepsWriter := fun s t hs e => (step_keepsAll s t e).writer hs

/-! ### What a start leaves alone -/

/-- What the main domain's share of a start changes. -/
abbrev startParts : List Part := [.shift, .supply] ++ restartParts

theorem only_coldMain (s : State) : Only startParts s (coldMain s) := by
  have h1 : Only startParts s (startPath (imageLoad s)) :=
    ((only_imageLoad s).mono (by decide)).trans ((only_startPath _).mono (by decide))
  unfold coldMain
  generalize startPath (imageLoad s) = t at h1 ⊢
  extract_lets sc s0 u o sup s1
  have h2 : Only startParts t s1 := by
    constructor <;> intro h <;> first | rfl | exact absurd (by decide) h
  exact (h1.trans h2).trans ((only_notice _ _ s1).mono (by decide))

theorem coldMain_supply (s : State) : (coldMain s).supply = { s.supply with halted := none } := by
  have h1 : (startPath (imageLoad s)).supply = s.supply :=
    ((only_startPath _).supply (by decide)).trans ((only_imageLoad s).supply (by decide))
  unfold coldMain
  generalize startPath (imageLoad s) = t at h1 ⊢
  extract_lets sc s0 u o sup s1
  rw [(only_notice _ _ s1).supply (by decide)]
  unfold s1 sup
  dsimp only
  rw [h1]

/-- The state in which a warm start reports itself. -/
def warmed (s : State) : State :=
  clearCounters (startLines
    { restartHandoverTimer (requestAllCheckpoints .warm (startPath (imageLoad s))) with supply.halted := none })

/-- The report that ends a warm start (R189, R199). -/
def warmReported (s : State) : State := { notice 0x86 (powerWarmBody s) s with supply.backupEntry := none }

theorem only_warmReported (s : State) : Only (.supply :: noticeParts) s (warmReported s) := by
  have h := (only_notice 0x86 (powerWarmBody s) s).mono (b := .supply :: noticeParts) (by decide)
  unfold warmReported
  generalize notice 0x86 (powerWarmBody s) s = t at h ⊢
  refine h.trans ?_
  constructor <;> intro h <;> first | rfl | exact absurd (by decide) h

theorem warmReported_supply (s : State) : (warmReported s).supply = { s.supply with backupEntry := none } := by
  have h := (only_notice 0x86 (powerWarmBody s) s).supply (by decide)
  unfold warmReported
  generalize notice 0x86 (powerWarmBody s) s = t at h ⊢
  dsimp only
  rw [h]

theorem warmMain_eq (s : State) : warmMain s = warmReported (warmed s) := by
  unfold warmMain
  extract_lets a b sup c d
  have hc : warmed s = c := by
    have hb : restartHandoverTimer (requestAllCheckpoints .warm (startPath (imageLoad s))) = b := rfl
    unfold warmed
    rw [hb]
  rw [hc]
  clear_value c
  rfl

theorem only_set_halted (s : State) : Only [.supply] s { s with supply.halted := none } := by
  constructor <;> intro h <;> first | rfl | exact absurd (by decide) h

theorem only_warmed (s : State) : Only startParts s (warmed s) := by
  have h1 := only_imageLoad s
  have h2 := only_startPath (imageLoad s)
  have h3 := only_requestAllCheckpoints .warm (startPath (imageLoad s))
  have h4 := only_restartHandoverTimer (requestAllCheckpoints .warm (startPath (imageLoad s)))
  have h := (((h1.mono (b := startParts) (by decide)).trans (h2.mono (by decide))).trans (h3.mono (by decide))).trans
    (h4.mono (by decide))
  unfold warmed
  generalize restartHandoverTimer (requestAllCheckpoints .warm (startPath (imageLoad s))) = t at h ⊢
  exact ((h.trans ((only_set_halted t).mono (by decide))).trans ((only_startLines _).mono (by decide))).trans
    ((only_clearCounters _).mono (by decide))

theorem warmed_supply (s : State) : (warmed s).supply = { s.supply with halted := none } := by
  have h : (restartHandoverTimer (requestAllCheckpoints .warm (startPath (imageLoad s)))).supply = s.supply :=
    (((only_restartHandoverTimer _).supply (by decide)).trans ((only_requestAllCheckpoints _ _).supply (by decide))).trans
      (((only_startPath _).supply (by decide)).trans ((only_imageLoad s).supply (by decide)))
  unfold warmed
  generalize restartHandoverTimer (requestAllCheckpoints .warm (startPath (imageLoad s))) = t at h ⊢
  rw [(only_clearCounters _).supply (by decide), (only_startLines _).supply (by decide)]
  dsimp only
  rw [h]

theorem only_warmMain (s : State) : Only startParts s (warmMain s) := by
  rw [warmMain_eq]
  exact (only_warmed s).trans ((only_warmReported _).mono (by decide))

theorem warmMain_supply (s : State) :
    (warmMain s).supply = { s.supply with halted := none, backupEntry := none } := by
  rw [warmMain_eq, warmReported_supply, warmed_supply]

/-! ### Run times (R129) -/

theorem runsUp_creditOnEntry {s t : State} (h : t.tally = s.tally.map (fun u => u.backupEntry s.clock.m)) :
    RunsUp s t := by
  intro u k hs
  have hu : t.tally[u] = s.tally[u].backupEntry s.clock.m := by
    rw [h, Fin.getElem_fin, Vector.getElem_map, Fin.getElem_fin]
  rw [hu]
  have e : (s.tally[u].backupEntry s.clock.m).run[k] = s.tally[u].value s.clock.m k := credit_run _ _ k
  rw [e]
  exact value_bounds _ _ k hs

theorem judgeBackup_of_kept (mv : Nat) (s : State) (h : 2200 ≤ mv) : judgeBackup mv s = s := by
  rw [judgeBackup, if_neg (by omega), if_neg (by omega)]

theorem loseMain_tally (s : State) : (loseMain s).tally = s.tally := (only_loseMain s).tally (by decide)

theorem runsUp_backupEntry (mv : Nat) (s : State) (h : 2200 ≤ mv) : RunsUp s (backupEntry mv s) := by
  unfold backupEntry
  split
  · rw [judgeBackup_of_kept mv _ h]
    refine runsUp_creditOnEntry ?_
    rw [loseMain_tally, retainedEntry_tally]
  · exact RunsUp.refl s

theorem warmStart_tally (s : State) : (warmStart s).tally = s.tally := by
  unfold warmStart
  split
  · extract_lets sup s1
    split
    · rfl
    · exact (only_warmMain s1).tally (by decide)
  · rfl

theorem resetAsserted_tally (s : State) : (resetAsserted s).tally = s.tally := by
  unfold resetAsserted
  split
  · rfl
  · extract_lets sup s1
    split
    · exact (only_mainHold s1).tally (by decide)
    · rfl

theorem resetReleased_tally (s : State) : (resetReleased s).tally = s.tally := by
  unfold resetReleased
  split
  · extract_lets sup s1
    split
    · split
      · exact (only_coldMain s1).tally (by decide)
      · exact (only_warmMain s1).tally (by decide)
      · exact (only_mainRestart s1).tally (by decide)
    · rfl
  · rfl

theorem restartNow_tally (s : State) : (restartNow s).tally = s.tally := by
  rw [restartNow, (only_mainRestart _).tally (by decide), (only_mainHold s).tally (by decide)]

theorem runsUp_of_next {s t u : State} (h : RunsUp s u)
    (e : Host.Outcome.next u = (.next t : Host.Outcome State Fault Refusal)) : RunsUp s t := Host.Outcome.next.inj e ▸ h

/-- Settles O33: the ordinary commands credit run times and no more, and the start sequences, the reset line and a
BACKUP entry that keeps the retained domain leave the tallies or credit them. -/
theorem runTimesNeverDecrease : Obligations.RunTimesNeverDecrease := by
  intro c s t hs hc e u k
  suffices h : RunsUp s t from h u k (hs u k)
  by_cases hi : isOrdinary c = true
  · exact (exec_ordinary c s t hi e).runs
  · cases c with
    | presetTally h b => cases hc
    | retentionValidCleared => cases hc
    | supplyOff => cases hc
    | coldStart => cases hc
    | backupEntry mv => exact runsUp_of_next (runsUp_backupEntry mv s (by simpa [maySetRunTimes] using hc)) e
    | warmStart => exact runsUp_of_next (RunsUp.of_eq (warmStart_tally s)) e
    | resetAsserted => exact runsUp_of_next (RunsUp.of_eq (resetAsserted_tally s)) e
    | resetReleased => exact runsUp_of_next (RunsUp.of_eq (resetReleased_tally s)) e
    | commissionChange b =>
      exact runsUp_of_next (RunsUp.of_eq (t := { s with supply.commission := b }) rfl) e
    | restartTakesEffect =>
      refine runsUp_of_next ?_ e
      split
      · exact RunsUp.of_eq (restartNow_tally s)
      · exact RunsUp.refl s
    | _ => exact absurd rfl hi

/-! ### The retention-valid flag (R184) -/

/-- The conditions of the supply monitor are kept, and a clear flag stays clear. -/
abbrev flagKept (s t : State) : Prop :=
  supplyOk s → supplyOk t ∧ (s.supply.retention = false → t.supply.retention = false)

theorem flagKept_of_eq {s t : State} (h : t.supply = s.supply) : flagKept s t := by
  intro hs
  rw [supplyOk, h]
  exact ⟨hs, id⟩

theorem flagKept_loseRetained (s : State) (x : SupplyState) (hx : x ≠ .run) (hs : s.supply.state = .backup) {t : State}
    (ht : t.supply = { s.supply with retention := false, backupEntry := none, state := x }) : flagKept s t := by
  intro hok
  rw [supplyOk, ht]
  refine ⟨⟨fun e => absurd e hx, fun _ => rfl, fun e => ?_⟩, fun _ => rfl⟩
  exact absurd (hs.symm.trans (hok.2.2 e).1) (by decide)

theorem backupEntry_supply (mv : Nat) (s : State) (h : runs s = true) :
    (backupEntry mv s).supply = { s.supply with
      state := if mv < 1800 then .off else .backup
      retention := if mv < 2200 then false else s.supply.retention
      backupEntry := if mv < 2200 then none else some s.clock.m
      halted := none } := by
  have h1 : (loseMain (retainedEntry { s with supply.state := .backup })).supply
      = { s.supply with state := .backup, backupEntry := some s.clock.m, halted := none } := by
    rw [loseMain_eq]
    dsimp only
    rw [retainedEntry_supply]
  unfold backupEntry
  rw [if_pos h]
  generalize loseMain (retainedEntry { s with supply.state := .backup }) = t at h1 ⊢
  unfold judgeBackup
  by_cases hv : mv < 2200
  · by_cases hw : mv < 1800
    · simp [hv, hw, loseRetained, h1]
    · simp [hv, hw, loseRetained, h1]
  · have hw : ¬mv < 1800 := by omega
    simp [hv, hw, h1]

theorem flagKept_backupEntry (mv : Nat) (s : State) : flagKept s (backupEntry mv s) := by
  intro hs
  by_cases h : runs s = true
  · rw [supplyOk, backupEntry_supply mv s h]
    refine ⟨⟨fun e => ?_, fun e => ?_, fun e => absurd e Bool.false_ne_true⟩, fun e => ?_⟩ <;> dsimp only at e ⊢
    · split at e <;> cases e
    · by_cases hw : mv < 1800
      · rw [if_pos (by omega)]
      · rw [if_neg hw] at e
        cases e
    · rw [e, ite_self]
  · rw [backupEntry, if_neg h]
    exact ⟨hs, id⟩

theorem supplyOk_coldStart (s : State) (hs : supplyOk s) : supplyOk (coldStart s) := by
  unfold coldStart
  split
  · have hsup : (coldRetained s).supply = { s.supply with state := .run, retention := true, backupEntry := none } := rfl
    generalize coldRetained s = t at hsup ⊢
    extract_lets t' sup
    split
    next hreset =>
      unfold supplyOk
      dsimp only [sup, t']
      rw [hsup]
      refine ⟨fun _ => rfl, (fun e => nomatch e), fun _ => ⟨rfl, ?_⟩⟩
      rw [hsup] at hreset
      exact hreset
    next =>
      rw [supplyOk, coldMain_supply, hsup]
      exact ⟨fun _ => rfl, (fun e => nomatch e), fun e => absurd e Bool.false_ne_true⟩
  · exact hs

theorem flagKept_warmStart (s : State) : flagKept s (warmStart s) := by
  intro hs
  unfold warmStart
  split
  next hdue =>
    have hret : s.supply.retention = true := (Bool.and_eq_true_iff.mp hdue).2
    extract_lets sup s1
    split
    next hreset =>
      exact ⟨⟨fun _ => hret, (fun e => nomatch e), fun _ => ⟨rfl, hreset⟩⟩, id⟩
    next =>
      rw [supplyOk, warmMain_supply]
      exact ⟨⟨fun _ => hret, (fun e => nomatch e), fun e => absurd e Bool.false_ne_true⟩, id⟩
  next => exact ⟨hs, id⟩

theorem flagKept_resetAsserted (s : State) : flagKept s (resetAsserted s) := by
  intro hs
  unfold resetAsserted
  split
  · exact ⟨hs, id⟩
  · extract_lets sup s1
    have h1 : supplyOk s1 ∧ (s.supply.retention = false → s1.supply.retention = false) :=
      ⟨⟨hs.1, hs.2.1, fun e => ⟨(hs.2.2 e).1, rfl⟩⟩, id⟩
    split
    · rw [supplyOk, (only_mainHold s1).supply (by decide)]
      exact h1
    · exact h1

theorem flagKept_resetReleased (s : State) : flagKept s (resetReleased s) := by
  intro hs
  obtain ⟨hrun, hoff, hhalt⟩ := hs
  have none_halted {p : Prop} : (none : Option HaltedStart).isSome = true → p := fun e => absurd e Bool.false_ne_true
  unfold resetReleased
  split
  next hreset =>
    extract_lets sup s1
    split
    · split
      · rw [supplyOk, coldMain_supply]
        exact ⟨⟨hrun, hoff, none_halted⟩, id⟩
      · rw [supplyOk, warmMain_supply]
        exact ⟨⟨hrun, hoff, none_halted⟩, id⟩
      next hnone =>
        rw [supplyOk, (only_mainRestart s1).supply (by decide)]
        refine ⟨⟨hrun, hoff, fun e => ?_⟩, id⟩
        have e' : s.supply.halted.isSome = true := e
        rw [hnone] at e'
        exact none_halted e'
    next hstate =>
      refine ⟨⟨hrun, hoff, fun e => absurd ?_ hstate⟩, id⟩
      simpa [runs] using (hhalt e).1
  next => exact ⟨⟨hrun, hoff, hhalt⟩, id⟩

theorem flagKept_restartNow (s : State) : flagKept s (restartNow s) :=
  flagKept_of_eq (by rw [restartNow, (only_mainRestart _).supply (by decide), (only_mainHold s).supply (by decide)])

theorem flagKept_of_next {s t u : State} (h : flagKept s u)
    (e : Host.Outcome.next u = (.next t : Host.Outcome State Fault Refusal)) : flagKept s t := Host.Outcome.next.inj e ▸ h

theorem flagKept_of_noColdStart (c : Instr) (s t : State) (hc : c ≠ .coldStart) (e : exec c s = .next t) :
    flagKept s t := by
  by_cases hi : isOrdinary c = true
  · exact flagKept_of_eq (exec_ordinary c s t hi e).supply
  · cases c with
    | coldStart => exact absurd rfl hc
    | presetTally h b =>
      exact flagKept_of_next
        (flagKept_of_eq (composes_mild.command (fun r s _ => mild_opPresetTally r s) _ h b s).supply) e
    | retentionValidCleared =>
      refine flagKept_of_next ?_ e
      split
      next hb => exact flagKept_loseRetained s .backup (by decide) hb (by rw [← hb]; rfl)
      next => exact flagKept_of_eq rfl
    | supplyOff =>
      refine flagKept_of_next ?_ e
      split
      next hb => exact flagKept_loseRetained s .off (by decide) hb rfl
      next => exact flagKept_of_eq rfl
    | backupEntry mv => exact flagKept_of_next (flagKept_backupEntry mv s) e
    | warmStart => exact flagKept_of_next (flagKept_warmStart s) e
    | resetAsserted => exact flagKept_of_next (flagKept_resetAsserted s) e
    | resetReleased => exact flagKept_of_next (flagKept_resetReleased s) e
    | commissionChange b =>
      exact flagKept_of_next (u := { s with supply.commission := b }) (fun hs => ⟨hs, id⟩) e
    | restartTakesEffect =>
      refine flagKept_of_next ?_ e
      split
      · exact flagKept_restartNow s
      · exact flagKept_of_eq rfl
    | _ => exact absurd rfl hi

/-- Settles O41: a cold start alone sets the flag; every other command leaves the supply monitor, clears the flag or
keeps it. -/
theorem retentionFlag : Obligations.RetentionFlag := by
  intro c s t hs e
  by_cases hc : c = .coldStart
  · subst hc
    have h := supplyOk_coldStart s hs
    rw [show coldStart s = t from Host.Outcome.next.inj e] at h
    exact ⟨h, fun hne => absurd rfl hne⟩
  · obtain ⟨hok, hflag⟩ := flagKept_of_noColdStart c s t hc e hs
    exact ⟨hok, fun _ => hflag⟩

end Sys2Proof.Proofs
end

section
/-! SUPPORT. Requests: the numbers of a body read back, and the answer of a READY responder (R201, R203, R204). -/

namespace Sys2Proof.Proofs

open Sys2Proof Sys2Proof.Machine Sys2Proof.Safety

/-! ### Numbers in bytes (R204) -/

@[simp] theorem be_length (w n : Nat) : (be w n).length = w := by
  induction w with
  | zero => rfl
  | succ w ih => rw [be, List.length_cons, ih]

theorem foldl_be (w n a : Nat) :
    (be w n).foldl (fun acc b => acc * 256 + b.toNat) a = a * 256 ^ w + n % 256 ^ w := by
  induction w generalizing a with
  | zero => simp [be, Nat.mod_one]
  | succ w ih =>
    have hmod : n % 256 ^ (w + 1) = n / 256 ^ w % 256 * 256 ^ w + n % 256 ^ w := by
      rw [pow_succ, Nat.mod_mul, add_comm, mul_comm]
    rw [be, List.foldl_cons, ih, BitVec.toNat_ofNat, hmod]
    ring

@[simp] theorem ofBe_be (w n : Nat) : ofBe (be w n) = n % 256 ^ w := by
  rw [ofBe, foldl_be, Nat.zero_mul, Nat.zero_add]

theorem ofBe_be_of_lt {w n : Nat} (h : n < 256 ^ w) : ofBe (be w n) = n := by
  rw [ofBe_be, Nat.mod_eq_of_lt h]

/-- A number at the head of a body is read back whole. -/
theorem rd_be {w n : Nat} (h : n < 256 ^ w) (l : List Byte) : rd w (be w n ++ l) = some (n, l) := by
  have hlen : w ≤ (be w n ++ l).length := by simp
  rw [rd, if_pos hlen, List.take_left' (be_length w n), List.drop_left' (be_length w n), ofBe_be_of_lt h]

/-- A single byte at the head of a body. -/
theorem rd_one (b : Byte) (l : List Byte) : rd 1 (b :: l) = some (b.toNat, l) := by
  simp [rd, ofBe]

theorem be_one (b : Byte) : be 1 b.toNat = [b] := by
  simp [be]

/-! ### The answer of a READY responder (R203) -/

theorem exec_next_inj {s t : State} (h : s = t) :
    (Host.Outcome.next s : Host.Outcome State Fault Refusal) = .next t := congrArg _ h

/-- A request that is taken at once, carried out and answered without a refusal. -/
theorem command_answered {auth : Authority} {op : Request → State → Served} {code : Byte} {h : ReqHead}
    {body : List Byte} {s u : State} {st : Status} {data : List Byte} (ha : answering s)
    (hauth : auth = .engineer → s.supply.commission = true)
    (hop : op ⟨h, code, body⟩ (taken s) = (u, some ⟨st, data⟩)) (hst : st.refuses = false) :
    command code auth op h body s = replied h code.toNat st.code data u := by
  obtain ⟨hlive, hready, hnone⟩ := ha
  have hcond : ¬(auth = .engineer ∧ s.supply.commission = false) :=
    fun ⟨he, hc⟩ => absurd ((hauth he).symm.trans hc) (by decide)
  have hop' : op ⟨h, code, body⟩ (s.countResp (fun c => { c with taken := c.taken + 1 })) = (u, some ⟨st, data⟩) := hop
  simp only [command, hlive, hready, hnone, if_true, conduct, countResp_supply, if_neg hcond, hop', reply, hst,
    Bool.false_eq_true, if_false, replied, replyFrame, be_one]

/-- A request that is taken at once and refused: counted, answered, and nothing else. -/
theorem command_refused {auth : Authority} {op : Request → State → Served} {code : Byte} {h : ReqHead}
    {body : List Byte} {s : State} {st : Status} (ha : answering s)
    (hauth : auth = .engineer → s.supply.commission = true)
    (hop : op ⟨h, code, body⟩ (taken s) = refuse st (taken s)) (hst : st.refuses = true) :
    command code auth op h body s = replied h code.toNat st.code [] (refusedOnce (taken s)) := by
  obtain ⟨hlive, hready, hnone⟩ := ha
  have hcond : ¬(auth = .engineer ∧ s.supply.commission = false) :=
    fun ⟨he, hc⟩ => absurd ((hauth he).symm.trans hc) (by decide)
  have hop' : op ⟨h, code, body⟩ (s.countResp (fun c => { c with taken := c.taken + 1 })) = refuse st (taken s) := hop
  simp only [command, hlive, hready, hnone, if_true, conduct, countResp_supply, if_neg hcond, hop', refuse, reply,
    Answer.refusal, hst, replied, replyFrame, be_one]
  rfl

theorem live_taken (s : State) : live (taken s) = live s := rfl

theorem okOr_refuses (b : Bool) : (okOr b).refuses = false := by cases b <;> rfl

theorem okOr_code (b : Bool) : (okOr b).code = if b then 0x01 else 0x00 := by cases b <;> rfl

theorem operator_authority {P : Prop} (h : Authority.operator = .engineer) : P := nomatch h

end Sys2Proof.Proofs
end

section
/-! SUPPORT. A clock change as the calendar and the lines take it (R19, R39, R172, R173), and the deadlines of the
clock (R6, R14, R15). -/

namespace Sys2Proof.Proofs

open Sys2Proof Sys2Proof.Machine Sys2Proof.Safety

/-! ### A line that renews its target -/

theorem cycle_ne_hourMeter {f : LineFunction} {cy : Cycle} (h : f.cycle = some cy) : f ≠ .hourMeter ∧ f ≠ .secondMark := by
  cases f <;> first | exact ⟨by decide, by decide⟩ | cases h

theorem slaveTarget_eq {f : LineFunction} {cy : Cycle} (h : f.cycle = some cy) (t : LocalTime) :
    slaveTarget f t = some (targetAt f t) := by
  cases f <;> first | rfl | cases h

theorem flip_eq (w : Wire) : w.flip = if w = .a then .b else .a := by cases w <;> rfl

theorem widthInForce_of_cycle {c : LineCfg} {cy : Cycle} (h : c.function.cycle = some cy) :
    c.widthInForce = clampNat 20 2000 c.width := if_neg (cycle_ne_hourMeter h).2

/-- A slave line with a target decides as R173 says of its renewal. -/
theorem decided_target (s : State) (c : LineCfg) (cy : Cycle) (target : Nat) (l : Line) (hlive : live s = true)
    (hc : c.function.cycle = some cy) (hu : s.clock.state ≠ .unset) (hl : l.cycle = none ∨ l.cycle = some cy) :
    decided s c { l with target := some target } = lineRenewed c cy target s.clock.m l := by
  have hm : c.function ≠ .hourMeter := (cycle_ne_hourMeter hc).1
  have hslave : (c.function.cycle.isSome && s.clock.state != .unset) = true := by simp [hc, hu]
  unfold decided lineRenewed
  simp only [hlive, Bool.true_and, hm, if_false, hslave, if_true, beq_iff_eq, widthInForce_of_cycle hc, flip_eq,
    LineCfg.holdSteps]
  by_cases hp : l.pulse = .rest
  · rcases hl with hl | hl
    · simp [hp, hl]
    · simp [hp, hl]
  · simp [hp]

/-- A line at rest or not without a target begins no pulse. -/
theorem decided_no_target (s : State) (c : LineCfg) (cy : Cycle) (l : Line) (hc : c.function.cycle = some cy) :
    decided s c { l with target := none } = { l with target := none } := by
  have hm : c.function ≠ .hourMeter := (cycle_ne_hourMeter hc).1
  unfold decided
  simp only [hm, if_false]
  split_ifs
  · split
    next h => cases h
    next => rfl
  · rfl
  · rfl

theorem decided_unset (s : State) (c : LineCfg) (cy : Cycle) (l : Line) (hc : c.function.cycle = some cy)
    (hu : s.clock.state = .unset) : decided s c l = l := by
  have hm : c.function ≠ .hourMeter := (cycle_ne_hourMeter hc).1
  simp [decided, hm, hu]

/-- A clock change at one line, in the terms of the statements. -/
theorem lineAtChange_eq (s : State) (c : LineCfg) (cy : Cycle) (l : Line) (hlive : live s = true)
    (hc : c.function.cycle = some cy) (hl : l.cycle = none ∨ l.cycle = some cy) :
    lineAtChange s c l = if s.clock.state = .unset then { l with target := none }
      else lineRenewed c cy (targetAt c.function s.cal.fields) s.clock.m l := by
  rw [lineAtChange, if_pos (by rw [hc]; rfl)]
  split
  next hu => exact decided_unset s c cy _ hc hu
  next hu =>
    rw [slaveTarget_eq hc]
    exact decided_target s c cy _ l hlive hc hu hl

/-! ### A change delivered -/

/-- From `s` to `t` the calendar took the second of `u`'s clock, and every slave line the new target. -/
structure Delivered (s u t : State) : Prop where
  clock : t.clock = u.clock
  nClock : t.cnt.clock = u.cnt.clock
  fields : t.cal.fields = localTime s.cfg.cal u.clock.sec
  lines : linesRenewed s t
  only : Only clockParts s t

theorem Delivered.presentFields {s u t : State} (h : Delivered s u t) :
    t.cal.fields = localTime s.cfg.cal t.clock.sec := by
  rw [h.clock]
  exact h.fields

theorem delivered_deliverChange {s u : State} (h : Only [.clock, .nClock] s u) (hm : u.clock.m = s.clock.m)
    (hlive : live s = true) : Delivered s u (deliverChange u) := by
  have hliveu : live u = true := (live_congr (h.supply (by decide))).trans hlive
  have hc := only_calendarClockChange u
  have hfields : (calendarClockChange u).cal.fields = localTime s.cfg.cal u.clock.sec := by
    rw [← h.cfg (by decide)]
    unfold calendarClockChange
    extract_lets a b
    rw [(calendarEvent_fields true b).1]
    unfold b
    split <;> rfl
  have hd := only_deliverChange u
  have hlines (i : Fin 8) : (deliverChange u).lines[i]
      = lineAtChange (calendarClockChange u) s.cfg.lines[i] s.lines[i] := by
    rw [deliverChange, if_pos hliveu, linesClockChange_line, hc.cfg (by decide), hc.lines (by decide),
      h.cfg (by decide), h.lines (by decide)]
  have hcal : (deliverChange u).cal = (calendarClockChange u).cal := by
    rw [deliverChange, if_pos hliveu, (only_linesClockChange _).cal (by decide)]
  have hclock : (calendarClockChange u).clock = u.clock := hc.clock (by decide)
  refine ⟨hd.clock (by decide), hd.nClock (by decide), ?_, ?_, (h.mono (by decide)).trans (hd.mono (by decide))⟩
  · rw [hcal, hfields]
  · rintro i c cy rfl
    refine ⟨fun hnone => ?_, fun hcy hl => ?_⟩
    · have hno : s.cfg.lines[i].function.cycle.isSome = false := by rw [hnone]; rfl
      rw [hlines, lineAtChange, hno, if_neg Bool.false_ne_true]
    · rw [hlines, lineAtChange_eq _ _ cy _ ((live_congr (hc.supply (by decide))).trans hliveu) hcy hl,
        hd.clock (by decide), hfields, hclock, hm]

theorem linesRenewed_congr {s t u : State} (hclock : u.clock = t.clock) (hlines : u.lines = t.lines)
    (h : linesRenewed s t) : linesRenewed s u := by
  rw [linesRenewed, hclock, hlines]
  exact h

/-- The end of a clock event that made a change (R19, R20). -/
theorem delivered_finishClock {s u : State} (b : State) {k : Kinds} (hk : k ≠ 0) (h : Only [.clock, .nClock] s u)
    (hm : u.clock.m = s.clock.m) (hlive : live s = true) : Delivered s u (finishClock b k u) := by
  have hd := delivered_deliverChange h hm hlive
  unfold finishClock
  extract_lets c s1
  have e : s1 = deliverChange u := if_neg hk
  rw [e]
  split
  · have hn := only_notice 0x83 (clockNoticeBody k (deliverChange u)) (deliverChange u)
    generalize notice 0x83 (clockNoticeBody k (deliverChange u)) (deliverChange u) = t at hn ⊢
    generalize deliverChange u = v at hd hn
    exact ⟨(hn.clock (by decide)).trans hd.clock, (hn.nClock (by decide)).trans hd.nClock,
      (congrArg Calendar.fields (hn.cal (by decide))).trans hd.fields,
      linesRenewed_congr (hn.clock (by decide)) (hn.lines (by decide)) hd.lines,
      hd.only.trans (hn.mono (by decide))⟩
  · exact hd

/-! ### An accepted marker -/

/-- The state in which an accepted marker's stages begin: counted, and its instant kept (R5). -/
def markerTaken (s : State) : State :=
  { s with clock.lastMarker := some s.now }.countClock (fun c => { c with markerAccepted := c.markerAccepted + 1 })

theorem only_markerTaken (s : State) : Only [.clock, .nClock] s (markerTaken s) :=
  (clockMoves_count s { s.clock with lastMarker := some s.now } _ 0 id (fun _ => id)).only

theorem acceptedMarker_eq (s : State) : acceptedMarker s =
    if (labelStage (markerTaken s)).skip then
      finishClock s (labelStage (markerTaken s)).kinds (labelStage (markerTaken s)).state
    else if s.cfg.clock.step < (phaseError s.clock.ns).natAbs then
      finishClock s ((labelStage (markerTaken s)).kinds ||| (stepClock (labelStage (markerTaken s)).state).2)
        (stepClock (labelStage (markerTaken s)).state).1
    else finishClock s (labelStage (markerTaken s)).kinds
      (windowStage (phaseError s.clock.ns) (slewClock (phaseError s.clock.ns) (labelStage (markerTaken s)).state)) := rfl

theorem exec_markerEdge_accepted {s : State} (hlive : live s = true) (ha : acceptsEdge s = true) :
    exec .markerEdge s = .next (acceptedMarker s) := by
  show Host.Outcome.next (markerEdge s) = _
  rw [markerEdge, if_pos hlive, if_pos ha]

end Sys2Proof.Proofs
end

section
/-! SUPPORT and OBLIGATIONS. Markers (R5 to R13), the range wrap (R2) and the deadlines of the clock. -/

namespace Sys2Proof.Proofs

open Sys2Proof Sys2Proof.Machine Sys2Proof.Safety

/-! ### The window stage (R13) -/

/-- The clock after the window stage. -/
def windowed (wl : Nat) (e : Int) (c : Clock) : Clock :=
  match c.state with
  | .acquire =>
    if e.natAbs ≤ wl then
      if c.good + 1 = 4 then { c with good := 4, state := .locked } else { c with good := c.good + 1 }
    else { c with good := 0 }
  | .locked => if e.natAbs ≤ 4 * wl then c else { c with state := .acquire, good := 0, pendingDiff := none }
  | .holdover => { c with state := .acquire, good := if e.natAbs ≤ wl then 1 else 0 }
  | .manual => { c with state := .acquire, good := if e.natAbs ≤ wl then 1 else 0 }
  | .unset => c

theorem windowStage_eq (e : Int) (s : State) :
    windowStage e s = { s with clock := windowed s.cfg.clock.lock e s.clock } := by
  unfold windowStage windowed
  extract_lets wl inside
  cases s.clock.state with
  | acquire => dsimp only; split_ifs <;> rfl
  | locked => dsimp only; split_ifs <;> rfl
  | holdover => rfl
  | manual => rfl
  | unset => rfl

/-- The window stage moves the state, the good count and the pending difference alone. -/
theorem windowed_rest (wl : Nat) (e : Int) (c : Clock) :
    (windowed wl e c).integral = c.integral ∧ (windowed wl e c).trim = c.trim ∧ (windowed wl e c).sec = c.sec
      ∧ (windowed wl e c).ns = c.ns ∧ (windowed wl e c).frac = c.frac ∧ (windowed wl e c).lastMarker = c.lastMarker
      ∧ (windowed wl e c).held = c.held ∧ (windowed wl e c).m = c.m := by
  unfold windowed
  cases c.state with
  | acquire => dsimp only; split_ifs <;> simp
  | locked => dsimp only; split_ifs <;> simp
  | holdover => simp
  | manual => simp
  | unset => simp

/-- From ACQUIRE with no good marker, as a relabel leaves it. -/
theorem windowed_fresh (wl : Nat) (e : Int) (c : Clock) (hst : c.state = .acquire) (hg : c.good = 0) :
    (windowed wl e c).state = .acquire ∧ (windowed wl e c).pendingDiff = c.pendingDiff
      ∧ (windowed wl e c).good = if e.natAbs ≤ wl then 1 else 0 := by
  unfold windowed
  rw [hst]
  dsimp only
  split_ifs with h1 h2
  · omega
  · exact ⟨rfl, rfl, by rw [hg]⟩
  · exact ⟨rfl, rfl, rfl⟩

/-! ### The stages of a marker, the clock alone -/

/-- The clock after a slew (R12). -/
def slewed (s : State) (c : Clock) : Clock :=
  let i := clampInt (-150000) 150000 (c.integral - roundDiv (phaseError s.clock.ns) (2 ^ s.cfg.clock.ki))
  { c with integral := i, trim := clampInt (-150000) 150000 (i - roundDiv (phaseError s.clock.ns) (2 ^ s.cfg.clock.kp)) }

/-- A marker's slew and window stage after a label stage that left the clock `c` (R12, R13). -/
def slewEnd (s : State) (c : Clock) : Clock := windowed s.cfg.clock.lock (phaseError s.clock.ns) (slewed s c)

theorem slewStages_eq (s u : State) (hcfg : u.cfg = s.cfg) :
    windowStage (phaseError s.clock.ns) (slewClock (phaseError s.clock.ns) u)
      = { u with clock := slewEnd s u.clock } := by
  rw [windowStage_eq]
  unfold slewEnd slewed slewClock
  rw [hcfg]

theorem slewEnd_rest (s : State) (c : Clock) :
    (slewEnd s c).integral
        = clampInt (-150000) 150000 (c.integral - roundDiv (phaseError s.clock.ns) (2 ^ s.cfg.clock.ki))
      ∧ (slewEnd s c).trim = clampInt (-150000) 150000
          ((slewEnd s c).integral - roundDiv (phaseError s.clock.ns) (2 ^ s.cfg.clock.kp))
      ∧ (slewEnd s c).sec = c.sec ∧ (slewEnd s c).ns = c.ns ∧ (slewEnd s c).frac = c.frac
      ∧ (slewEnd s c).lastMarker = c.lastMarker ∧ (slewEnd s c).held = c.held ∧ (slewEnd s c).m = c.m := by
  obtain ⟨hi, ht, hrest⟩ := windowed_rest s.cfg.clock.lock (phaseError s.clock.ns) (slewed s c)
  unfold slewEnd
  rw [ht, hi]
  exact ⟨rfl, rfl, hrest⟩

/-- The step's clock: the nearest second, or a wrap (R11). -/
theorem stepClock_wraps {s : State} (h : 500000000 ≤ s.clock.ns ∧ s.clock.sec = 0xFFFFFFFF#32) :
    stepClock s = ({ s with clock := { s.clock.wrapped with sec := 0, ns := 0, frac := 0 } }.countClock
      (fun c => { c with rangeWrap := c.rangeWrap + 1 }), kindRangeWrap) := if_pos h

theorem stepClock_lands {s : State} (h : ¬(500000000 ≤ s.clock.ns ∧ s.clock.sec = 0xFFFFFFFF#32)) :
    stepClock s = ({ s with clock := { s.clock with
        sec := nearestSecond s.clock.sec s.clock.ns, ns := 0, frac := 0, state := .acquire, good := 0,
        pendingDiff := none } }.countClock (fun c => { c with step := c.step + 1 }), kindStep) := if_neg h

theorem only_stepClock (s : State) : Only [.clock, .nClock] s (stepClock s).1 := (clockMoves_stepClock s).only

theorem stepClock_m (s : State) : (stepClock s).1.clock.m = s.clock.m := by
  by_cases h : 500000000 ≤ s.clock.ns ∧ s.clock.sec = 0xFFFFFFFF#32
  · rw [stepClock_wraps h]
    rfl
  · rw [stepClock_lands h]
    rfl

/-! ### A label that is consumed without effect (R9) -/

/-- No label, or a BEACON label that agrees with the nearest second. -/
abbrev noEffect (s : State) (v : Second) (t0 : Instant) : Prop :=
  s.clock.held = none ∧ s.clock.state ≠ .unset
    ∨ s.clock.held = some (.beacon v t0) ∧ v = nearestSecond s.clock.sec s.clock.ns
      ∧ (s.clock.state = .acquire ∨ s.clock.state = .holdover ∨ s.clock.state = .locked)

/-- The clock as the phase stage finds it when the label had no effect. -/
def consumed (s : State) : Clock :=
  { s.clock with
    lastMarker := some s.now, held := none
    pendingDiff := if s.clock.state = .locked then none else s.clock.pendingDiff }

theorem labelStage_noEffect (s : State) (v : Second) (t0 : Instant) (h : noEffect s v t0) :
    labelStage (markerTaken s) = ⟨{ markerTaken s with clock := consumed s }, 0, false⟩ := by
  have hst : (markerTaken s).clock.state = s.clock.state := rfl
  rcases h with ⟨hheld, hu⟩ | ⟨hheld, hv, hstate⟩
  · rw [labelStage_none _ (show (markerTaken s).clock.held = none from hheld), hst]
    unfold consumed
    cases h : s.clock.state with
    | unset => exact absurd h hu
    | locked => rfl
    | manual => rfl
    | acquire => rfl
    | holdover => rfl
  · have hheld' : (markerTaken s).clock.held = some (.beacon v t0) := hheld
    have hdiff : v - nearestSecond (markerTaken s).clock.sec (markerTaken s).clock.ns = 0 := by
      rw [hv]
      exact BitVec.sub_self _
    unfold consumed
    rcases hstate with h | h | h
    · rw [labelStage_beacon_compared _ v t0 hheld' (.inl (hst.trans h)), if_pos hdiff, h]
      rfl
    · rw [labelStage_beacon_compared _ v t0 hheld' (.inr (hst.trans h)), if_pos hdiff, h]
      rfl
    · rw [labelStage_beacon_locked _ v t0 hheld' (hst.trans h), if_pos hdiff, h]
      rfl

/-! ### A label that differs (R9) -/

/-- The clock as the phase stage finds it after a relabel. -/
def relabelled (s : State) (d : Second) : Clock :=
  { s.clock with
    lastMarker := some s.now, held := none, sec := s.clock.sec + d, state := .acquire, good := 0, pendingDiff := none }

/-- The clock as the phase stage finds it after a difference that is kept. -/
def mismatched (s : State) (d : Second) : Clock :=
  { s.clock with lastMarker := some s.now, held := none, pendingDiff := some d.toInt }

theorem labelStage_relabels (s : State) (v d : Second) (t0 : Instant) (hheld : s.clock.held = some (.beacon v t0))
    (hd : d = v - nearestSecond s.clock.sec s.clock.ns) (hd0 : d ≠ 0)
    (hst : s.clock.state = .acquire ∨ s.clock.state = .holdover
      ∨ s.clock.state = .locked ∧ s.clock.pendingDiff = some d.toInt) :
    labelStage (markerTaken s) = ⟨{ markerTaken s with clock := relabelled s d }.countClock
      (fun c => { c with relabel := c.relabel + 1 }), kindRelabel, false⟩ := by
  have hheld' : (markerTaken s).clock.held = some (.beacon v t0) := hheld
  have hd' : v - nearestSecond (markerTaken s).clock.sec (markerTaken s).clock.ns = d := hd.symm
  rcases hst with h | h | ⟨h, hp⟩
  · rw [labelStage_beacon_compared _ v t0 hheld' (.inl h), hd', if_neg hd0]
    rfl
  · rw [labelStage_beacon_compared _ v t0 hheld' (.inr h), hd', if_neg hd0]
    rfl
  · rw [labelStage_beacon_locked _ v t0 hheld' h, hd', if_neg hd0,
      if_pos (show (markerTaken s).clock.pendingDiff = some d.toInt from hp)]
    rfl

theorem labelStage_mismatch (s : State) (v d : Second) (t0 : Instant) (hheld : s.clock.held = some (.beacon v t0))
    (hd : d = v - nearestSecond s.clock.sec s.clock.ns) (hd0 : d ≠ 0) (h : s.clock.state = .locked)
    (hp : s.clock.pendingDiff ≠ some d.toInt) :
    labelStage (markerTaken s) = ⟨{ markerTaken s with clock := mismatched s d }.countClock
      (fun c => { c with labelMismatch := c.labelMismatch + 1 }), 0, false⟩ := by
  have hheld' : (markerTaken s).clock.held = some (.beacon v t0) := hheld
  have hd' : v - nearestSecond (markerTaken s).clock.sec (markerTaken s).clock.ns = d := hd.symm
  rw [labelStage_beacon_locked _ v t0 hheld' h, hd', if_neg hd0,
    if_neg (show ¬(markerTaken s).clock.pendingDiff = some d.toInt from hp)]
  rfl

/-! ### The marker carried through -/

theorem acceptedMarker_skip {s : State} {u : State} {k : Kinds} (h : labelStage (markerTaken s) = ⟨u, k, true⟩) :
    acceptedMarker s = finishClock s k u := by
  rw [acceptedMarker_eq, h]
  rfl

theorem acceptedMarker_slews {s u : State} {k : Kinds} (h : labelStage (markerTaken s) = ⟨u, k, false⟩)
    (hcfg : u.cfg = s.cfg) (he : (phaseError s.clock.ns).natAbs ≤ s.cfg.clock.step) :
    acceptedMarker s = finishClock s k { u with clock := slewEnd s u.clock } := by
  rw [acceptedMarker_eq, h]
  dsimp only
  rw [if_neg Bool.false_ne_true, if_neg (not_lt.mpr he), slewStages_eq s u hcfg]

theorem acceptedMarker_steps {s u : State} {k : Kinds} (h : labelStage (markerTaken s) = ⟨u, k, false⟩)
    (he : s.cfg.clock.step < (phaseError s.clock.ns).natAbs) :
    acceptedMarker s = finishClock s (k ||| (stepClock u).2) (stepClock u).1 := by
  rw [acceptedMarker_eq, h]
  dsimp only
  rw [if_neg Bool.false_ne_true, if_pos he]

theorem only_taken_clock (s : State) (c : Clock) : Only [.clock, .nClock] s { markerTaken s with clock := c } :=
  (only_markerTaken s).trans ((only_set_clock _ c).mono (by decide))

theorem only_taken_count (s : State) (c : Clock) (f : ClockCnt → ClockCnt) :
    Only [.clock, .nClock] s ({ markerTaken s with clock := c }.countClock f) :=
  (only_taken_clock s c).trans ((only_countClock _ f).mono (by decide))

theorem exec_marker {s t : State} (hlive : live s = true) (hacc : acceptsEdge s = true) (h : acceptedMarker s = t) :
    exec .markerEdge s = .next t := (exec_markerEdge_accepted hlive hacc).trans (congrArg _ h)

/-- Settles O5: the label stage applies the label and the change is delivered. -/
theorem markerAppliesLabel : Obligations.MarkerAppliesLabel := by
  intro s v t0 manual hlive hacc hheld
  let c : Clock := { (markerTaken s).clock with held := none }.applyLabel v
  cases manual with
  | true =>
    have hl := labelStage_manual (markerTaken s) v (show (markerTaken s).clock.held = _ from hheld)
    have hd := delivered_finishClock s (by decide : kindManualSet ≠ 0)
      (only_taken_count s c (fun c => { c with manualSet := c.manualSet + 1 })) rfl hlive
    exact ⟨_, exec_marker hlive hacc (acceptedMarker_skip hl), hd.clock, hd.nClock, hd.fields, hd.lines, hd.only⟩
  | false =>
    obtain ⟨hheld, hst⟩ := hheld
    have hl := labelStage_beacon_applied (markerTaken s) v t0 (show (markerTaken s).clock.held = _ from hheld) hst
    have hd := delivered_finishClock s (by decide : kindRelabel ≠ 0)
      (only_taken_count s c (fun c => { c with relabel := c.relabel + 1 })) rfl hlive
    exact ⟨_, exec_marker hlive hacc (acceptedMarker_skip hl), hd.clock, hd.nClock, hd.fields, hd.lines, hd.only⟩

/-- An event of the clock that changes neither its state nor its class, and that is no clock change, ends as it is. -/
theorem finishClock_quiet {s u : State} (hst : u.clock.state = s.clock.state) (hq : qualityClass u = qualityClass s) :
    finishClock s 0 u = u := by
  rw [finishClock]
  simp [hst, hq]

/-- Settles O6: with the label consumed, the servo and the window stage are all that a marker within X does. -/
theorem markerSlews : Obligations.MarkerSlews := by
  intro s v t0 hlive hacc
  refine ⟨fun hheld he => ?_, fun hheld hu => ?_⟩
  · have hl := labelStage_noEffect s v t0 hheld
    have hm := acceptedMarker_slews hl rfl he
    have hn := only_finishClock_zero s { markerTaken s with clock := slewEnd s (consumed s) }
    refine ⟨_, exec_marker hlive hacc hm, ?_⟩
    dsimp only
    have hclock : (finishClock s 0 { markerTaken s with clock := slewEnd s (consumed s) }).clock
      = slewEnd s (consumed s) := hn.clock (by decide)
    have hcnt : (finishClock s 0 { markerTaken s with clock := slewEnd s (consumed s) }).cnt.clock
        = { s.cnt.clock with markerAccepted := s.cnt.clock.markerAccepted + 1 } := hn.nClock (by decide)
    rw [hclock, hcnt]
    obtain ⟨hi, ht, hsec, hns, hfrac, hlast, hheld0, -⟩ := slewEnd_rest s (consumed s)
    have hstate : (slewed s (consumed s)).state = s.clock.state := rfl
    have hgood : (slewed s (consumed s)).good = s.clock.good := rfl
    have hpend : (slewed s (consumed s)).pendingDiff
        = if s.clock.state = .locked then none else s.clock.pendingDiff := rfl
    refine ⟨hi, ht, hsec, hns, hfrac, hlast, hheld0, fun h hin => ?_, fun h hout => ?_, fun h hin => ?_,
      fun h hout => ?_, fun h => ?_, fun h => ?_, rfl, ((only_taken_clock s _).mono (by decide)).trans (hn.mono (by decide))⟩
      <;> unfold slewEnd windowed <;> rw [hstate]
    · rw [h]
      dsimp only
      rw [if_pos hin, hgood]
      by_cases h3 : s.clock.good = 3
      · rw [if_pos h3, if_pos (by omega)]
      · rw [if_neg h3, if_neg (by omega)]
        exact ⟨rfl, rfl⟩
    · rw [h]
      dsimp only
      rw [if_neg (not_le.mpr hout)]
      exact ⟨rfl, rfl⟩
    · rw [h]
      dsimp only
      rw [if_pos hin]
      exact hstate.trans h
    · rw [h]
      dsimp only
      rw [if_neg (not_le.mpr hout)]
      exact ⟨rfl, rfl⟩
    · rw [h]
      dsimp only
      split
      · rw [hpend, if_pos h]
      · rfl
    · rcases h with h | h <;> rw [h] <;> exact ⟨rfl, rfl⟩
  · have hl := labelStage_none (markerTaken s) (show (markerTaken s).clock.held = none from hheld)
    rw [show (markerTaken s).clock.state = .unset from hu] at hl
    refine exec_marker hlive hacc ((acceptedMarker_skip hl).trans ((finishClock_quiet ?_ ?_).trans ?_))
    · rfl
    · simp only [qualityClass, markerTaken, countClock_clock, hu]
    · rw [← hheld]
      rfl

/-- Settles O7: the step lands on the nearest second or wraps, and either is a clock change that is delivered. -/
theorem markerSteps : Obligations.MarkerSteps := by
  intro s v t0 hlive hacc hheld he
  have hm := acceptedMarker_steps (labelStage_noEffect s v t0 hheld) he
  have hk := stepClock_kinds 0 { markerTaken s with clock := consumed s }
  have hd := delivered_finishClock s hk
    ((only_taken_clock s (consumed s)).trans (only_stepClock { markerTaken s with clock := consumed s }))
    (stepClock_m { markerTaken s with clock := consumed s }) hlive
  refine ⟨_, exec_marker hlive hacc hm, ?_, hd.presentFields, hd.lines, hd.only⟩
  rw [hd.clock, hd.nClock]
  split
  next hw =>
    rw [stepClock_wraps (s := { markerTaken s with clock := consumed s }) hw]
    exact ⟨rfl, rfl⟩
  next hw =>
    rw [stepClock_lands (s := { markerTaken s with clock := consumed s }) hw]
    exact ⟨rfl, rfl⟩

/-- Whether a differing BEACON label relabels at once (R9). -/
abbrev relabels (s : State) (d : Second) : Prop :=
  s.clock.state = .acquire ∨ s.clock.state = .holdover ∨ s.clock.state = .locked ∧ s.clock.pendingDiff = some d.toInt

theorem relabels_or_kept {s : State} (d : Second)
    (h : s.clock.state = .acquire ∨ s.clock.state = .holdover ∨ s.clock.state = .locked) :
    relabels s d ∨ s.clock.state = .locked ∧ s.clock.pendingDiff ≠ some d.toInt := by
  by_cases hp : s.clock.pendingDiff = some d.toInt
  · exact .inl (h.imp_right (Or.imp_right (⟨·, hp⟩)))
  · rcases h with h | h | h
    · exact .inl (.inl h)
    · exact .inl (.inr (.inl h))
    · exact .inr ⟨h, hp⟩

theorem not_relabels {s : State} {d : Second} {P : Prop} (h : s.clock.state = .locked)
    (hp : s.clock.pendingDiff ≠ some d.toInt) (hr : relabels s d) : P := by
  rcases hr with e | e | ⟨-, e⟩
  · exact nomatch h.symm.trans e
  · exact nomatch h.symm.trans e
  · exact absurd e hp

/-- After a relabel the nearest second is the label's. -/
theorem nearestSecond_relabelled {v d : Second} {sec : Second} {ns : Nat} (h : d = v - nearestSecond sec ns) :
    nearestSecond (sec + d) ns = v := by
  unfold nearestSecond at h ⊢
  subst h
  split <;> bv_omega

/-- A step after a relabel wraps exactly where the label is second 0 and the reading rounds up. -/
theorem wraps_relabelled {v d : Second} {sec : Second} {ns : Nat} (h : d = v - nearestSecond sec ns) :
    500000000 ≤ ns ∧ sec + d = 0xFFFFFFFF#32 ↔ 500000000 ≤ ns ∧ v = 0 := by
  refine and_congr_right (fun hns => ?_)
  have hv := nearestSecond_relabelled h
  rw [nearestSecond, if_neg (not_lt.mpr hns)] at hv
  rw [← hv]
  constructor <;> intro e <;> bv_omega

theorem marker_relabel_slews (s : State) (v d : Second) (t0 : Instant) (hlive : live s = true)
    (hacc : acceptsEdge s = true) (hheld : s.clock.held = some (.beacon v t0))
    (hd : d = v - nearestSecond s.clock.sec s.clock.ns) (hd0 : d ≠ 0) (hr : relabels s d)
    (he : (phaseError s.clock.ns).natAbs ≤ s.cfg.clock.step) :
    ∃ t, exec .markerEdge s = .next t ∧ t.clock = slewEnd s (relabelled s d)
      ∧ t.cnt.clock = { s.cnt.clock with
          markerAccepted := s.cnt.clock.markerAccepted + 1, relabel := s.cnt.clock.relabel + 1 }
      ∧ t.cal.fields = localTime s.cfg.cal t.clock.sec ∧ linesRenewed s t ∧ Only clockParts s t := by
  have hm := acceptedMarker_slews (labelStage_relabels s v d t0 hheld hd hd0 hr) rfl he
  have hdel := delivered_finishClock s (by decide : kindRelabel ≠ 0)
    ((only_taken_count s (relabelled s d) (fun c => { c with relabel := c.relabel + 1 })).trans
      ((only_set_clock _ (slewEnd s (relabelled s d))).mono (by decide)))
    (slewEnd_rest s (relabelled s d)).2.2.2.2.2.2.2 hlive
  refine ⟨_, exec_marker hlive hacc hm, hdel.clock, hdel.nClock, hdel.presentFields, hdel.lines, hdel.only⟩

theorem marker_mismatch_slews (s : State) (v d : Second) (t0 : Instant) (hlive : live s = true)
    (hacc : acceptsEdge s = true) (hheld : s.clock.held = some (.beacon v t0))
    (hd : d = v - nearestSecond s.clock.sec s.clock.ns) (hd0 : d ≠ 0) (hst : s.clock.state = .locked)
    (hp : s.clock.pendingDiff ≠ some d.toInt) (he : (phaseError s.clock.ns).natAbs ≤ s.cfg.clock.step) :
    ∃ t, exec .markerEdge s = .next t ∧ t.clock = slewEnd s (mismatched s d)
      ∧ t.cnt.clock = { s.cnt.clock with
          markerAccepted := s.cnt.clock.markerAccepted + 1, labelMismatch := s.cnt.clock.labelMismatch + 1 }
      ∧ Only (.clock :: .nClock :: noticeParts) s t := by
  have hm := acceptedMarker_slews (labelStage_mismatch s v d t0 hheld hd hd0 hst hp) rfl he
  have ho := (only_taken_count s (mismatched s d) (fun c => { c with labelMismatch := c.labelMismatch + 1 })).trans
      ((only_set_clock _ (slewEnd s (mismatched s d))).mono (by decide))
  have hn := only_finishClock_zero s
    { ({ markerTaken s with clock := mismatched s d }.countClock
      (fun c => { c with labelMismatch := c.labelMismatch + 1 })) with clock := slewEnd s (mismatched s d) }
  exact ⟨_, exec_marker hlive hacc hm, hn.clock (by decide), hn.nClock (by decide),
    (ho.mono (by decide)).trans (hn.mono (by decide))⟩

/-- A marker that steps, from the clock that its label stage left. -/
theorem marker_label_steps {s : State} {c : Clock} {f : ClockCnt → ClockCnt} {k : Kinds} (hlive : live s = true)
    (hacc : acceptsEdge s = true)
    (hl : labelStage (markerTaken s) = ⟨{ markerTaken s with clock := c }.countClock f, k, false⟩) (hm : c.m = s.clock.m)
    (he : s.cfg.clock.step < (phaseError s.clock.ns).natAbs) :
    ∃ t, exec .markerEdge s = .next t
      ∧ (500000000 ≤ c.ns ∧ c.sec = 0xFFFFFFFF#32 → t.clock = { c.wrapped with sec := 0, ns := 0, frac := 0 }
          ∧ t.cnt.clock = { f (markerTaken s).cnt.clock with rangeWrap := (f (markerTaken s).cnt.clock).rangeWrap + 1 })
      ∧ (¬(500000000 ≤ c.ns ∧ c.sec = 0xFFFFFFFF#32) →
          t.clock = { c with
            sec := nearestSecond c.sec c.ns, ns := 0, frac := 0, state := .acquire, good := 0, pendingDiff := none }
          ∧ t.cnt.clock = { f (markerTaken s).cnt.clock with step := (f (markerTaken s).cnt.clock).step + 1 })
      ∧ t.cal.fields = localTime s.cfg.cal t.clock.sec ∧ linesRenewed s t ∧ Only clockParts s t := by
  have ht := acceptedMarker_steps hl he
  have hdel := delivered_finishClock s (stepClock_kinds k ({ markerTaken s with clock := c }.countClock f))
    ((only_taken_count s c f).trans (only_stepClock _)) ((stepClock_m _).trans hm) hlive
  refine ⟨_, exec_marker hlive hacc ht, fun hw => ?_, fun hw => ?_, hdel.presentFields, hdel.lines, hdel.only⟩
  · rw [hdel.clock, hdel.nClock, stepClock_wraps hw]
    exact ⟨rfl, rfl⟩
  · rw [hdel.clock, hdel.nClock, stepClock_lands hw]
    exact ⟨rfl, rfl⟩

/-- Settles O8: relabelled or kept by R9, then slewed or stepped on the phase error already captured. -/
theorem markerRelabels : Obligations.MarkerRelabels := by
  intro s v d t0 hlive hacc hheld hd hd0 hst
  refine ⟨fun he => ?_, fun he => ?_⟩
  · rcases relabels_or_kept d hst with hr | ⟨hlock, hp⟩
    · obtain ⟨t, ht, hclock, hcnt, hfields, hlines, honly⟩ :=
        marker_relabel_slews s v d t0 hlive hacc hheld hd hd0 hr he
      obtain ⟨hi, htr, hsec, hns, hfrac, hlast, hheld0, -⟩ := slewEnd_rest s (relabelled s d)
      obtain ⟨hstate, hpend, hgood⟩ :=
        windowed_fresh s.cfg.clock.lock (phaseError s.clock.ns) (slewed s (relabelled s d)) rfl rfl
      rw [← hclock] at hi htr hsec hns hfrac hlast hheld0
      have hclock' : t.clock = windowed s.cfg.clock.lock (phaseError s.clock.ns) (slewed s (relabelled s d)) := hclock
      rw [← hclock'] at hstate hpend hgood
      exact ⟨t, ht, hheld0, hns, hfrac, hlast, hi, htr,
        fun _ => ⟨hsec, hstate, hpend, hgood, hcnt, hfields, hlines⟩, fun h h' => not_relabels h h' hr,
        fun h h' => not_relabels h h' hr, fun h h' => not_relabels h h' hr, honly⟩
    · obtain ⟨t, ht, hclock, hcnt, honly⟩ := marker_mismatch_slews s v d t0 hlive hacc hheld hd hd0 hlock hp he
      obtain ⟨hi, htr, hsec, hns, hfrac, hlast, hheld0, -⟩ := slewEnd_rest s (mismatched s d)
      have hstate : (slewed s (mismatched s d)).state = .locked := hlock
      have hlocked : slewEnd s (mismatched s d)
          = if (phaseError s.clock.ns).natAbs ≤ 4 * s.cfg.clock.lock then slewed s (mismatched s d)
            else { slewed s (mismatched s d) with state := .acquire, good := 0, pendingDiff := none } := by
        unfold slewEnd windowed
        rw [hstate]
      rw [← hclock] at hi htr hsec hns hfrac hlast hheld0 hlocked
      refine ⟨t, ht, hheld0, hns, hfrac, hlast, hi, htr, fun hr => not_relabels hlock hp hr,
        fun _ _ => ⟨hcnt, honly.cal (by decide), honly.lines (by decide)⟩, fun _ _ hin => ⟨hsec, ?_⟩,
        fun _ _ hout => ⟨hsec, ?_⟩, honly.mono (by decide)⟩
      · rw [hlocked, if_pos hin]
        exact ⟨hlock, rfl⟩
      · rw [hlocked, if_neg (not_le.mpr hout)]
        exact ⟨rfl, rfl, rfl⟩
  · rcases relabels_or_kept d hst with hr | ⟨hlock, hp⟩
    · obtain ⟨t, ht, hwraps, hlands, hrest⟩ := marker_label_steps (c := relabelled s d) hlive hacc
        (labelStage_relabels s v d t0 hheld hd hd0 hr) rfl he
      by_cases hw : 500000000 ≤ s.clock.ns ∧ v = 0
      · obtain ⟨hclock, hcnt⟩ := hwraps ((wraps_relabelled hd).mpr hw)
        refine ⟨t, ht, ?_⟩
        rw [hclock] at hrest ⊢
        exact ⟨rfl, rfl, rfl, rfl, rfl, rfl, rfl, rfl, fun _ => ⟨hw.2.symm, (if_pos hw).mpr ⟨rfl, hcnt⟩⟩,
          fun h h' => not_relabels h h' hr, hrest⟩
      · obtain ⟨hclock, hcnt⟩ := hlands (fun e => hw ((wraps_relabelled hd).mp e))
        refine ⟨t, ht, ?_⟩
        rw [hclock] at hrest ⊢
        exact ⟨rfl, rfl, rfl, rfl, rfl, rfl, rfl, rfl,
          fun _ => ⟨nearestSecond_relabelled hd, (if_neg hw).mpr ⟨rfl, hcnt⟩⟩, fun h h' => not_relabels h h' hr, hrest⟩
    · obtain ⟨t, ht, hwraps, hlands, hrest⟩ := marker_label_steps (c := mismatched s d) hlive hacc
        (labelStage_mismatch s v d t0 hheld hd hd0 hlock hp) rfl he
      by_cases hw : 500000000 ≤ s.clock.ns ∧ s.clock.sec = 0xFFFFFFFF#32
      · have hn : nearestSecond s.clock.sec s.clock.ns = 0 := by
          rw [nearestSecond, if_neg (not_lt.mpr hw.1), hw.2]
          rfl
        obtain ⟨hclock, hcnt⟩ := hwraps hw
        refine ⟨t, ht, ?_⟩
        rw [hclock] at hrest ⊢
        exact ⟨rfl, rfl, rfl, rfl, rfl, rfl, rfl, rfl, fun h => not_relabels hlock hp h,
          fun _ _ => ⟨hn.symm, (if_pos hw).mpr ⟨rfl, hcnt⟩⟩, hrest⟩
      · obtain ⟨hclock, hcnt⟩ := hlands hw
        refine ⟨t, ht, ?_⟩
        rw [hclock] at hrest ⊢
        exact ⟨rfl, rfl, rfl, rfl, rfl, rfl, rfl, rfl, fun h => not_relabels hlock hp h,
          fun _ _ => ⟨rfl, (if_neg hw).mpr ⟨rfl, hcnt⟩⟩, hrest⟩

end Sys2Proof.Proofs
end

section
/-! SUPPORT and OBLIGATIONS. The front command, the range wrap (R2), the marker's acceptance (R5), the deadlines of the
clock (R6, R14, R15) and SET_TIME (R17, R18). -/

namespace Sys2Proof.Proofs

open Sys2Proof Sys2Proof.Machine Sys2Proof.Safety

/-- Settles O1: a step with a command in front is that command's. -/
theorem stepRunsFrontCommand : Obligations.StepRunsFrontCommand := by
  intro c rest s h
  rw [step, h]

/-! ### The range wrap -/

/-- The elapsed part of a tick moves elapsed time alone. -/
theorem tickElapsed_eq (c : Clock) (inc : Nat) :
    ∃ m a f, c.tickElapsed inc = { c with m := m, accNs := a, accFrac := f } := by
  rcases Nat.lt_or_ge (advance c.accNs c.accFrac inc).1 1000000 with hc | hc
  · exact ⟨_, _, _, tickElapsed_of_not_carry hc⟩
  · exact ⟨_, _, _, tickElapsed_of_carry hc⟩

/-- The clock of a tick that wraps, its elapsed time and the rest of the new second aside. -/
def wrapClock (c : Clock) (m : Elapsed) (a : Nat) (f : BitVec 32) (n : Nat) (r : BitVec 32) : Clock :=
  { c with m := m, accNs := a, accFrac := f, ns := n, frac := r, sec := 0, state := .unset, good := 0, pendingDiff := none }

theorem wrapped_reading (c : Clock) (inc : Nat) (hcarry : c.carries inc = true) (hsec : c.sec = 0xFFFFFFFF#32) :
    ∃ m a f n r, ((c.tickElapsed inc).tickReading inc).wrapped = wrapClock c m a f n r
      ∧ (c.tickElapsed inc).m = m := by
  obtain ⟨m, a, f, he⟩ := tickElapsed_eq c inc
  have hc : 1000000000 ≤ (advance c.ns c.frac inc).1 := of_decide_eq_true hcarry
  generalize hv : advance c.ns c.frac inc = x at hc
  have hsec' : c.sec + 1 = 0 := by rw [hsec]; rfl
  refine ⟨m, a, f, x.1 - 1000000000, x.2, ?_, by rw [he]⟩
  rw [he, tickReading_of_carry (by simpa only [hv] using hc)]
  dsimp only
  rw [hv, hsec']
  rfl

/-- The calendar with the present second's flag and fields, a seasonal switch counted (R31). -/
def calTaken (s : State) : State :=
  { s with
    cal.flag := inForce s.cfg.cal s.clock.sec
    cal.fields := localTime s.cfg.cal s.clock.sec
    cnt.cal.seasonSwitch := s.cnt.cal.seasonSwitch + (if inForce s.cfg.cal s.clock.sec = s.cal.flag then 0 else 1) }

theorem calendarEvent_eq (b : Bool) (s : State) : calendarEvent b s =
    if (b || inForce s.cfg.cal s.clock.sec != s.cal.flag) = true then runExaminers (calTaken s) else calTaken s := by
  unfold calendarEvent calTaken
  by_cases h : inForce s.cfg.cal s.clock.sec = s.cal.flag
  · simp [h]
  · simp [h, State.countCal]

theorem calendarEvent_unset (b : Bool) {s : State} (hu : s.clock.state = .unset) : calendarEvent b s = calTaken s := by
  rw [calendarEvent_eq, runExaminers, if_pos (show (calTaken s).clock.state = .unset from hu), ite_self]

/-- In UNSET a change leaves the calendar without last minutes (R39). -/
theorem calendarClockChange_unset {u : State} (hu : u.clock.state = .unset) :
    (calendarClockChange u).cal.fields = localTime u.cfg.cal u.clock.sec
      ∧ (calendarClockChange u).cal.lastDue = none ∧ (calendarClockChange u).cal.lastWarn = none := by
  rw [calendarClockChange, if_pos hu]
  dsimp only
  rw [calendarEvent_unset true (s := { u with cal.lastDue := none, cal.lastWarn := none }) hu]
  exact ⟨rfl, rfl, rfl⟩

/-- In UNSET a change takes the target of every slave line. -/
theorem deliverChange_unset {u : State} (hlive : live u = true) (hu : u.clock.state = .unset) :
    (deliverChange u).cal.fields = localTime u.cfg.cal u.clock.sec ∧ (deliverChange u).cal.lastDue = none
      ∧ (deliverChange u).cal.lastWarn = none
      ∧ ∀ i : Fin 8, (deliverChange u).lines[i]
        = if u.cfg.lines[i].function.cycle.isSome then { u.lines[i] with target := none } else u.lines[i] := by
  have hc := only_calendarClockChange u
  rw [deliverChange, if_pos hlive]
  have hcal := (only_linesClockChange (calendarClockChange u)).cal (by decide)
  rw [hcal]
  obtain ⟨hfields, hdue, hwarn⟩ := calendarClockChange_unset hu
  refine ⟨hfields, hdue, hwarn, fun i => ?_⟩
  rw [linesClockChange_line, hc.cfg (by decide), hc.lines (by decide), lineAtChange]
  have hu' : (calendarClockChange u).clock.state = .unset := by rw [hc.clock (by decide), hu]
  split
  next hs =>
    obtain ⟨cy, hcy⟩ := Option.isSome_iff_exists.mp hs
    exact decided_unset _ _ cy _ hcy hu'
  next => rfl

/-- The wrapped reading before it is delivered, counted. -/
def wrapState (e : State) (c : Clock) : State :=
  { e with clock := c }.countClock (fun c => { c with rangeWrap := c.rangeWrap + 1 })

theorem only_wrapState (e : State) (c : Clock) : Only [.clock, .nClock] e (wrapState e c) :=
  ((only_set_clock e c).mono (by decide)).trans ((only_countClock _ _).mono (by decide))

theorem rangeWrap_eq (s : State) (hcarry : tickCarries s = true) (hsec : s.clock.sec = 0xFFFFFFFF#32) :
    ∃ m a f n r, rangeWrap s
      = finishClock (elapsedTick s) kindRangeWrap (wrapState (elapsedTick s) (wrapClock s.clock m a f n r)) := by
  obtain ⟨m, a, f, n, r, hw, -⟩ := wrapped_reading s.clock (tickIncrement s) hcarry hsec
  refine ⟨m, a, f, n, r, ?_⟩
  rw [rangeWrap, takeWrap_eq, wrapState, ← hw, elapsedTick]

theorem exec_rangeWrap {s : State} (htick : ticks s = true) (hcarry : tickCarries s = true)
    (hsec : s.clock.sec = 0xFFFFFFFF#32) : exec .rangeWrap s = .next (rangeWrap s) := by
  have h : wrapDue s = true := by rw [wrapDue, htick, hcarry, hsec]; rfl
  exact congrArg Host.Outcome.next (if_pos h)

theorem only_elapsedTick (s : State) : Only [.clock] s (elapsedTick s) := only_set_clock s _

/-- What a clock change leaves of the event, whether or not it is delivered and reported. -/
theorem finishClock_change_eq (b : State) (k : Kinds) (s : State) (hk : k ≠ 0) :
    (finishClock b k s).cal = (deliverChange s).cal ∧ (finishClock b k s).lines = (deliverChange s).lines := by
  unfold finishClock
  extract_lets c s1
  have e : s1 = deliverChange s := if_neg hk
  rw [e]
  split
  · exact ⟨(only_notice _ _ _).cal (by decide), (only_notice _ _ _).lines (by decide)⟩
  · exact ⟨rfl, rfl⟩

/-- Settles O3: the wrapped reading is a clock change that the calendar and the lines take at second 0. -/
theorem rangeWrap : Obligations.RangeWrap := by
  intro s htick hcarry hsec
  obtain ⟨m, a, f, n, r, hw⟩ := rangeWrap_eq s hcarry hsec
  refine ⟨_, exec_rangeWrap htick hcarry hsec, ?_⟩
  rw [hw]
  have he := only_elapsedTick s
  have hu := only_wrapState (elapsedTick s) (wrapClock s.clock m a f n r)
  generalize elapsedTick s = e at he hu ⊢
  have hclock : (wrapState e (wrapClock s.clock m a f n r)).clock = wrapClock s.clock m a f n r := rfl
  have hcnt : (wrapState e (wrapClock s.clock m a f n r)).cnt.clock
      = { e.cnt.clock with rangeWrap := e.cnt.clock.rangeWrap + 1 } := rfl
  rw [he.nClock (by decide)] at hcnt
  generalize wrapState e (wrapClock s.clock m a f n r) = u at hu hclock hcnt ⊢
  have hf := only_finishClock e kindRangeWrap u
  have hsu : Only [.clock, .nClock] s u := (he.mono (by decide)).trans hu
  have hst : u.clock.state = .unset := by rw [hclock]; rfl
  have hq : qualityClass (finishClock e kindRangeWrap u) = 3 := by
    rw [qualityClass, hf.clock (by decide), hst]
  refine ⟨?_, ?_, ?_, ?_, ?_, ?_, ?_, ?_, hq, (hf.nClock (by decide)).trans hcnt, fun hlive => ?_,
    (hsu.mono (by decide)).trans (hf.mono (by decide))⟩ <;> try rw [hf.clock (by decide), hclock]; rfl
  have hliveu : live u = true := (live_congr (hsu.supply (by decide))).trans hlive
  obtain ⟨hcal, hlines⟩ := finishClock_change_eq e kindRangeWrap u (by decide)
  obtain ⟨hfields, hdue, hwarn, hline⟩ := deliverChange_unset hliveu hst
  rw [hcal, hlines]
  refine ⟨?_, hdue, hwarn, fun i => ?_⟩
  · rw [hfields, hclock, hsu.cfg (by decide)]
    rfl
  · rw [hline, hsu.cfg (by decide), hsu.lines (by decide)]

/-! ### The acceptance of a marker -/

/-- The label stage leaves the marker's instant and its counts. -/
theorem labelStage_marked (s : State) : (labelStage s).state.clock.lastMarker = s.clock.lastMarker
    ∧ (labelStage s).state.cnt.clock.markerAccepted = s.cnt.clock.markerAccepted
    ∧ (labelStage s).state.cnt.clock.markerGlitch = s.cnt.clock.markerGlitch := by
  rcases hheld : s.clock.held with _ | ⟨v, at'⟩ | v
  · rw [labelStage_none s hheld]
    cases s.clock.state <;> exact ⟨rfl, rfl, rfl⟩
  · cases hst : s.clock.state with
    | unset => rw [labelStage_beacon_applied s v at' hheld (.inl hst)]; exact ⟨rfl, rfl, rfl⟩
    | manual => rw [labelStage_beacon_applied s v at' hheld (.inr hst)]; exact ⟨rfl, rfl, rfl⟩
    | acquire =>
      rw [labelStage_beacon_compared s v at' hheld (.inl hst)]
      split <;> exact ⟨rfl, rfl, rfl⟩
    | holdover =>
      rw [labelStage_beacon_compared s v at' hheld (.inr hst)]
      split <;> exact ⟨rfl, rfl, rfl⟩
    | locked =>
      rw [labelStage_beacon_locked s v at' hheld hst]
      split_ifs <;> exact ⟨rfl, rfl, rfl⟩
  · rw [labelStage_manual s v hheld]
    exact ⟨rfl, rfl, rfl⟩

theorem stepClock_marked (s : State) : (stepClock s).1.clock.lastMarker = s.clock.lastMarker
    ∧ (stepClock s).1.cnt.clock.markerAccepted = s.cnt.clock.markerAccepted
    ∧ (stepClock s).1.cnt.clock.markerGlitch = s.cnt.clock.markerGlitch := by
  by_cases h : 500000000 ≤ s.clock.ns ∧ s.clock.sec = 0xFFFFFFFF#32
  · rw [stepClock_wraps h]
    exact ⟨rfl, rfl, rfl⟩
  · rw [stepClock_lands h]
    exact ⟨rfl, rfl, rfl⟩

theorem finishClock_clock (b : State) (k : Kinds) (s : State) :
    (finishClock b k s).clock = s.clock ∧ (finishClock b k s).cnt.clock = s.cnt.clock :=
  ⟨(only_finishClock b k s).clock (by decide), (only_finishClock b k s).nClock (by decide)⟩

theorem acceptedMarker_marked (s : State) : (acceptedMarker s).clock.lastMarker = some s.now
    ∧ (acceptedMarker s).cnt.clock.markerAccepted = s.cnt.clock.markerAccepted + 1
    ∧ (acceptedMarker s).cnt.clock.markerGlitch = s.cnt.clock.markerGlitch := by
  have h : (labelStage (markerTaken s)).state.clock.lastMarker = some s.now
      ∧ (labelStage (markerTaken s)).state.cnt.clock.markerAccepted = s.cnt.clock.markerAccepted + 1
      ∧ (labelStage (markerTaken s)).state.cnt.clock.markerGlitch = s.cnt.clock.markerGlitch :=
    labelStage_marked (markerTaken s)
  rw [acceptedMarker_eq]
  generalize labelStage (markerTaken s) = r at h ⊢
  split_ifs
  · rw [(finishClock_clock _ _ _).1, (finishClock_clock _ _ _).2]
    exact h
  · obtain ⟨h1, h2, h3⟩ := stepClock_marked r.state
    rw [(finishClock_clock _ _ _).1, (finishClock_clock _ _ _).2, h1, h2, h3]
    exact h
  · rw [(finishClock_clock _ _ _).1, (finishClock_clock _ _ _).2, windowStage_eq]
    dsimp only
    rw [(windowed_rest _ _ _).2.2.2.2.2.1]
    exact h

/-- Settles O4: R5's acceptance read off its definition, and what an accepted edge keeps. -/
theorem markerGlitch : Obligations.MarkerGlitch := by
  intro s t0
  have haccepts (h : s.clock.lastMarker = some t0) : acceptsEdge s
      = (decide (1000000000 ≤ elapsedNs t0 s.now + s.cfg.clock.window)
          && decide (elapsedNs t0 s.now ≤ 1000000000 + s.cfg.clock.window)
        || decide (2000000000 < elapsedNs t0 s.now)) := by
    rw [acceptsEdge, h]
  refine ⟨fun hlive h hlt hout => ?_, fun hlive => ?_, fun h => ?_, fun h hne => ?_, fun hlive hacc => ?_⟩
  · have hno : acceptsEdge s = false := by
      rw [haccepts h]
      simp only [Bool.or_eq_false_iff, Bool.and_eq_false_iff, decide_eq_false_iff_not]
      omega
    show Host.Outcome.next (markerEdge s) = _
    rw [markerEdge, if_pos hlive, hno, if_neg Bool.false_ne_true]
    rfl
  · show Host.Outcome.next (markerEdge s) = _
    rw [markerEdge, hlive, if_neg Bool.false_ne_true]
  · rw [acceptsEdge, h]
  · rw [haccepts h]
    simp only [Bool.or_eq_true, Bool.and_eq_true, decide_eq_true_eq]
    omega
  · exact ⟨_, exec_markerEdge_accepted hlive hacc, acceptedMarker_marked s⟩

/-! ### Deadlines -/

theorem notice_noticeNo {s : State} (code : Nat) (body : List Byte) (hlive : live s = true) :
    (notice code body s).resp.noticeNo = s.resp.noticeNo + 1 := by
  rw [notice, if_pos hlive]
  dsimp only
  rw [(only_place_s _ _ _).resp (by decide)]
  rfl

theorem qualityClass_congr {s t : State} (hclock : t.clock = s.clock) (hcfg : t.cfg = s.cfg) :
    qualityClass t = qualityClass s := by
  obtain ⟨⟩ := s
  obtain ⟨⟩ := t
  cases hclock
  cases hcfg
  rfl

theorem qualityClass_limitTaken {s t : State} (hclock : t.clock = { s.clock with limitTaken := true })
    (hcfg : t.cfg = s.cfg) : qualityClass t = qualityClass s :=
  qualityClass_congr (s := { s with clock.limitTaken := true }) hclock hcfg

/-- The clock in holdover, counted (R14). -/
def heldOver (s : State) : State :=
  { s with clock := s.clock.enterHoldover }.countClock (fun c => { c with holdoverEntry := c.holdoverEntry + 1 })

theorem only_taken_holdover (s : State) : Only [.clock, .nClock] s (heldOver s) :=
  (clockMoves_count s s.clock.enterHoldover _ 0 clockIn_enterHoldover (fun _ => nofun)).only

/-- The limit taken and counted (R15). -/
def limitCounted (s : State) : State :=
  { s with clock.limitTaken := true }.countClock (fun c => { c with holdoverLimit := c.holdoverLimit + 1 })

theorem only_limitCounted (s : State) : Only [.clock, .nClock] s (limitCounted s) :=
  (clockMoves_count s { s.clock with limitTaken := true } _ 0 id (fun _ => id)).only

/-- A clock event that changes the state of the clock ends with a notice. -/
theorem finishClock_moved {b s : State} (h : s.clock.state ≠ b.clock.state) :
    finishClock b 0 s = notice 0x83 (clockNoticeBody 0 s) s := by
  rw [finishClock]
  simp [h]

theorem beaconStaleDue_of {s : State} {t0 : Instant} {v : Second} (hlive : live s = true)
    (hheld : s.clock.held = some (.beacon v t0)) (hspan : 1500000000 ≤ elapsedNs t0 s.now) : beaconStaleDue s = true := by
  simp only [beaconStaleDue, hlive, hheld, hspan, decide_true, Bool.and_self]

theorem silenceDue_of {s : State} {t0 : Instant} (hrun : s.supply.state = .run)
    (hst : s.clock.state = .acquire ∨ s.clock.state = .locked) (hlast : s.clock.lastMarker = some t0)
    (hspan : 1500000000 ≤ elapsedNs t0 s.now) : silenceDue s = true := by
  have hs : (s.clock.state == .acquire || s.clock.state == .locked) = true := by
    rcases hst with h | h <;> rw [h] <;> rfl
  simp only [silenceDue, runs, hrun, hs, hlast, hspan, decide_true, beq_self_eq_true, Bool.and_self]

theorem exec_silenceExpiry {s : State} (h : silenceDue s = true) : exec .silenceExpiry s = .next (silenceExpires s) :=
  congrArg Host.Outcome.next (if_pos h)

theorem exec_beaconStale {s : State} (h : beaconStaleDue s = true) : exec .beaconStale s
    = .next ({ s with clock.held := none }.countClock (fun c => { c with beaconStale := c.beaconStale + 1 })) :=
  congrArg Host.Outcome.next (if_pos h)

theorem exec_holdoverLimit {s : State} (h : holdoverLimitDue s = true) :
    exec .holdoverLimit s = .next (holdoverLimitReached s) := congrArg Host.Outcome.next (if_pos h)

/-- The silence expires (R14). -/
theorem silenceExpires_spec (s : State) (hst : s.clock.state = .acquire ∨ s.clock.state = .locked) :
    (silenceExpires s).clock = s.clock.enterHoldover
      ∧ (silenceExpires s).cnt.clock = { s.cnt.clock with holdoverEntry := s.cnt.clock.holdoverEntry + 1 }
      ∧ (live s = true → (silenceExpires s).resp.noticeNo = s.resp.noticeNo + 1)
      ∧ Only (.clock :: .nClock :: noticeParts) s (silenceExpires s) := by
  have hne : ClockState.holdover ≠ s.clock.state := by
    rcases hst with h | h <;> rw [h] <;> decide
  have hu := only_taken_holdover s
  have he : silenceExpires s = notice 0x83 (clockNoticeBody 0 (heldOver s)) (heldOver s) :=
    finishClock_moved (b := s) (s := heldOver s) hne
  have hn := only_notice 0x83 (clockNoticeBody 0 (heldOver s)) (heldOver s)
  rw [he]
  exact ⟨hn.clock (by decide), hn.nClock (by decide), fun hlive => notice_noticeNo 0x83 _
    ((live_congr (hu.supply (by decide))).trans hlive), (hu.mono (by decide)).trans (hn.mono (by decide))⟩

/-- The holdover limit is reached (R15). -/
theorem holdoverLimitReached_spec (s : State) :
    (holdoverLimitReached s).clock = { s.clock with limitTaken := true }
      ∧ (holdoverLimitReached s).cnt.clock = { s.cnt.clock with holdoverLimit := s.cnt.clock.holdoverLimit + 1 }
      ∧ (live s = true → (holdoverLimitReached s).resp.noticeNo = s.resp.noticeNo + 1)
      ∧ Only (.clock :: .nClock :: noticeParts) s (holdoverLimitReached s) := by
  have hu := only_limitCounted s
  have he : holdoverLimitReached s = notice 0x83 (clockNoticeBody 0 (limitCounted s)) (limitCounted s) := rfl
  have hn := only_notice 0x83 (clockNoticeBody 0 (limitCounted s)) (limitCounted s)
  rw [he]
  exact ⟨hn.clock (by decide), hn.nClock (by decide), fun hlive => notice_noticeNo 0x83 _
    ((live_congr (hu.supply (by decide))).trans hlive), (hu.mono (by decide)).trans (hn.mono (by decide))⟩

/-- Settles O9: each deadline is due, and its effect is read off. -/
theorem clockDeadlines : Obligations.ClockDeadlines := by
  intro s t0 v
  refine ⟨fun hlive hheld hspan => ?_, fun hrun hst hlast hspan => ?_, fun htick hst htaken hlast hspan => ?_⟩
  · exact exec_beaconStale (beaconStaleDue_of hlive hheld hspan)
  · obtain ⟨hclock, hcnt, hno, ho⟩ := silenceExpires_spec s hst
    refine ⟨_, exec_silenceExpiry (silenceDue_of hrun hst hlast hspan), ?_⟩
    rw [hclock, hcnt]
    exact ⟨rfl, rfl, rfl, rfl, rfl, rfl, rfl, rfl, rfl, rfl, hno, ho⟩
  · have hage : ageAtLimit s s.cfg.clock.holdLimit = true := by
      simp only [ageAtLimit, holdoverAge, hst, hlast, beq_self_eq_true, Bool.true_and, decide_eq_true_eq]
      exact hspan
    have hdue : holdoverLimitDue s = true := by simp only [holdoverLimitDue, htick, htaken, hage, Bool.not_false, Bool.and_self]
    obtain ⟨hclock, hcnt, hno, ho⟩ := holdoverLimitReached_spec s
    refine ⟨_, exec_holdoverLimit hdue, ?_, hclock, hcnt, hno, ho⟩
    have hq : qualityClass (holdoverLimitReached s) = qualityClass s :=
      qualityClass_limitTaken hclock (ho.cfg (by decide))
    rw [hq, qualityClass, hst]
    dsimp only
    rw [if_pos hage]

/-! ### SET_TIME (R17, R18) -/

/-- The clock set at once (R17). -/
def setClock (c : Clock) (sec : Second) (ns : Nat) : Clock :=
  { c with sec := sec, ns := ns, frac := 0, state := .manual, trim := c.integral, good := 0, pendingDiff := none, held := none }

theorem delivered_setTimeNow (sec : Second) (ns : Nat) (s : State) (hlive : live s = true) :
    Delivered s ({ s with clock := setClock s.clock sec ns }.countClock
      (fun c => { c with manualSet := c.manualSet + 1 })) (setTimeNow sec ns s) :=
  delivered_finishClock s (by decide : kindManualSet ≠ 0)
    ((only_set_clock s _).seq (only_countClock _ _) (by decide) (by decide)) rfl hlive

theorem rd_setTime (sec ns : Nat) (mode : Byte) (pad : List Byte) (hsec : sec < 2 ^ 32) (hns : ns < 2 ^ 32) :
    rd 4 (be 4 sec ++ be 4 ns ++ mode :: pad) = some (sec, be 4 ns ++ mode :: pad)
      ∧ rd 4 (be 4 ns ++ mode :: pad) = some (ns, mode :: pad) ∧ rd 1 (mode :: pad) = some (mode.toNat, pad) := by
  rw [List.append_assoc]
  exact ⟨rd_be (by norm_num; omega) _, rd_be (by norm_num; omega) _, rd_one _ _⟩

theorem held_setTime (ns : Nat) : held 0 999999999 ns = (min ns 999999999, decide (999999999 < ns)) := by
  simp [held, clampNat, Nat.min_comm]

/-- Settles O10: the three modes of the request. -/
theorem setTime : Obligations.SetTime := by
  intro s h sec ns mode pad ⟨ha, hcom⟩ hsec hns
  obtain ⟨hr1, hr2, hr3⟩ := rd_setTime sec ns mode pad hsec hns
  refine ⟨fun hm => ?_, fun hm => ?_, fun hm => ?_⟩
  · subst hm
    have hop : opSetTime ⟨h, 0x15, be 4 sec ++ be 4 ns ++ 0 :: pad⟩ (taken s)
        = (setTimeNow (BitVec.ofNat 32 sec) (min ns 999999999) (taken s), some ⟨okOr (decide (999999999 < ns)), []⟩) := by
      simp only [opSetTime, hr1, hr2, hr3, held_setTime]
      rfl
    have hd := delivered_setTimeNow (BitVec.ofNat 32 sec) (min ns 999999999) (taken s) ha.1
    refine ⟨_, congrArg Host.Outcome.next ((command_answered ha (fun _ => hcom) hop (okOr_refuses _)).trans ?_),
      hd.clock, hd.nClock, hd.fields, hd.lines, hd.only⟩
    rw [okOr_code]
    simp only [decide_eq_true_eq]
    rfl
  · subst hm
    refine congrArg Host.Outcome.next (command_answered (st := .ok) (data := []) ha (fun _ => hcom) ?_ rfl)
    simp only [opSetTime, hr1, hr2, hr3]
    rfl
  · refine congrArg Host.Outcome.next (command_refused (st := .badValue) ha (fun _ => hcom) ?_ rfl)
    obtain ⟨n, hn⟩ : ∃ n, mode.toNat = n + 2 := ⟨mode.toNat - 2, by omega⟩
    simp only [opSetTime, hr1, hr2, hr3, hn]

end Sys2Proof.Proofs
end

section
/-! SUPPORT and OBLIGATIONS. The frame path: reception, takes, transmissions, management frames (R45 to R54). -/

namespace Sys2Proof.Proofs

open Sys2Proof Sys2Proof.Machine Sys2Proof.Safety

/-! ### Ports -/

@[simp] theorem withPort_port_same (s : State) (p : Port) (x : PortPath) : (s.withPort p x).port p = x := by
  cases p <;> rfl

@[simp] theorem withPort_withPort (s : State) (p : Port) (x y : PortPath) :
    (s.withPort p x).withPort p y = s.withPort p y := by
  cases p <;> rfl

@[simp] theorem countPort_port (s : State) (p q : Port) (f : PortCnt → PortCnt) :
    (s.countPort p f).port q = s.port q := by
  cases p <;> cases q <;> rfl

theorem withPort_countPort (s : State) (p : Port) (x : PortPath) (f : PortCnt → PortCnt) :
    (s.countPort p f).withPort p x = (s.withPort p x).countPort p f := by
  cases p <;> rfl

theorem countPort_countPort (s : State) (p : Port) (f g : PortCnt → PortCnt) :
    (s.countPort p f).countPort p g = s.countPort p (g ∘ f) := by
  cases p <;> rfl

/-! ### Reception -/

theorem frameReceived_length {s : State} {p : Port} {st : Stamp} {bytes : List Byte} (hlive : live s = true)
    (hrx : (s.port p).rx = some st) (h : lengthOk bytes = false) : frameReceived p bytes s
      = (s.withPort p { s.port p with rx := none }).countPort p (fun c => { c with rxLength := c.rxLength + 1 }) := by
  simp only [frameReceived, hrx, hlive, if_true, h, Bool.not_false]

theorem frameReceived_fcs {s : State} {p : Port} {st : Stamp} {bytes : List Byte} (hlive : live s = true)
    (hrx : (s.port p).rx = some st) (h : lengthOk bytes = true) (hf : fcsOk bytes = false) : frameReceived p bytes s
      = (s.withPort p { s.port p with rx := none }).countPort p (fun c => { c with rxFcs := c.rxFcs + 1 }) := by
  simp only [frameReceived, hrx, hlive, if_true, h, hf, Bool.not_false, Bool.not_true, Bool.false_eq_true, if_false]

theorem frameReceived_good {s : State} {p : Port} {st : Stamp} {bytes : List Byte} (hlive : live s = true)
    (hrx : (s.port p).rx = some st) (h : lengthOk bytes = true) (hf : fcsOk bytes = true) : frameReceived p bytes s
      = ingressPlace p ⟨bytes, st⟩ ((s.withPort p { s.port p with rx := none }).countPort p
          (fun c => { c with rxGood := c.rxGood + 1 })) := by
  simp only [frameReceived, hrx, hlive, if_true, h, hf, Bool.not_true, Bool.false_eq_true, if_false]

theorem ingressPlace_room {p : Port} {f : RxFrame} {s : State} (h : (s.port p).ingress.length < 8) :
    ingressPlace p f s = s.withPort p { s.port p with ingress := (s.port p).ingress ++ [f] } := if_pos h

theorem ingressPlace_full {p : Port} {f : RxFrame} {s : State} (h : 8 ≤ (s.port p).ingress.length) :
    ingressPlace p f s = s.countPort p (fun c => { c with ingressFull := c.ingressFull + 1 }) := if_neg (not_lt.mpr h)

/-- Settles O11: length first, then the check sequence, then room. -/
theorem reception : Obligations.Reception := by
  intro s p st bytes hlive
  have hlen (h1 : 64 ≤ bytes.length) (h2 : bytes.length ≤ 1522) : lengthOk bytes = true := by
    simp only [lengthOk, h1, h2, decide_true, Bool.and_self]
  have hgood (h : bytes.drop (bytes.length - 4) = fcs (bytes.take (bytes.length - 4))) : fcsOk bytes = true :=
    beq_iff_eq.mpr h
  refine ⟨fun hrx => ?_, fun hrx hbad => ?_, fun hrx h1 h2 hf => ?_, fun hrx h1 h2 hf hroom => ?_,
    fun hrx h1 h2 hf hroom => ?_⟩ <;> refine exec_next_inj ?_
  · rw [frameStart, hlive, hrx]
    rfl
  · refine frameReceived_length hlive hrx ?_
    simp only [lengthOk, Bool.and_eq_false_iff, decide_eq_false_iff_not]
    omega
  · exact frameReceived_fcs hlive hrx (hlen h1 h2) (beq_eq_false_iff_ne.mpr hf)
  · rw [frameReceived_good hlive hrx (hlen h1 h2) (hgood hf), ingressPlace_room (by simpa using hroom)]
    simp only [countPort_port, withPort_port_same, withPort_countPort, withPort_withPort]
  · rw [frameReceived_good hlive hrx (hlen h1 h2) (hgood hf), ingressPlace_full (by simpa using hroom),
      countPort_countPort]
    rfl

/-! ### Takes and transmissions -/

theorem takePort_eq {s : State} {p : Port} {f : RxFrame} {rest : List RxFrame} (hq : (s.port p).ingress = f :: rest)
    (hp : p = s.cls.pointer ∨ (s.port s.cls.pointer).ingress = []) : takePort s = p := by
  unfold takePort
  rcases hp with hp | hp
  · rw [← hp, hq]
    rfl
  · rw [hp]
    have hne : p ≠ s.cls.pointer := by
      rintro rfl
      exact nomatch hp.symm.trans hq
    revert hne
    cases p <;> cases s.cls.pointer <;> simp [Port.other]

/-- Settles O12: the pointer's queue, or the other where it is empty. -/
theorem frameTake : Obligations.FrameTake := by
  intro s p f rest hlive hwork hready hq hp
  have hne : (!s.portU.ingress.isEmpty || !s.portS.ingress.isEmpty) = true := by
    cases p with
    | u => rw [show s.portU.ingress = f :: rest from hq]; rfl
    | s => rw [show s.portS.ingress = f :: rest from hq]; exact Bool.or_true _
  have hdue : takeDue s = true := by
    rw [takeDue, hlive, hwork, hready, hne]
    rfl
  refine (congrArg Host.Outcome.next (if_pos hdue)).trans (exec_next_inj ?_)
  rw [Machine.frameTake, takePort_eq hq hp]
  simp only [hq]
  cases p <;> rfl

theorem txStart_of_class {s : State} {p : Port} {c : EgressClass} {f : TxFrame} {rest : List TxFrame}
    (hlive : live s = true) (htx : (s.port p).tx = none) (hdue : s.resp.restartDue = false)
    (hc : nextClass (s.port p) = some c) (hq : (s.port p).queue c = f :: rest) :
    exec (.transmissionStart p) s
      = .next (s.withPort p { (s.port p).withQueue c rest with tx := some ⟨f, s.now⟩ }) := by
  have hstart : txStartDue p s = true := by
    rw [txStartDue, hlive, htx, hc, hdue]
    rfl
  refine (congrArg Host.Outcome.next (if_pos hstart)).trans (exec_next_inj ?_)
  simp only [txStart, hc, hq]

/-- Settles O13: the highest class that holds a frame, and the completion. -/
theorem transmission : Obligations.Transmission := by
  intro s p f rest since hlive
  refine ⟨fun htx hdue hu => ?_, fun htx hdue hu hn => ?_, fun htx hdue hu hn hb => ?_, fun htx hspan => ?_⟩
  · exact txStart_of_class (c := .urgent) hlive htx hdue (by simp [nextClass, hu]) hu
  · exact txStart_of_class (c := .notice) hlive htx hdue (by simp [nextClass, hu, hn]) hn
  · exact txStart_of_class (c := .bulk) hlive htx hdue (by simp [nextClass, hu, hn, hb]) hb
  · have hdone : txDone p s = true := by
      simp only [txDone, hlive, htx, txTime, hspan, decide_true, Bool.and_self]
    refine (congrArg Host.Outcome.next (if_pos hdone)).trans (exec_next_inj ?_)
    simp only [txComplete, htx]
    cases f.restart with
    | true => cases p <;> cases hr : s.resp.restartDue <;> rfl
    | false => cases p <;> simp <;> rfl

/-! ### Management frames -/

theorem place_handed (p : Port) (c : EgressClass) (f : TxFrame) (s : State) (l : List Request) :
    place p c f { s with resp.handed := l } = { place p c f s with resp.handed := l } := by
  have h1 : startsAtOnce { s with resp.handed := l } p = startsAtOnce s p := by cases p <;> rfl
  have h2 : hasRoom { s with resp.handed := l } p c = hasRoom s p c := by cases p <;> rfl
  unfold place
  rw [h1, h2]
  split_ifs <;> cases p <;> rfl

theorem settleHanded_known {s : State} (h : s.resp.handed.all (fun r => knownCode r.code) = true) :
    settleHanded s = s := by
  unfold settleHanded
  split
  · cases hl : s.resp.handed with
    | nil =>
      rw [answerUnknown]
      conv_rhs => rw [← show ({ s with resp.handed := s.resp.handed } : State) = s from rfl, hl]
    | cons r rs =>
      rw [hl] at h
      have hr : knownCode r.code = true := by simp_all
      rw [answerUnknown, if_pos hr]
      conv_rhs => rw [← show ({ s with resp.handed := s.resp.handed } : State) = s from rfl, hl]
  · rfl

/-- A request of unknown code that a READY responder is handed with none waiting (R201). -/
theorem hand_unknown {s : State} {r : Request} (hready : s.resp.state = .ready) (hnone : s.resp.handed = [])
    (hr : knownCode r.code = false) : hand r s = replied r.head r.code.toNat 0x10 [] (refusedOnce (taken s)) := by
  have hs : ({ s with resp.handed := [] } : State) = s := by rw [← hnone]
  unfold hand settleHanded
  rw [hnone, List.nil_append]
  dsimp only
  rw [if_pos hready, answerUnknown, hr, if_neg Bool.false_ne_true, answerUnknown]
  have hrep (l : List Request) : reply r (Answer.refusal .badRequest)
      ({ s with resp.handed := l }.countResp (fun c => { c with taken := c.taken + 1 }))
        = { replied r.head r.code.toNat 0x10 [] (refusedOnce (taken s)) with resp.handed := l } := by
    rw [replied, ← place_handed, be_one]
    rfl
  have hrep0 := hrep []
  rw [hs] at hrep0
  rw [hrep [r]]
  dsimp only
  rw [← hrep0]
  have h0 : reply r (Answer.refusal .badRequest) (s.countResp (fun c => { c with taken := c.taken + 1 }))
      = replied r.head r.code.toNat 0x10 [] (refusedOnce (taken s)) := by
    rw [replied, be_one]
    rfl
  exact h0

theorem classify_management {s : State} {w : Work} (hlive : live s = true) (hwork : s.cls.work = some w)
    (hdst : frameDst w.bytes = w.station) (htype : frameType w.bytes = w.mtype) (hport : w.port = .s ∨ w.mgmtU = true) :
    classificationDone s = hand (requestOf w) ({ s with cls.work := none }.countPort w.port
      (fun c => { c with mgmtTaken := c.mgmtTaken + 1 })) := by
  have hok : ¬(w.port = .u ∧ w.mgmtU = false) := by
    rintro ⟨hu, hoff⟩
    rcases hport with h | h
    · exact nomatch hu.symm.trans h
    · exact nomatch hoff.symm.trans h
  rw [classificationDone_of_work hlive hwork, classifyFrame, if_pos ((isManagement_iff w).mpr ⟨hdst, htype⟩),
    if_neg hok]

/-- Settles O15: a known code waits, an unknown one is answered. -/
theorem managementFrameHanded : Obligations.ManagementFrameHanded := by
  intro s w hlive hwork hdst htype hport
  rw [exec_classificationDone, classify_management hlive hwork hdst htype hport]
  refine ⟨fun hknown => exec_next_inj ?_, fun hready hnone hr => exec_next_inj ?_⟩
  · cases hp : w.port <;> exact settleHanded_known hknown
  · cases hp : w.port <;> exact hand_unknown hready hnone hr

end Sys2Proof.Proofs
end

section
/-! SUPPORT and OBLIGATIONS. The search of the active bank and the end of a classification (R52, R65 to R69). -/

namespace Sys2Proof.Proofs

open Sys2Proof Sys2Proof.Machine Sys2Proof.Safety

/-- What the search starts from (R65). -/
def unsearched (w : Work) : Gathered := ⟨w.bytes, false, 0, false, false⟩

theorem classificationDone_plant {s : State} {w : Work} (hlive : live s = true) (hwork : s.cls.work = some w)
    (hplant : isManagement w = false) : classificationDone s
      = outcome w (searchBank w 128 0 (unsearched w) { s with cls.work := none }).1
          (searchBank w 128 0 (unsearched w) { s with cls.work := none }).2 := by
  rw [classificationDone_of_work hlive hwork, classifyFrame, hplant, if_neg Bool.false_ne_true]
  rfl

theorem isManagement_false {w : Work} (h : frameDst w.bytes ≠ w.station ∨ frameType w.bytes ≠ w.mtype) :
    isManagement w = false := by
  refine Bool.eq_false_iff.mpr (fun hm => ?_)
  obtain ⟨hdst, htype⟩ := (isManagement_iff w).mp hm
  rcases h with h | h
  · exact h hdst
  · exact h htype

/-! ### No entry matches -/

theorem searchBank_none {w : Work} {s : State} (h : ∀ i : Fin 128, s.cls.active[i].hits w = false) (g : Gathered) :
    ∀ fuel i, searchBank w fuel i g s = (g, s)
  | 0, _ => rfl
  | fuel + 1, i => by
    rw [searchBank]
    split
    next hi =>
      dsimp only
      rw [show s.cls.active[i].hits w = false from h ⟨i, hi⟩, if_neg Bool.false_ne_true]
      exact searchBank_none h g fuel (i + 1)
    next => rfl

/-- The frame that no entry matched, counted on its port (R65). -/
def unmatched (w : Work) (s : State) : State :=
  s.countCls (fun c => match w.port with
    | .u => { c with noMatchU := c.noMatchU + 1 }
    | .s => { c with noMatchS := c.noMatchS + 1 })

theorem outcome_unmatched (w : Work) (s : State) :
    outcome w (unsearched w) s = place w.port.other .bulk ⟨w.bytes, false⟩ (unmatched w s) := rfl

theorem startsAtOnce_iff (s : State) (p : Port) : startsAtOnce s p = true ↔
    (s.port p).tx = none ∧ (s.port p).urgent = [] ∧ (s.port p).notice = [] ∧ (s.port p).bulk = []
      ∧ s.resp.restartDue = false := by
  simp [startsAtOnce, PortPath.quiet, and_assoc]

/-- Settles O16: the search finds nothing, and the frame is placed by R53 and R54. -/
theorem unmatchedFrameForwarded : Obligations.UnmatchedFrameForwarded := by
  intro s u w q hlive hwork hplant hnone hu
  have hport : w.port.other = q := by rcases hu with ⟨h, h', -⟩ | ⟨h, h', -⟩ <;> rw [h, h'] <;> rfl
  have hu' : unmatched w { s with cls.work := none } = u := by
    rcases hu with ⟨h, -, rfl⟩ | ⟨h, -, rfl⟩
    · simp only [unmatched, h]
      rfl
    · simp only [unmatched, h]
      rfl
  have hq : u.port q = s.port q ∧ u.resp = s.resp ∧ u.now = s.now := by
    rcases hu with ⟨-, rfl, rfl⟩ | ⟨-, rfl, rfl⟩ <;> exact ⟨rfl, rfl, rfl⟩
  obtain ⟨hportq, hresp, hnow⟩ := hq
  have hdone : classificationDone s = place q .bulk ⟨w.bytes, false⟩ u := by
    rw [classificationDone_plant hlive hwork (isManagement_false hplant),
      searchBank_none (s := { s with cls.work := none }) hnone, outcome_unmatched, hu', hport]
  have hroom : hasRoom u q .bulk = decide ((s.port q).bulk.length < 64) := by rw [hasRoom, hportq]; rfl
  rw [exec_classificationDone, hdone]
  refine ⟨fun htx hur hno hbu hdue => exec_next_inj ?_, fun hbusy hlen => exec_next_inj ?_, fun hlen => exec_next_inj ?_⟩
  · have hstart : startsAtOnce u q = true := by
      rw [startsAtOnce_iff, hportq, hresp]
      exact ⟨htx, hur, hno, hbu, hdue⟩
    rw [place, if_pos hstart, hportq, hnow]
  · have hstart : ¬startsAtOnce u q = true := by
      rw [startsAtOnce_iff, hportq, hresp]
      rintro ⟨h1, h2, h3, h4, h5⟩
      rcases hbusy with h | h | h | h | h
      · rw [h1] at h
        cases h
      · exact h h2
      · exact h h3
      · exact h h4
      · exact absurd (h5.symm.trans h) (by decide)
    rw [place, if_neg hstart, hroom, if_pos (decide_eq_true hlen), hportq]
    rfl
  · have hstart : ¬startsAtOnce u q = true := by
      rw [startsAtOnce_iff, hportq]
      rintro ⟨-, -, -, h4, -⟩
      rw [h4] at hlen
      exact absurd hlen (by decide)
    rw [place, if_neg hstart, hroom, if_neg (by simpa using hlen)]
    rfl

/-! ### What the search changes of the classifier -/

/-- The settings and the match banks stand, hit counts and the fault record aside. -/
structure KeepsBanks (s t : State) : Prop where
  active : t.cls.active = s.cls.active
  standby : t.cls.standby = s.cls.standby
  cfg : t.cfg = s.cfg

theorem KeepsBanks.refl (s : State) : KeepsBanks s s := ⟨rfl, rfl, rfl⟩

theorem KeepsBanks.trans {s t u : State} (h : KeepsBanks s t) (k : KeepsBanks t u) : KeepsBanks s u :=
  ⟨k.active.trans h.active, k.standby.trans h.standby, k.cfg.trans h.cfg⟩

theorem only_unitAction (p : UnitParams) (w : Work) (m : Nat) (q : Option Nat) (s : State) :
    Only (.nCls :: tallyParts) s (unitAction p w m q s) := by
  unfold unitAction
  split
  · exact (only_unitReport _ _ _ _ s).mono (by decide)
  · exact (only_countCls s _).mono (by decide)
  · exact Only.refl _ s

theorem only_handoverAction (w : Work) (v c o : Nat) (s : State) :
    Only (.nCls :: completeParts) s (handoverAction w v c o s) := by
  unfold handoverAction
  split
  · exact Only.ite _ ((only_handoverReport _ _ s).mono (by decide)) ((only_countCls s _).mono (by decide))
  · exact (only_countCls s _).mono (by decide)

/-- Whatever an entry's action does, the classifier's own items and the settings stand. -/
theorem takeAction_keeps {a : Action} {w : Work} {s t : State} {wr : Option StampWrite}
    (h : takeAction a w s = some (t, wr)) : t.cls = s.cls ∧ t.cfg = s.cfg := by
  unfold takeAction at h
  dsimp only at h
  split at h
  · cases h
    exact ⟨rfl, rfl⟩
  · cases h
    exact ⟨rfl, rfl⟩
  · cases h
    exact ⟨rfl, rfl⟩
  · obtain ⟨r, -, hr⟩ := Option.map_eq_some_iff.mp h
    cases hr
    exact ⟨(only_tripReport _ s).cls (by decide), (only_tripReport _ s).cfg (by decide)⟩
  · obtain ⟨r, -, hr⟩ := Option.map_eq_some_iff.mp h
    cases hr
    exact ⟨(only_unitAction _ _ _ _ s).cls (by decide), (only_unitAction _ _ _ _ s).cfg (by decide)⟩
  · obtain ⟨r, -, hr⟩ := Option.map_eq_some_iff.mp h
    cases hr
    exact ⟨rfl, rfl⟩
  · split at h
    · cases h
      exact ⟨(only_handoverAction _ _ _ _ s).cls (by decide), (only_handoverAction _ _ _ _ s).cfg (by decide)⟩
    · cases h

theorem stampWrite_keeps (wr : StampWrite) (w : Work) (g : Gathered) (s : State) :
    (stampWrite wr w g s).2.cls = s.cls ∧ (stampWrite wr w g s).2.cfg = s.cfg
      ∧ (stampWrite wr w g s).1.acted = g.acted := by
  unfold stampWrite
  split
  · exact ⟨rfl, rfl, rfl⟩
  · exact ⟨(only_countPort s _ _).cls (by cases w.port <;> decide), (only_countPort s _ _).cfg (by cases w.port <;> decide),
      rfl⟩

/-- An entry that acts counts its own hit, and no other. -/
theorem actEntry_keeps (i : Fin 128) (w : Work) (g : Gathered) (s : State) :
    KeepsBanks s (actEntry i w g s).2 ∧ (actEntry i w g s).2.cls.hits = s.cls.hits.set i (s.cls.hits[i] + 1)
      ∧ (actEntry i w g s).1.acted = g.acted + 1 := by
  unfold actEntry
  extract_lets e g1 c s1
  have h1 : KeepsBanks s s1 ∧ s1.cls.hits = s.cls.hits.set i (s.cls.hits[i] + 1) := ⟨⟨rfl, rfl, rfl⟩, rfl⟩
  have hg : g1.acted = g.acted + 1 := rfl
  clear_value s1 g1
  split
  · exact ⟨h1.1.trans ⟨rfl, rfl, rfl⟩, h1.2, hg⟩
  next t ht =>
    obtain ⟨hcls, hcfg⟩ := takeAction_keeps ht
    exact ⟨h1.1.trans ⟨by rw [hcls], by rw [hcls], hcfg⟩, by rw [hcls]; exact h1.2, hg⟩
  next t wr ht =>
    obtain ⟨hcls, hcfg⟩ := takeAction_keeps ht
    obtain ⟨hcls', hcfg', hacted⟩ := stampWrite_keeps wr w g1 t
    have e : (stampWrite wr w g1 t).2.cls = s1.cls := hcls'.trans hcls
    exact ⟨h1.1.trans ⟨by rw [e], by rw [e], hcfg'.trans hcfg⟩, by rw [e]; exact h1.2, hacted.trans hg⟩

/-- What a search from index `i` does: the entries of `l` act, each at or above `i`, matching and counted once. -/
structure Searched (w : Work) (i : Nat) (l : List (Fin 128)) (s t : State) : Prop where
  banks : KeepsBanks s t
  above : ∀ j ∈ l, i ≤ j.val
  hit : ∀ j ∈ l, s.cls.active[j].hits w = true ∧ t.cls.hits[j] = s.cls.hits[j] + 1
  other : ∀ j, j ∉ l → t.cls.hits[j] = s.cls.hits[j]

theorem Searched.refl (w : Work) (i : Nat) (s : State) : Searched w i [] s s :=
  ⟨KeepsBanks.refl s, fun _ h => absurd h List.not_mem_nil, fun _ h => absurd h List.not_mem_nil, fun _ _ => rfl⟩

theorem Searched.lower {w : Work} {i k : Nat} {l : List (Fin 128)} {s t : State} (h : Searched w i l s t) (hk : k ≤ i) :
    Searched w k l s t := ⟨h.banks, fun j hj => hk.trans (h.above j hj), h.hit, h.other⟩

/-- An entry acts, and the search goes on above it. -/
theorem Searched.cons {w : Work} {i : Fin 128} {k : Nat} {l : List (Fin 128)} {g : Gathered} {s t : State}
    (hi : s.cls.active[i].hits w = true) (hk : i.val < k) (h : Searched w k l (actEntry i w g s).2 t) :
    Searched w i.val (i :: l) s t := by
  obtain ⟨hbanks, hhits, -⟩ := actEntry_keeps i w g s
  have hil : i ∉ l := fun hm => absurd (h.above i hm) (not_le.mpr hk)
  refine ⟨hbanks.trans h.banks, fun j hj => ?_, fun j hj => ?_, fun j hj => ?_⟩
  · rcases List.mem_cons.mp hj with rfl | hj
    · exact le_rfl
    · exact hk.le.trans (h.above j hj)
  · rcases List.mem_cons.mp hj with rfl | hj
    · refine ⟨hi, ?_⟩
      rw [h.other j hil, hhits, getElem_set_fin, if_pos rfl]
    · have hne : j ≠ i := fun e => hil (e ▸ hj)
      obtain ⟨hm, hc⟩ := h.hit j hj
      rw [hbanks.active] at hm
      rw [hhits, getElem_set_fin, if_neg hne] at hc
      exact ⟨hm, hc⟩
  · obtain ⟨hne, hjl⟩ := not_or.mp (fun e => hj (List.mem_cons.mpr e))
    rw [h.other j hjl, hhits, getElem_set_fin, if_neg hne]

/-- At most four entries act (R66): the fifth match ends the search before it acts. -/
theorem searchBank_searched (w : Work) : ∀ (fuel i : Nat) (g : Gathered) (s : State), g.acted ≤ 4 →
    (∀ j : Fin 128, s.cls.active[j].chain.all (fun c => j.val < c.toNat) = true) →
    ∃ l, l.length + g.acted ≤ 4 ∧ Searched w i l s (searchBank w fuel i g s).2
  | 0, i, g, s, hg, _ => ⟨[], by simpa using hg, Searched.refl w i s⟩
  | fuel + 1, i, g, s, hg, hchain => by
    rw [searchBank]
    split
    next hi =>
      dsimp only
      split
      next hhit =>
        split
        next => exact ⟨[], by simpa using hg, ⟨⟨rfl, rfl, rfl⟩, fun _ h => absurd h List.not_mem_nil,
            fun _ h => absurd h List.not_mem_nil, fun _ _ => rfl⟩⟩
        next hfour =>
          obtain ⟨hbanks, -, hacted⟩ := actEntry_keeps ⟨i, hi⟩ w g s
          split
          next =>
            refine ⟨[⟨i, hi⟩], ?_, Searched.cons (i := ⟨i, hi⟩) (g := g) hhit (Nat.lt_succ_self i) (Searched.refl w (i + 1) _)⟩
            simp only [List.length_singleton]
            omega
          next c hc =>
            have hup : i < c.toNat := by
              have := hchain ⟨i, hi⟩
              rw [show s.cls.active[(⟨i, hi⟩ : Fin 128)].chain = some c from hc] at this
              simpa using this
            obtain ⟨l, hl, hsearched⟩ := searchBank_searched w fuel c.toNat (actEntry ⟨i, hi⟩ w g s).1
              (actEntry ⟨i, hi⟩ w g s).2 (by rw [hacted]; omega) (by rw [hbanks.active]; exact hchain)
            refine ⟨⟨i, hi⟩ :: l, ?_, Searched.cons (i := ⟨i, hi⟩) (g := g) hhit hup hsearched⟩
            rw [hacted] at hl
            simp only [List.length_cons]
            omega
      next =>
        obtain ⟨l, hl, hsearched⟩ := searchBank_searched w fuel (i + 1) g s hg hchain
        exact ⟨l, hl, hsearched.lower (Nat.le_succ i)⟩
    next => exact ⟨[], by simpa using hg, Searched.refl w i s⟩

/-- The outcome forwards or counts; the classifier's banks stand. -/
theorem outcome_keeps (w : Work) (g : Gathered) (s : State) :
    (outcome w g s).cls = s.cls ∧ (outcome w g s).cfg = s.cfg := by
  unfold outcome
  extract_lets s1
  have h1 : s1.cls = s.cls ∧ s1.cfg = s.cfg := by
    unfold s1
    split <;> exact ⟨rfl, rfl⟩
  clear_value s1
  split
  · have h := only_countPort s1 w.port (fun c => { c with consumed := c.consumed + 1 })
    exact ⟨(h.cls (by cases w.port <;> decide)).trans h1.1, (h.cfg (by cases w.port <;> decide)).trans h1.2⟩
  · exact ⟨((only_place _ _ _ _).cls (by decide)).trans h1.1, ((only_place _ _ _ _).cfg (by decide)).trans h1.2⟩

/-- Settles O17: the entries that acted, in a list of at most four. -/
theorem atMostFourEntriesAct : Obligations.AtMostFourEntriesAct := by
  intro s t w hwork hplant hchain e
  have ht : classificationDone s = t := Host.Outcome.next.inj e
  by_cases hlive : live s = true
  · obtain ⟨l, hl, hs⟩ := searchBank_searched w 128 0 (unsearched w) { s with cls.work := none } (Nat.zero_le 4) hchain
    rw [classificationDone_plant hlive hwork hplant] at ht
    generalize searchBank w 128 0 (unsearched w) { s with cls.work := none } = r at hs ht
    obtain ⟨hcls, hcfg⟩ := outcome_keeps w r.1 r.2
    rw [ht] at hcls hcfg
    obtain ⟨⟨hactive, hstandby, hcfg'⟩, -, hhit, hother⟩ := hs
    refine ⟨by rw [hcls, hactive], by rw [hcls, hstandby], hcfg.trans hcfg', fun i => ?_, ?_⟩
    · rw [hcls]
      by_cases hi : i ∈ l
      · exact .inr (hhit i hi)
      · exact .inl (hother i hi)
    · rw [hcls, List.countP_eq_length_filter]
      have hsub : ((List.finRange 128).filter (fun i => r.2.cls.hits[i] != s.cls.hits[i])) ⊆ l := by
        intro i hi
        by_contra hil
        have hne := (List.mem_filter.mp hi).2
        rw [hother i hil] at hne
        simp at hne
      have hlen := ((List.nodup_finRange 128).filter _ |>.subperm hsub).length_le
      have h4 : l.length ≤ 4 := hl
      exact hlen.trans h4
  · have hsame : classificationDone s = s := by
      simp only [classificationDone, hwork, hlive, Bool.false_eq_true, if_false]
    rw [hsame] at ht
    subst ht
    exact ⟨rfl, rfl, rfl, fun _ => .inl rfl, by simp⟩

end Sys2Proof.Proofs
end

section
/-! SUPPORT and OBLIGATIONS. The tally unit: crediting, deadlines and presets (R128, R132, R134, R138, R192). -/

namespace Sys2Proof.Proofs

open Sys2Proof Sys2Proof.Machine Sys2Proof.Safety

/-! ### Crediting -/

theorem credit_accruing (u : UnitRec) (m : Elapsed) : (u.credit m).accruing = u.accruing := by
  simp [UnitRec.accruing]

/-- Settles O30: the credited run time is the value, and the new interval is empty. -/
theorem creditingKeepsValues : Obligations.CreditingKeepsValues := by
  intro u m k hk
  refine ⟨?_, credit_start u m, credit_mode u m, credit_test u m, credit_starts u m, credit_stops u m⟩
  have hle : u.value m k ≤ Config.runLimit := (value_bounds u m k hk).2
  have hzero : (u.credit m).interval m = 0 := by simp [UnitRec.interval]
  rw [UnitRec.value, credit_run, hzero, Nat.add_zero, min_eq_left hle, ite_self]

/-! ### Checkpoint requests (R192) -/

theorem requestCheckpoint_of_clear {u : Fin 6} {why : Reason} {s : State} (h : s.store.flags[u] = none) :
    requestCheckpoint u why s
      = { s with store.flags := s.store.flags.set u (some why), store.order := s.store.order ++ [u] } := by
  unfold requestCheckpoint
  rw [h]

theorem requestCheckpoint_of_set {u : Fin 6} {why old : Reason} {s : State} (h : s.store.flags[u] = some old) :
    requestCheckpoint u why s = s.countStore (fun c => { c with coalesced := c.coalesced + 1 }) := by
  unfold requestCheckpoint
  rw [h]

/-- A request sets a clear flag and leaves a set one. -/
theorem requestCheckpoint_flags (u v : Fin 6) (why : Reason) (s : State) :
    (requestCheckpoint u why s).store.flags[v]
      = if v = u then some (s.store.flags[u].getD why) else s.store.flags[v] := by
  cases h : s.store.flags[u] with
  | none =>
    rw [requestCheckpoint_of_clear h]
    dsimp only
    rw [getElem_set_fin]
    rfl
  | some old =>
    rw [requestCheckpoint_of_set h]
    split
    next e => exact e ▸ h
    next => rfl

/-! ### Deadlines (R132, R134) -/

theorem tripHoldDue_of {s : State} {u : Fin 6} {d : Elapsed} (hrun : s.supply.state = .run)
    (hhold : s.tally[u].hold = some d) (hd : reachedM d s.clock.m = true) : tripHoldDue u s = true := by
  simp only [tripHoldDue, runs, hrun, hhold, hd, beq_self_eq_true, Bool.and_self]

theorem hourlyDue_of {s : State} {u : Fin 6} (hrun : s.supply.state = .run)
    (hmode : s.tally[u].mode.running.isSome = true) (hhour : 3600000 ≤ (s.clock.m - s.tally[u].lastCkpt).toNat)
    (hask : s.tally[u].hourlyAsked = false) : hourlyDue u s = true := by
  simp only [hourlyDue, runs, hrun, hmode, UnitRec.hourPassed, hhour, hask, decide_true, beq_self_eq_true,
    Bool.and_self, Bool.not_false]

theorem exec_hourlyRequest {s : State} {u : Fin 6} (h : hourlyDue u s = true) :
    exec (.hourlyRequest u) s = .next (askHourly u s) := congrArg Host.Outcome.next (if_pos h)

/-- A unit that has asked for its hourly checkpoint, counted (R134). -/
def hourAsked (u : Fin 6) (s : State) : State :=
  (s.withUnit u { s.tally[u] with hourlyAsked := true }).countTally (fun c => { c with hourly := c.hourly + 1 })

theorem askHourly_eq (u : Fin 6) (s : State) : askHourly u s = requestCheckpoint u .hourly (hourAsked u s) := rfl

/-- Settles O31: the deadlines of R132 and R134 and what each leaves. -/
theorem tallyDeadlines : Obligations.TallyDeadlines := by
  intro s u d why hrun
  refine ⟨fun hhold hd => ?_, fun hmode hhour hask hflag => ?_, fun hmode hhour hask hflag => ?_, fun hask => ?_⟩
  · exact congrArg Host.Outcome.next (if_pos (tripHoldDue_of hrun hhold hd))
  · rw [exec_hourlyRequest (hourlyDue_of hrun hmode hhour hask), askHourly_eq,
      requestCheckpoint_of_clear (s := hourAsked u s) hflag]
    rfl
  · rw [exec_hourlyRequest (hourlyDue_of hrun hmode hhour hask), askHourly_eq,
      requestCheckpoint_of_set (s := hourAsked u s) hflag]
    rfl
  · have hno : hourlyDue u s = false := by simp only [hourlyDue, hask, Bool.not_true, Bool.and_false]
    exact congrArg Host.Outcome.next (if_neg (by rw [hno]; exact Bool.false_ne_true))

/-! ### Hour meters realigned (R179) -/

/-- One line's share of a unit's realignment. -/
def realignOf (u : Fin 6) (i : Fin 8) (s : State) : State :=
  if s.cfg.lines[i].function = .hourMeter ∧ s.cfg.lines[i].unit = u then realign i s else s

theorem realignOf_line (u : Fin 6) (i j : Fin 8) (s : State) : (realignOf u i s).lines[j]
    = if j = i ∧ s.cfg.lines[i].function = .hourMeter ∧ s.cfg.lines[i].unit = u then
        { s.lines[i] with
          mark := tallySecs s s.cfg.lines[i].selection / 36 * 36, basis := some s.cfg.lines[i].selection }
      else s.lines[j] := by
  unfold realignOf
  by_cases h : s.cfg.lines[i].function = .hourMeter ∧ s.cfg.lines[i].unit = u
  · rw [if_pos h, realign_line]
    simp only [h, and_self, and_true]
  · rw [if_neg h, if_neg (fun e => h e.2)]

theorem oneLine_realignOf (u : Fin 6) : OneLine (realignOf u) where
  only i s := Only.ite _ (only_realign i s) (Only.refl _ s)
  others i j s h := by rw [realignOf_line, if_neg (fun e => h e.1)]
  own i s l n h := by
    rw [realignOf_line, realignOf_line]
    dsimp only
    rw [h]
    rfl

theorem realignUnit_line (u : Fin 6) (i : Fin 8) (s : State) : (realignUnit u s).lines[i]
    = if s.cfg.lines[i].function = .hourMeter ∧ s.cfg.lines[i].unit = u then
        { s.lines[i] with
          mark := tallySecs s s.cfg.lines[i].selection / 36 * 36, basis := some s.cfg.lines[i].selection }
      else s.lines[i] := by
  have h := (oneLine_realignOf u).all i s
  rw [realignOf_line] at h
  simp only [true_and] at h
  exact h

theorem only_realignUnit (u : Fin 6) (s : State) : Only lineParts s (realignUnit u s) := (oneLine_realignOf u).only_all s

theorem tallySecs_congr {s t : State} (htally : t.tally = s.tally) (hclock : t.clock = s.clock) (sel : Selection) :
    tallySecs t sel = tallySecs s sel := by
  unfold tallySecs
  rw [htally, hclock]

/-! ### A preset of one run time (R138) -/

theorem only_presetRun (i k : Fin 6) (new : Nat) (s : State) : Only [.tally, .shift] s (presetRun i k new s) := by
  constructor <;> intro h <;> first | rfl | exact absurd (by decide) h

/-- A unit with one run time preset. -/
def presetUnit (u : UnitRec) (k : Fin 6) (new : Nat) : UnitRec :=
  { u with run := u.run.set k new, saturated := u.saturated.set k (new == Config.runLimit) }

theorem presetRun_tally (i k v : Fin 6) (new : Nat) (s : State) : (presetRun i k new s).tally[v]
    = if v = i then presetUnit s.tally[i] k new else s.tally[v] := getElem_set_fin s.tally i v _

theorem presetRun_snaps (i k v j : Fin 6) (new : Nat) (s : State) :
    (presetRun i k new s).shift.openRec.snaps[v][j] = if v = i ∧ j = k then
        (new : Int) - ((s.tally[i].run[k] : Int) - s.shift.openRec.snaps[i][k])
      else s.shift.openRec.snaps[v][j] := by
  have h : (presetRun i k new s).shift.openRec.snaps
      = s.shift.openRec.snaps.set i (s.shift.openRec.snaps[i].set k
          ((new : Int) - ((s.tally[i].run[k] : Int) - s.shift.openRec.snaps[i][k]))) := rfl
  rw [h, getElem_set_fin]
  by_cases hv : v = i
  · subst hv
    rw [if_pos rfl, getElem_set_fin]
    simp only [true_and]
  · rw [if_neg hv, if_neg (fun e => hv e.1)]

theorem presetTally_single (i k : Fin 6) (new : Nat) (s : State) : Machine.presetTally i [.run k new] s
    = requestCheckpoint i .preset (realignUnit i (presetRun i k new (creditUnit i s))) := rfl

/-- What one run time preset leaves, in the order of R138. -/
theorem presetTally_run (i k : Fin 6) (new : Nat) (s t : State) (ht : t = Machine.presetTally i [.run k new] s) :
    t.tally[i] = presetUnit (s.tally[i].credit s.clock.m) k new
      ∧ (∀ v : Fin 6, v ≠ i → t.tally[v] = s.tally[v])
      ∧ (∀ v j : Fin 6, t.shift.openRec.snaps[v][j] = if v = i ∧ j = k then
            (new : Int) - ((s.tally[i].value s.clock.m k : Int) - s.shift.openRec.snaps[i][k])
          else s.shift.openRec.snaps[v][j])
      ∧ t.store.flags[i] = some (s.store.flags[i].getD .preset)
      ∧ (∀ n : Fin 8, t.lines[n] = if s.cfg.lines[n].function = .hourMeter ∧ s.cfg.lines[n].unit = i then
            { s.lines[n] with
              mark := tallySecs t s.cfg.lines[n].selection / 36 * 36, basis := some s.cfg.lines[n].selection }
          else s.lines[n])
      ∧ Only [.tally, .nTally, .shift, .lines, .nLines, .store, .nStore] s t := by
  rw [presetTally_single] at ht
  have hcr := only_creditUnit i s
  have hct := creditUnit_tally i s
  generalize creditUnit i s = c at hcr hct ht
  have hpr := only_presetRun i k new c
  have hpt (v : Fin 6) := presetRun_tally i k v new c
  have hps (v j : Fin 6) := presetRun_snaps i k v j new c
  generalize presetRun i k new c = p at hpr hpt hps ht
  have hre := only_realignUnit i p
  have hline (n : Fin 8) := realignUnit_line i n p
  generalize realignUnit i p = r at hre hline ht
  have hrq := only_requestCheckpoint i .preset r
  have hflag := requestCheckpoint_flags i i .preset r
  rw [← ht] at hrq hflag
  have htally : t.tally = p.tally := (hrq.tally (by decide)).trans (hre.tally (by decide))
  have hclock : t.clock = p.clock := (hrq.clock (by decide)).trans (hre.clock (by decide))
  have hcfg : p.cfg = s.cfg := (hpr.cfg (by decide)).trans (hcr.cfg (by decide))
  have hcti : c.tally[i] = s.tally[i].credit s.clock.m := by rw [hct, getElem_set_fin, if_pos rfl]
  refine ⟨?_, fun v hv => ?_, fun v j => ?_, ?_, fun n => ?_, ?_⟩
  · rw [htally, hpt, if_pos rfl, hcti]
  · rw [htally, hpt, if_neg hv, hct, getElem_set_fin, if_neg hv]
  · have hrun : c.tally[i].run[k] = s.tally[i].value s.clock.m k := by rw [hcti, credit_run]
    rw [hrq.shift (by decide), hre.shift (by decide), hps, hrun, hcr.shift (by decide)]
  · rw [hflag, if_pos rfl, hre.store (by decide), hpr.store (by decide), hcr.store (by decide)]
  · rw [hrq.lines (by decide), hline, hcfg, hpr.lines (by decide), hcr.lines (by decide), tallySecs_congr htally hclock]
  · exact ((hcr.mono (by decide)).trans (hpr.mono (by decide))).trans
      ((hre.mono (by decide)).trans (hrq.mono (by decide)))

/-! ### The request (R137) -/

theorem unitOfNo_succ (i : Fin 6) : unitOfNo (i.val + 1) = some i := by
  revert i
  decide

/-- The one item of a run time preset, judged. -/
theorem judge_run (k : Fin 6) (sec ms : Nat) : RawItem.judge ⟨0, k.val, sec, ms⟩
    = some (.run k (min sec 3599999999 * 1000 + min ms 999), decide (3599999999 < sec ∨ 999 < ms)) := by
  simp [RawItem.judge, held, clampNat, Nat.min_comm]

theorem opPresetTally_run (h : ReqHead) (i k : Fin 6) (sec ms : Nat) (pad : List Byte) (s : State)
    (hsec : sec < 2 ^ 32) (hms : ms < 2 ^ 16) :
    opPresetTally ⟨h, 0x16, be 1 (i.val + 1) ++ [1, 0] ++ be 1 k.val ++ be 4 sec ++ be 2 ms ++ pad⟩ s
      = (Machine.presetTally i [.run k (min sec 3599999999 * 1000 + min ms 999)] s,
          some ⟨okOr (decide (3599999999 < sec ∨ 999 < ms)), []⟩) := by
  have hi := i.isLt
  have hk := k.isLt
  have r1 : rd 1 (be 1 (i.val + 1) ++ [1, 0] ++ be 1 k.val ++ be 4 sec ++ be 2 ms ++ pad)
      = some (i.val + 1, 1 :: 0 :: (be 1 k.val ++ (be 4 sec ++ (be 2 ms ++ pad)))) := by
    simp only [List.append_assoc]
    exact rd_be (by norm_num; omega) _
  have r2 := rd_one 1 (0 :: (be 1 k.val ++ (be 4 sec ++ (be 2 ms ++ pad))))
  have r3 := rd_one 0 (be 1 k.val ++ (be 4 sec ++ (be 2 ms ++ pad)))
  have r4 : rd 1 (be 1 k.val ++ (be 4 sec ++ (be 2 ms ++ pad))) = some (k.val, be 4 sec ++ (be 2 ms ++ pad)) :=
    rd_be (by norm_num; omega) _
  have r5 : rd 4 (be 4 sec ++ (be 2 ms ++ pad)) = some (sec, be 2 ms ++ pad) := rd_be (by norm_num; omega) _
  have r6 : rd 2 (be 2 ms ++ pad) = some (ms, pad) := rd_be (by norm_num; omega) _
  have ritems : rdItems 1 (0 :: (be 1 k.val ++ (be 4 sec ++ (be 2 ms ++ pad))))
      = .ok [⟨0, k.val, sec, ms⟩] := by
    simp only [rdItems, r3, r4, r5, r6]
    rfl
  have hcnt : ¬((1 : Byte).toNat = 0 ∨ 16 < (1 : Byte).toNat) := by decide
  simp only [opPresetTally, r1, r2, if_neg hcnt]
  rw [show (1 : Byte).toNat = 1 from rfl, ritems]
  simp only [unitOfNo_succ, List.map_cons, List.map_nil, judge_run, allSome]
  simp [namedTwice]

/-- Settles O32: the steps of R138 for one run time, under the request's clamps. -/
theorem presetKeepsShiftRun : Obligations.PresetKeepsShiftRun := by
  intro s h i k sec ms pad ⟨ha, hcom⟩ hsec hms
  have hop := opPresetTally_run h i k sec ms pad (taken s) hsec hms
  obtain ⟨u, hu⟩ : ∃ u, u = Machine.presetTally i [.run k (min sec 3599999999 * 1000 + min ms 999)] (taken s) := ⟨_, rfl⟩
  rw [← hu] at hop
  obtain ⟨hi, hother, hsnaps, hflag, hline, honly⟩ := presetTally_run i k _ (taken s) u hu
  refine ⟨u, ?_, ?_, ?_, fun j hj => ?_, ?_, fun v j hvj => ?_, hother, ?_, ?_, ?_, ?_, ?_, ?_, ?_, ?_, hflag,
    fun n => ?_, honly⟩
  · refine congrArg Host.Outcome.next ((command_answered ha (fun _ => hcom) hop (okOr_refuses _)).trans ?_)
    rw [okOr_code]
    simp only [decide_eq_true_eq]
    rfl
  · rw [hi, presetUnit, getElem_set_fin, if_pos rfl]
  · rw [hi, presetUnit, getElem_set_fin, if_pos rfl, Config.runLimit, Bool.beq_eq_decide_eq, decide_eq_decide]
    omega
  · rw [hi, presetUnit, getElem_set_fin, if_neg hj, credit_run]
    rfl
  · rw [hsnaps, if_pos ⟨rfl, rfl⟩, hi, presetUnit, getElem_set_fin, if_pos rfl]
    have e : (taken s).tally[i].value (taken s).clock.m k = s.tally[i].value s.clock.m k := rfl
    have e' : (taken s).shift.openRec.snaps[i][k] = s.shift.openRec.snaps[i][k] := rfl
    rw [e, e']
    omega
  · rw [hsnaps, if_neg hvj]
    rfl
  · rw [hi, presetUnit, credit_start]
    rfl
  · rw [hi, presetUnit, credit_mode]
    rfl
  · rw [hi, presetUnit, credit_test]
    rfl
  · rw [hi, presetUnit, credit_starts]
    rfl
  · rw [hi, presetUnit, credit_stops]
    rfl
  · rw [hi, presetUnit, credit_trips]
    rfl
  · rw [hi, presetUnit, credit_hold]
    rfl
  · rw [hi, presetUnit, credit_preOutage]
    rfl
  · have hl : u.lines[n] = if s.cfg.lines[n].function = .hourMeter ∧ s.cfg.lines[n].unit = i then
            { s.lines[n] with
              mark := tallySecs u s.cfg.lines[n].selection / 36 * 36, basis := some s.cfg.lines[n].selection }
          else s.lines[n] := hline n
    refine ⟨?_, fun hf hunit => ?_⟩
    · rw [hl]
      split <;> rfl
    · rw [hl, if_pos ⟨hf, hunit⟩]
      dsimp only
      exact ⟨by omega, by omega, rfl⟩

end Sys2Proof.Proofs
end

section
/-! SUPPORT and OBLIGATIONS. The shift unit: completions, handover reports and deadlines (R146 to R161). -/

namespace Sys2Proof.Proofs

open Sys2Proof Sys2Proof.Machine Sys2Proof.Safety

/-! ### The announced groups (R118) -/

theorem oneBit_getLsbD (i j : Nat) (hj : j < 16) : (1#16 <<< i).getLsbD j = (i == j) := by
  by_cases h : i = j
  · subst h
    simp [hj]
  · rw [BitVec.getLsbD_shiftLeft, Bool.eq_iff_iff]
    simp only [BitVec.getLsbD_one, Bool.and_eq_true, Bool.not_eq_true', decide_eq_false_iff_not, decide_eq_true_eq,
      beq_iff_eq]
    omega

theorem foldl_announced_bits (l : List (Group × Nat)) (acc : BitVec 16) (j : Nat) (hj : j < 16) :
    (l.foldl (fun acc p => if p.1.state == .announced then acc ||| (1#16 <<< p.2) else acc) acc).getLsbD j
      = (acc.getLsbD j || l.any (fun p => p.1.state == .announced && p.2 == j)) := by
  induction l generalizing acc with
  | nil => simp
  | cons p l ih =>
    rw [List.foldl_cons, ih, List.any_cons]
    split
    next h => rw [BitVec.getLsbD_or, oneBit_getLsbD _ _ hj, h, Bool.true_and, Bool.or_assoc]
    next h => simp [h]

theorem announcedSet_getLsbD (s : State) (g : Fin 16) :
    (announcedSet s).getLsbD g.val = decide (s.ann[g].state = .announced) := by
  rw [announcedSet, foldl_announced_bits _ _ _ g.isLt, BitVec.getLsbD_zero, Bool.false_or, Bool.eq_iff_iff,
    decide_eq_true_eq, List.any_eq_true]
  constructor
  · rintro ⟨⟨x, i⟩, hmem, hx⟩
    obtain ⟨hst, hi⟩ := Bool.and_eq_true_iff.mp hx
    obtain rfl : i = g.val := eq_of_beq hi
    have hget := List.mem_zipIdx_iff_getElem?.mp hmem
    have e : x = s.ann[g] := by simpa using hget.symm
    exact e ▸ eq_of_beq hst
  · intro hst
    refine ⟨(s.ann[g], g.val), List.mem_zipIdx_iff_getElem?.mpr (by simp), ?_⟩
    simp only [hst, beq_self_eq_true, Bool.and_self]

/-! ### All six units -/

theorem creditUnit_unit (i v : Fin 6) (s : State) :
    (creditUnit i s).tally[v] = if v = i then s.tally[i].credit s.clock.m else s.tally[v] := by
  rw [creditUnit_tally, getElem_set_fin]

theorem foldl_creditUnit (v : Fin 6) : ∀ (us : List (Fin 6)) (s : State), us.Nodup →
    (us.foldl (fun s i => creditUnit i s) s).tally[v]
      = if v ∈ us then s.tally[v].credit s.clock.m else s.tally[v]
  | [], s, _ => by simp
  | u :: us, s, hus => by
    obtain ⟨hu, hnodup⟩ := List.nodup_cons.mp hus
    rw [List.foldl_cons, foldl_creditUnit v us _ hnodup, (only_creditUnit u s).clock (by decide), creditUnit_unit]
    by_cases hv : v = u
    · subst hv
      rw [if_neg hu, if_pos rfl, if_pos List.mem_cons_self]
    · rw [if_neg hv]
      simp only [List.mem_cons, hv, false_or]

/-- Every unit is credited (R135). -/
theorem creditAll_unit (v : Fin 6) (s : State) : (creditAll s).tally[v] = s.tally[v].credit s.clock.m := by
  rw [creditAll, foldl_creditUnit v allUnits s (by decide), if_pos (by revert v; decide)]

theorem foldl_requestCheckpoint (why : Reason) (v : Fin 6) : ∀ (us : List (Fin 6)) (s : State), us.Nodup →
    (us.foldl (fun s u => requestCheckpoint u why s) s).store.flags[v]
      = if v ∈ us then some (s.store.flags[v].getD why) else s.store.flags[v]
  | [], s, _ => by simp
  | u :: us, s, hus => by
    obtain ⟨hu, hnodup⟩ := List.nodup_cons.mp hus
    rw [List.foldl_cons, foldl_requestCheckpoint why v us _ hnodup, requestCheckpoint_flags]
    by_cases hv : v = u
    · subst hv
      rw [if_neg hu, if_pos rfl, if_pos List.mem_cons_self]
    · rw [if_neg hv]
      simp only [List.mem_cons, hv, false_or]

/-- Every unit's checkpoint is pending, with the reason it already had or this one (R192). -/
theorem requestAllCheckpoints_flags (why : Reason) (v : Fin 6) (s : State) :
    (requestAllCheckpoints why s).store.flags[v] = some (s.store.flags[v].getD why) := by
  rw [requestAllCheckpoints, foldl_requestCheckpoint why v allUnits s (by decide), if_pos (by revert v; decide)]

/-- The run times at their values of this instant, as a completion takes them (R135). -/
def valuesNow (s : State) : Vector (Vector Int 6) 6 := runSnapshot (creditAll s)

theorem valuesNow_getElem (s : State) (v k : Fin 6) : (valuesNow s)[v][k] = (s.tally[v].value s.clock.m k : Int) := by
  have h : (valuesNow s)[v] = ((creditAll s).tally[v].run.map Int.ofNat) := by
    simp only [valuesNow, runSnapshot, Fin.getElem_fin, Vector.getElem_map]
  rw [h, creditAll_unit, Fin.getElem_fin, Vector.getElem_map, ← Fin.getElem_fin, credit_run]
  rfl

/-! ### A completion (R158 to R160) -/

/-- The closed record of a completion now. -/
def closedNow (closing : Stamp) (s : State) : ClosedShift :=
  closeShift s.shift closing s.clock.m (announcedSet s) (valuesNow s)

/-- The new open record of a completion now. -/
def openedNow (closing : Stamp) (crew : Nat) (incoming : Option (BitVec 16)) (s : State) : OpenShift :=
  openShift s.shift closing s.clock.m (announcedSet s) (valuesNow s) crew incoming

theorem announcedSet_congr {s t : State} (h : t.ann = s.ann) : announcedSet t = announcedSet s := by
  rw [announcedSet, h, announcedSet]

/-- What a completion leaves. -/
theorem complete_spec (ev : HandoverEvent) (closing : Stamp) (crew : Nat) (incoming : Option (BitVec 16))
    (rep : Option HeldAccept) (s t : State) (ht : t = complete ev closing crew incoming rep s) :
    t.shift = { s.shift.cleared with
        openRec := openedNow closing crew incoming s, list := pushClosed s.shift.list (closedNow closing s) }
      ∧ (∀ v : Fin 6, t.store.flags[v] = some (s.store.flags[v].getD .shiftClose))
      ∧ t.cnt.shift = { s.cnt.shift with completed := s.cnt.shift.completed + 1 }
      ∧ (live s = true → t.resp.noticeNo = s.resp.noticeNo + 1)
      ∧ Only completeParts s t := by
  have honly : Only completeParts s t := ht ▸ only_complete ev closing crew incoming rep s
  unfold complete at ht
  extract_lets a vals handed c o u b r n at ht
  have hcr : Only creditParts s a := only_creditAll s
  have hvals : vals = valuesNow s := rfl
  have hhanded : handed = announcedSet s := announcedSet_congr (hcr.ann (by decide))
  have hshift : a.shift = s.shift := hcr.shift (by decide)
  have hclock : a.clock = s.clock := hcr.clock (by decide)
  have hc : c = closedNow closing s := by
    show closeShift a.shift closing a.clock.m handed vals = _
    rw [hshift, hclock, hhanded, hvals, closedNow]
  have ho : o = openedNow closing crew incoming s := by
    show openShift a.shift closing a.clock.m handed vals crew incoming = _
    rw [hshift, hclock, hhanded, hvals, openedNow]
  have hb : Only (.shift :: creditParts) s b := (hcr.mono (by decide)).trans ((only_set_shift a _).mono (by decide))
  have hbs : b.shift = { s.shift.cleared with
      openRec := openedNow closing crew incoming s, list := pushClosed s.shift.list (closedNow closing s) } := by
    show ({ a.shift.cleared with openRec := o, list := pushClosed a.shift.list c } : ShiftUnit) = _
    rw [hshift, hc, ho]
  clear_value b
  have hrq := only_requestAllCheckpoints .shiftClose b
  have hflag (v : Fin 6) := requestAllCheckpoints_flags .shiftClose v b
  have hr : r = requestAllCheckpoints .shiftClose b := rfl
  rw [← hr] at hrq hflag
  clear_value r
  have hn : Only noticeParts r n := only_notice 0x84 _ r
  have hno (hlive : live s = true) : n.resp.noticeNo = r.resp.noticeNo + 1 := notice_noticeNo 0x84 _
    ((live_congr ((hrq.supply (by decide)).trans (hb.supply (by decide)))).trans hlive)
  clear_value n
  subst ht
  refine ⟨?_, fun v => ?_, ?_, fun hlive => ?_, honly⟩
  · rw [countShift_shift, hn.shift (by decide), hrq.shift (by decide), hbs]
  · rw [countShift_store, hn.store (by decide), hflag, hb.store (by decide)]
  · rw [countShift_cnt, hn.nShift (by decide), hrq.nShift (by decide), hb.nShift (by decide)]
  · rw [countShift_resp, hno hlive, hrq.resp (by decide), hb.resp (by decide)]

theorem pushClosed_getLast (l : List ClosedShift) (c : ClosedShift) : (pushClosed l c).getLast? = some c := by
  unfold pushClosed
  split <;> simp

theorem pushClosed_length (l : List ClosedShift) (c : ClosedShift) :
    (pushClosed l c).length = if l.length < 16 then l.length + 1 else max l.length 1 := by
  unfold pushClosed Config.shiftCap
  split
  · simp
  · rw [List.length_append, List.length_tail, List.length_singleton]
    omega

/-- Each run time of the closed record in whole seconds since its snapshot (R159). -/
theorem closedNow_runSecs (closing : Stamp) (s : State) (v k : Fin 6)
    (h : s.shift.openRec.snaps[v][k] ≤ s.tally[v].value s.clock.m k) : (closedNow closing s).runSecs[v][k]
      = (s.tally[v].value s.clock.m k - s.shift.openRec.snaps[v][k]).toNat / 1000 := by
  have e : (closedNow closing s).runSecs[v][k]
      = (((valuesNow s)[v][k] - s.shift.openRec.snaps[v][k]).tdiv 1000).toNat := by
    simp only [closedNow, closeShift, Fin.getElem_fin, Vector.getElem_ofFn]
  rw [e, valuesNow_getElem, Int.tdiv_eq_ediv_of_nonneg (by omega)]
  omega

theorem not_settling_iff (s : State) : anySettling s = false ↔ ∀ g : Fin 16, s.ann[g].state ≠ .settling := by
  rw [← Bool.not_eq_true, anySettling_iff, not_exists]

theorem held_crew (crew : Byte) : held 1 15 crew.toNat
    = (max 1 (min 15 crew.toNat), decide (¬(1 ≤ crew.toNat ∧ crew.toNat ≤ 15))) := by
  refine congrArg (Prod.mk _) ?_
  rw [Bool.eq_iff_iff, Bool.or_eq_true]
  simp only [decide_eq_true_eq]
  omega

/-- Settles O35: a completion by request, or its refusal while a group settles. -/
theorem forceHandover : Obligations.ForceHandover := by
  intro s h crew pad ⟨ha, hcom⟩
  have hrd := rd_one crew pad
  refine ⟨fun hno => ?_, fun hsome => ?_⟩
  · have hsettle : anySettling (taken s) = false := (not_settling_iff s).mpr hno
    obtain ⟨t, ht⟩ : ∃ t, t = complete .forced h.stamp (max 1 (min 15 crew.toNat)) none none (taken s) := ⟨_, rfl⟩
    obtain ⟨hshift, hflags, hcnt, -, honly⟩ := complete_spec _ _ _ _ _ _ t ht
    have hop : opForceHandover ⟨h, 0x17, crew :: pad⟩ (taken s)
        = (t.countShift (fun c => { c with forced := c.forced + 1 }),
            some ⟨okOr (decide (¬(1 ≤ crew.toNat ∧ crew.toNat ≤ 15))), []⟩) := by
      simp only [opForceHandover, hrd, hsettle, Bool.false_eq_true, if_false, held_crew, ht]
    refine ⟨t.countShift (fun c => { c with forced := c.forced + 1 }),
      congrArg Host.Outcome.next ((command_answered ha (fun _ => hcom) hop (okOr_refuses _)).trans ?_), ?_⟩
    · rw [okOr_code]
      simp only [decide_eq_true_eq, ite_not]
      rfl
    · simp only [countShift_shift, countShift_store, countShift_cnt, hshift]
      refine ⟨rfl, rfl, rfl, rfl, rfl, rfl, rfl, rfl, rfl, ⟨_, pushClosed_getLast _ _, fun v k hvk => ?_⟩, rfl, rfl, rfl, rfl, rfl,
        rfl, rfl, announcedSet_getLsbD (taken s), rfl, rfl, rfl, valuesNow_getElem (taken s), ?_, pushClosed_length _ _, hflags, ?_, ?_⟩
      · exact closedNow_runSecs h.stamp (taken s) v k hvk
      · rw [pushClosed_getLast]
        simp only [Option.any_some, closedNow, closeShift, openedNow, openShift, beq_self_eq_true, Bool.and_true,
          Bool.and_eq_true, beq_iff_eq]
        exact ⟨⟨⟨rfl, rfl⟩, rfl⟩, rfl⟩
      · rw [hcnt]
        rfl
      · exact honly.trans ((only_countShift t _).mono (by decide))
  · have hsettle : anySettling (taken s) = true := (anySettling_iff s).mpr hsome
    refine congrArg Host.Outcome.next (command_refused (st := .settling) ha (fun _ => hcom) ?_ rfl)
    simp only [opForceHandover, hrd, hsettle, if_true]

end Sys2Proof.Proofs
end

section
/-! SUPPORT and OBLIGATIONS. The shift unit: its deadlines and what it makes of each report (R151 to R157). -/

namespace Sys2Proof.Proofs

open Sys2Proof Sys2Proof.Machine Sys2Proof.Safety

theorem handoverNotice_noticeNo (ev : HandoverEvent) (rep : Option HeldAccept) {s : State} (hlive : live s = true) :
    (handoverNotice ev rep s).resp.noticeNo = s.resp.noticeNo + 1 := notice_noticeNo 0x84 _ hlive

/-- What a HANDOVER notice after a new shift state `u` and counters `c` leaves of a state `s`. -/
theorem reported_spec (ev : HandoverEvent) (rep : Option HeldAccept) (u : ShiftUnit) (c : ShiftCnt) (s t : State)
    (ht : t = handoverNotice ev rep { s with shift := u, cnt.shift := c }) :
    t.shift = u ∧ t.cnt.shift = c ∧ (live s = true → t.resp.noticeNo = s.resp.noticeNo + 1)
      ∧ Only [.shift, .nShift, .portS, .resp, .nPortS, .nResp] s t := by
  have hn := only_handoverNotice ev rep { s with shift := u, cnt.shift := c }
  have hno (hlive : live s = true) := handoverNotice_noticeNo ev rep (s := { s with shift := u, cnt.shift := c }) hlive
  rw [← ht] at hn hno
  exact ⟨hn.shift (by decide), hn.nShift (by decide), hno,
    ((only_set_shift s u).seq (only_countShift _ (fun _ => c)) (by decide) (by decide)).trans (hn.mono (by decide))⟩

theorem offerEnds_eq (u : ShiftUnit) : u.offerEnds = offerEnded u := rfl

/-- Settles O34: each deadline is due, its event counted and named in a notice. -/
theorem handoverDeadlines : Obligations.HandoverDeadlines := by
  intro s d hrun
  refine ⟨fun hd hreach => ?_, fun hst hd hreach => ?_⟩
  · have hdue : overdueDue s = true := by
      simp only [overdueDue, runs, hrun, hd, hreach, beq_self_eq_true, Bool.and_self]
    obtain ⟨hshift, hcnt, hno, honly⟩ := reported_spec .overdue none { s.shift with overdueAt := none, overdue := true }
      { s.cnt.shift with overdue := s.cnt.shift.overdue + 1 } s (overdueExpires s) rfl
    refine ⟨overdueExpires s, ?_, hshift, hcnt, hno, honly⟩
    exact congrArg Host.Outcome.next (if_pos hdue)
  · have hdue : lapseDue s = true := by
      simp only [lapseDue, runs, hrun, hst, hd, hreach, beq_self_eq_true, Bool.and_self]
    obtain ⟨hshift, hcnt, hno, honly⟩ := reported_spec .lapsed none s.shift.offerEnds
      { s.cnt.shift with lapsed := s.cnt.shift.lapsed + 1 } s (offerLapses s) rfl
    refine ⟨offerLapses s, congrArg Host.Outcome.next (if_pos hdue), ?_, ?_, ?_, ?_, fun h => ?_, fun h => ?_, hcnt, hno,
      honly⟩
    all_goals rw [hshift, offerEnds_eq]
    · unfold offerEnded; split <;> rfl
    · unfold offerEnded; split <;> rfl
    · unfold offerEnded; split <;> rfl
    · unfold offerEnded; split <;> rfl
    · rw [offerEnded, if_pos h]
      exact ⟨rfl, rfl, rfl, rfl, rfl⟩
    · rw [offerEnded, if_neg (by rw [h]; decide)]

/-! ### The reports of the consoles -/

/-- The states in which no offer stands. -/
abbrev noOffer (s : State) : Prop := s.shift.state = .onShift ∨ s.shift.state = .due ∨ s.shift.state = .window

/-- The states in which an offer stands. -/
abbrev offerStands (s : State) : Prop := s.shift.state = .offered ∨ s.shift.state = .acceptHeld

theorem incomingValid_iff (u : ShiftUnit) (crew : Nat) : incomingValid u crew = true
    ↔ u.expected.elim (crew ≠ u.openRec.crew) (fun c => crew = c) := by
  unfold incomingValid
  cases u.expected <;> simp

theorem incomingValid_false_iff (u : ShiftUnit) (crew : Nat) : incomingValid u crew = false
    ↔ u.expected.elim (crew = u.openRec.crew) (fun c => crew ≠ c) := by
  unfold incomingValid
  cases u.expected <;> simp

/-- The shift unit after a taken OFFER (R151). -/
def offerTaken (r : HeldAccept) (s : State) : ShiftUnit :=
  { s.shift with
    state := .offered, offer := some r.operator
    lapseAt := some (s.clock.m + BitVec.ofNat 48 (s.cfg.lapseLen * 60000))
    expected := if s.shift.state = .window then s.shift.expected else none
    window := if s.shift.state = .window then s.shift.window else none }

theorem shiftOffer_taken (r : HeldAccept) (s : State) (hcrew : r.crew = s.shift.openRec.crew) (h : noOffer s) :
    shiftOffer r s = handoverNotice .offered (some r) { s with shift := offerTaken r s } := by
  rcases h with h | h | h <;> simp only [shiftOffer, h, hcrew, if_true, offerTaken] <;> rfl

theorem shiftOffer_misfit (r : HeldAccept) (s : State) (hcrew : r.crew ≠ s.shift.openRec.crew) (h : noOffer s) :
    shiftOffer r s = s.countShift (fun c => { c with crewMisfit := c.crewMisfit + 1 }) := by
  rcases h with h | h | h <;> simp only [shiftOffer, h, if_neg hcrew]

theorem shiftOffer_ignored (r : HeldAccept) (s : State) (h : offerStands s) : shiftOffer r s = s := by
  rcases h with h | h <;> simp only [shiftOffer, h]

theorem shiftAccept_unoffered (r : HeldAccept) (s : State) (h : noOffer s) :
    shiftAccept r s = s.countShift (fun c => { c with acceptUnoffered := c.acceptUnoffered + 1 }) := by
  rcases h with h | h | h <;> simp only [shiftAccept, h]

theorem shiftAccept_misfit (r : HeldAccept) (s : State) (h : s.shift.state = .offered)
    (hv : incomingValid s.shift r.crew = false) :
    shiftAccept r s = s.countShift (fun c => { c with crewMisfit := c.crewMisfit + 1 }) := by
  simp only [shiftAccept, h, hv, Bool.false_eq_true, if_false]

theorem shiftAccept_held (r : HeldAccept) (s : State) (h : s.shift.state = .offered)
    (hv : incomingValid s.shift r.crew = true) (hset : anySettling s = true) :
    shiftAccept r s = handoverNotice .held (some r)
      { s with
        shift := { s.shift with state := .acceptHeld, accept := some r, lapseAt := none }
        cnt.shift := { s.cnt.shift with held := s.cnt.shift.held + 1 } } := by
  simp only [shiftAccept, h, hv, hset, if_true, State.countShift]

theorem shiftAccept_completes (r : HeldAccept) (s : State) (h : s.shift.state = .offered)
    (hv : incomingValid s.shift r.crew = true) (hset : anySettling s = false) :
    shiftAccept r s = completeAccept r s := by
  simp only [shiftAccept, h, hv, hset, if_true, Bool.false_eq_true, if_false]

theorem endOffer_ignored (ev : HandoverEvent) (valid : Bool) (count : ShiftCnt → ShiftCnt) (r : HeldAccept) (s : State)
    (h : noOffer s) : endOffer ev valid count r s = s := by
  unfold endOffer
  rcases h with h | h | h <;> simp [h]

theorem endOffer_misfit (ev : HandoverEvent) (count : ShiftCnt → ShiftCnt) (r : HeldAccept) (s : State)
    (h : offerStands s) :
    endOffer ev false count r s = s.countShift (fun c => { c with crewMisfit := c.crewMisfit + 1 }) := by
  rw [endOffer, if_pos h, if_neg (by decide)]

theorem endOffer_ended (ev : HandoverEvent) (count : ShiftCnt → ShiftCnt) (r : HeldAccept) (s : State)
    (h : offerStands s) : endOffer ev true count r s
      = handoverNotice ev (some r) { s with shift := offerEnded s.shift, cnt.shift := count s.cnt.shift } := by
  rw [endOffer, if_pos h, if_pos rfl, offerEnds_eq]
  rfl

/-- A report that fits no offer, or the crew of none, is counted (R151, R152, R154). -/
theorem handoverReport_misfit (r : HeldAccept) (s : State) (v : Verb)
    (h : v = .offer ∧ r.crew ≠ s.shift.openRec.crew ∧ noOffer s
      ∨ v = .withdraw ∧ r.crew ≠ s.shift.openRec.crew ∧ offerStands s
      ∨ (v = .accept ∧ s.shift.state = .offered ∨ v = .decline ∧ offerStands s)
        ∧ s.shift.expected.elim (r.crew = s.shift.openRec.crew) (fun c => r.crew ≠ c)) :
    handoverReport v r s = s.countShift (fun c => { c with crewMisfit := c.crewMisfit + 1 }) := by
  rcases h with ⟨rfl, hcrew, hst⟩ | ⟨rfl, hcrew, hst⟩ | ⟨⟨rfl, hst⟩ | ⟨rfl, hst⟩, hv⟩
  · exact shiftOffer_misfit r s hcrew hst
  · rw [handoverReport, beq_false_of_ne hcrew, endOffer_misfit _ _ r s hst]
  · exact shiftAccept_misfit r s hst ((incomingValid_false_iff _ _).mpr hv)
  · rw [handoverReport, (incomingValid_false_iff _ _).mpr hv, endOffer_misfit _ _ r s hst]

/-- A DECLINE of the incoming crew or a WITHDRAW of the outgoing one ends the offer (R154). -/
theorem handoverReport_ended (r : HeldAccept) (s : State) (v : Verb) (c : ShiftCnt) (hst : offerStands s)
    (h : v = .withdraw ∧ r.crew = s.shift.openRec.crew ∧ c = { s.cnt.shift with withdrawn := s.cnt.shift.withdrawn + 1 }
      ∨ v = .decline ∧ s.shift.expected.elim (r.crew ≠ s.shift.openRec.crew) (fun x => r.crew = x)
        ∧ c = { s.cnt.shift with declined := s.cnt.shift.declined + 1 }) :
    ∃ ev, handoverReport v r s = handoverNotice ev (some r) { s with shift := offerEnded s.shift, cnt.shift := c } := by
  rcases h with ⟨rfl, hcrew, rfl⟩ | ⟨rfl, hv, rfl⟩
  · exact ⟨.withdrawn, by rw [handoverReport, hcrew, beq_self_eq_true, endOffer_ended _ _ r s hst]⟩
  · exact ⟨.declined, by rw [handoverReport, (incomingValid_iff _ _).mpr hv, endOffer_ended _ _ r s hst]⟩

theorem cleared_eq (u : ShiftUnit) : u.cleared = offerEnded { u with expected := none } := rfl

/-- An OFFER of the crew on shift is taken (R151). -/
theorem report_offer_taken (r : HeldAccept) (s t : State) (ht : t = handoverReport .offer r s)
    (hcrew : r.crew = s.shift.openRec.crew) (hst : noOffer s) :
    t.shift = offerTaken r s ∧ (live s = true → t.resp.noticeNo = s.resp.noticeNo + 1)
      ∧ Only [.shift, .portS, .resp, .nPortS, .nResp] s t := by
  rw [handoverReport, shiftOffer_taken r s hcrew hst] at ht
  have hn := only_handoverNotice .offered (some r) { s with shift := offerTaken r s }
  have hno (hlive : live s = true) :=
    handoverNotice_noticeNo .offered (some r) (s := { s with shift := offerTaken r s }) hlive
  rw [← ht] at hn hno
  exact ⟨hn.shift (by decide), hno, ((only_set_shift s _).mono (by decide)).trans (hn.mono (by decide))⟩

/-- What a completion with the accept of a report leaves (R153, R158 to R160). -/
theorem report_completes (r : HeldAccept) (s t : State) (ht : t = completeAccept r s) :
    t.shift = { offerEnded { s.shift with expected := none } with openRec := t.shift.openRec, list := t.shift.list }
      ∧ t.shift.openRec = openedNow r.stamp r.crew (some r.operator) s
      ∧ t.shift.list = pushClosed s.shift.list (closedNow r.stamp s)
      ∧ (∀ v : Fin 6, t.store.flags[v] = some (s.store.flags[v].getD .shiftClose))
      ∧ t.cnt.shift = { s.cnt.shift with completed := s.cnt.shift.completed + 1 }
      ∧ (live s = true → t.resp.noticeNo = s.resp.noticeNo + 1) ∧ Only completeParts s t := by
  obtain ⟨hshift, hflags, hcnt, hno, honly⟩ := complete_spec .accepted r.stamp r.crew (some r.operator) (some r) s t ht
  refine ⟨?_, ?_, ?_, hflags, hcnt, hno, honly⟩
  all_goals rw [hshift]
  rw [cleared_eq]

end Sys2Proof.Proofs
end

section
/-! SUPPORT. The tally unit's change of a mode or test flag (R124 to R126, R134). -/

namespace Sys2Proof.Proofs

open Sys2Proof Sys2Proof.Machine Sys2Proof.Safety

/-! ### The unit record after a change -/

theorem change_run (u : UnitRec) (m : Elapsed) (mode : Mode) (test : Bool) (k : Fin 6) :
    (u.change m mode test).run[k] = u.value m k := credit_run u m k

theorem countsStart_iff (u : UnitRec) (mode : Mode) : countsStart u mode = true
    ↔ mode.running.isSome = true ∧ mode ≠ u.mode ∧ ¬(u.mode = .unknown ∧ u.preOutage = some mode) := by
  simp [countsStart, and_assoc, imp_iff_not_or]

theorem change_starts (u : UnitRec) (m : Elapsed) (mode : Mode) (test : Bool) (k : Fin 5) :
    (u.change m mode test).starts[k]
      = if mode.running = some k ∧ mode ≠ u.mode ∧ ¬(u.mode = .unknown ∧ u.preOutage = some mode)
        then min (u.starts[k] + 1) 4294967295 else u.starts[k] := by
  unfold UnitRec.change
  dsimp only
  cases hr : mode.running with
  | none => rw [if_neg (fun h => nomatch h.1), credit_starts]
  | some j =>
    dsimp only
    have hc := countsStart_iff u mode
    rw [hr] at hc
    by_cases hs : countsStart u mode = true
    · obtain ⟨-, hne, hout⟩ := hc.mp hs
      rw [if_pos hs, getElem_set_fin, credit_starts]
      by_cases hk : k = j
      · subst hk
        rw [if_pos rfl, if_pos ⟨rfl, hne, hout⟩]
        rfl
      · rw [if_neg hk, if_neg (fun h => hk (Option.some.inj h.1).symm)]
    · rw [if_neg hs, if_neg (fun h => hs (hc.mpr ⟨rfl, h.2⟩)), credit_starts]

/-! ### Crediting and its counter -/

theorem creditUnit_counts (i : Fin 6) (s : State) : (creditUnit i s).cnt.tally.reports = s.cnt.tally.reports
    ∧ (creditUnit i s).cnt.tally.changes = s.cnt.tally.changes
    ∧ (creditUnit i s).cnt.tally.hourly = s.cnt.tally.hourly := by
  unfold creditUnit
  dsimp only
  split <;> exact ⟨rfl, rfl, rfl⟩

/-! ### The change -/

/-- Whether the condition of R134 asks at the entry of this change into a running mode from rest. -/
def asksAtEntry (u : UnitRec) (m : Elapsed) (mode : Mode) : Bool :=
  u.mode.running.isNone && mode.running.isSome && u.hourPassed m && !u.hourlyAsked

theorem asksAtEntry_iff (u : UnitRec) (m : Elapsed) (mode : Mode) : asksAtEntry u m mode = true
    ↔ u.mode.running = none ∧ mode.running.isSome = true ∧ 3600000 ≤ (m - u.lastCkpt).toNat
      ∧ u.hourlyAsked = false := by
  simp [asksAtEntry, UnitRec.hourPassed, and_assoc]

/-- What a change leaves of the tallies, the flag, the counters and the notices. -/
structure Changed (i : Fin 6) (mode : Mode) (test : Bool) (s t : State) : Prop where
  unit : t.tally[i] = { s.tally[i].change s.clock.m mode test with
    hourlyAsked := s.tally[i].hourlyAsked || asksAtEntry s.tally[i] s.clock.m mode }
  others : ∀ v : Fin 6, v ≠ i → t.tally[v] = s.tally[v]
  flag : t.store.flags[i] = some (s.store.flags[i].getD .modeEnd)
  hourly : t.cnt.tally.hourly = s.cnt.tally.hourly + (if asksAtEntry s.tally[i] s.clock.m mode = true then 1 else 0)
  changes : t.cnt.tally.changes = s.cnt.tally.changes + 1
  reports : t.cnt.tally.reports = s.cnt.tally.reports
  noticed : live s = true → t.resp.noticeNo = s.resp.noticeNo + 1

theorem unitChange_changed (i : Fin 6) (mode : Mode) (test : Bool) (x : Stamp) (s : State) :
    Changed i mode test s (unitChange i mode test x s) := by
  unfold unitChange
  extract_lets u u' c credited resumed n r d
  have hc : Only creditParts s c := (only_creditUnit i s).trans ((only_withUnit _ i _).mono (by decide))
  have hct (v : Fin 6) : c.tally[v] = if v = i then u' else s.tally[v] := by
    show ((creditUnit i s).tally.set i u')[v] = _
    rw [getElem_set_fin]
    split
    · rfl
    next hv => rw [creditUnit_unit, if_neg hv]
  obtain ⟨hrep, hchg, hhour⟩ : c.cnt.tally.reports = s.cnt.tally.reports ∧ c.cnt.tally.changes = s.cnt.tally.changes
      ∧ c.cnt.tally.hourly = s.cnt.tally.hourly := creditUnit_counts i s
  clear_value c
  have hn : Only noticeParts c n := only_notice _ _ c
  have hno (hlive : live s = true) : n.resp.noticeNo = c.resp.noticeNo + 1 :=
    notice_noticeNo _ _ ((live_congr (hc.supply (by decide))).trans hlive)
  clear_value n
  have hr : Only requestParts n r := only_requestCheckpoint i .modeEnd n
  have hflag : r.store.flags[i] = some (n.store.flags[i].getD .modeEnd) := by
    rw [show r = requestCheckpoint i .modeEnd n from rfl, requestCheckpoint_flags, if_pos rfl]
  clear_value r
  have htally : d.tally = c.tally := (hr.tally (by decide)).trans (hn.tally (by decide))
  have hcnt : d.cnt.tally = { c.cnt.tally with changes := c.cnt.tally.changes + 1 } := by
    show ({ r.cnt.tally with changes := r.cnt.tally.changes + 1 } : TallyCnt) = _
    rw [(hr.nTally (by decide)).trans (hn.nTally (by decide))]
  have hclock : d.clock = s.clock := ((hr.clock (by decide)).trans (hn.clock (by decide))).trans (hc.clock (by decide))
  have hdflag : d.store.flags[i] = some (s.store.flags[i].getD .modeEnd) := by
    show r.store.flags[i] = _
    rw [hflag, hn.store (by decide), hc.store (by decide)]
  have hdno (hlive : live s = true) : d.resp.noticeNo = s.resp.noticeNo + 1 := by
    show r.resp.noticeNo = _
    rw [hr.resp (by decide), hno hlive, hc.resp (by decide)]
  clear_value d
  have hasks : (u.mode.running.isNone && mode.running.isSome && u'.hourPassed d.clock.m && !u'.hourlyAsked)
      = asksAtEntry s.tally[i] s.clock.m mode := by
    rw [hclock, asksAtEntry]
    simp only [u', UnitRec.change, UnitRec.hourPassed, credit_lastCkpt, credit_hourlyAsked, u]
  rw [hasks]
  have hu' : u'.hourlyAsked = s.tally[i].hourlyAsked := by
    simp only [u', UnitRec.change, credit_hourlyAsked, u]
  have hdt (v : Fin 6) : d.tally[v] = if v = i then u' else s.tally[v] := by rw [htally]; exact hct v
  split
  next hask =>
    have hq := only_requestCheckpoint i .hourly (hourAsked i d)
    have hqflag := requestCheckpoint_flags i i .hourly (hourAsked i d)
    rw [askHourly_eq]
    generalize requestCheckpoint i .hourly (hourAsked i d) = t at hq hqflag
    have ht (v : Fin 6) : t.tally[v] = if v = i then { u' with hourlyAsked := true } else s.tally[v] := by
      rw [hq.tally (by decide)]
      show (d.tally.set i { d.tally[i] with hourlyAsked := true })[v] = _
      rw [getElem_set_fin, hdt, if_pos rfl]
      split
      · rfl
      next hv => rw [hdt, if_neg hv]
    have htc : t.cnt.tally = { d.cnt.tally with hourly := d.cnt.tally.hourly + 1 } := hq.nTally (by decide)
    refine ⟨?_, fun v hv => ?_, ?_, ?_, ?_, ?_, fun hlive => ?_⟩
    · rw [ht, if_pos rfl, hask, Bool.or_true]
    · rw [ht, if_neg hv]
    · rw [hqflag, if_pos rfl]
      show some (d.store.flags[i].getD .hourly) = _
      rw [hdflag]
      rfl
    · rw [htc, hcnt, if_pos hask, ← hhour]
    · rw [htc, hcnt, ← hchg]
    · rw [htc, hcnt, ← hrep]
    · rw [hq.resp (by decide)]
      exact hdno hlive
  next hask =>
    refine ⟨?_, fun v hv => ?_, hdflag, ?_, ?_, ?_, hdno⟩
    · rw [hdt, if_pos rfl, Bool.eq_false_iff.mpr hask, Bool.or_false, ← hu']
    · rw [hdt, if_neg hv]
    · rw [hcnt, if_neg hask, ← hhour]
      exact (BitVec.add_zero _).symm
    · rw [hcnt, ← hchg]
    · rw [hcnt, ← hrep]

/-! ### A unit report (R124) -/

/-- The report is counted. -/
def unitReported (s : State) : State := s.countTally (fun c => { c with reports := c.reports + 1 })

theorem unitReport_eq (i : Fin 6) (mode : Mode) (test : Bool) (x : Stamp) (s : State) : unitReport i mode test x s
    = if s.tally[i].hold.isSome then
        if mode.running.isSome then (unitReported s).countTally (fun c => { c with stale := c.stale + 1 })
        else ((unitReported s).withUnit i { s.tally[i] with hold := none }).countTally (fun c => { c with same := c.same + 1 })
      else if mode = s.tally[i].mode ∧ (test && mode.running.isSome) = s.tally[i].test then
        (unitReported s).countTally (fun c => { c with same := c.same + 1 })
      else unitChange i mode (test && mode.running.isSome) x (unitReported s) := rfl

end Sys2Proof.Proofs
end

section
/-! SUPPORT and OBLIGATIONS. One entry that acts on a frame (R63, R67 to R76). -/

namespace Sys2Proof.Proofs

open Sys2Proof Sys2Proof.Machine Sys2Proof.Safety

/-! ### One acting entry -/

/-- What one acting entry leaves, by what its action answers (R67, R68, R56). -/
def actedBy (e : Entry) (w : Work) (a : State) : Option (State × Option StampWrite) → Gathered × State
  | none => ((unsearched w).note e, raiseFault .pickOutside 0 w a)
  | some (t, none) => ((unsearched w).note e, t)
  | some (t, some wr) => stampWrite wr w ((unsearched w).note e) t

/-- Entry 0 hit once, the classification carried to its end. -/
def entryHit (s : State) : State :=
  { s with cls := { s.cls with work := none, hits := s.cls.hits.set 0 (s.cls.hits[0] + 1) } }

theorem actEntry_actedBy (w : Work) (s : State) (e : Entry) (a : State) (he : e = s.cls.active[0])
    (ha : a = { s with cls.hits := s.cls.hits.set 0 (s.cls.hits[0] + 1) }) :
    actEntry 0 w (unsearched w) s = actedBy e w a (takeAction e.action w a) := by
  unfold actEntry
  extract_lets x g c b
  have hx : x = e := he.symm
  have hb : b = a := ha.symm
  have hg : g = (unsearched w).note e := congrArg (unsearched w).note hx
  clear_value x g b
  subst hx hb hg
  cases takeAction x.action w b with
  | none => rfl
  | some r =>
    obtain ⟨t, wr⟩ := r
    cases wr <;> rfl

theorem searchBank_one {w : Work} {s : State} (hhit : s.cls.active[0].hits w = true)
    (hchain : s.cls.active[0].chain = none) :
    searchBank w 128 0 (unsearched w) { s with cls.work := none }
      = actedBy s.cls.active[0] w (entryHit s) (takeAction s.cls.active[0].action w (entryHit s)) := by
  have hfour : ¬(unsearched w).acted = 4 := Nat.zero_ne_add_one 3
  rw [searchBank, dif_pos (by decide)]
  dsimp only
  rw [if_pos hhit, if_neg hfour, hchain]
  exact actEntry_actedBy w { s with cls.work := none } _ _ rfl rfl

/-- The classification of a plant frame that entry 0, without chain, matches. -/
theorem classified_one {s : State} {w : Work} {e : Entry} (hlive : live s = true) (hwork : s.cls.work = some w)
    (hplant : frameDst w.bytes ≠ w.station ∨ frameType w.bytes ≠ w.mtype) (he : e = s.cls.active[0])
    (hhit : e.hits w = true) (hchain : e.chain = none) {o : Option (State × Option StampWrite)}
    (ho : takeAction e.action w (entryHit s) = o) :
    exec .classificationDone s = .next (outcome w (actedBy e w (entryHit s) o).1 (actedBy e w (entryHit s) o).2) := by
  subst he
  rw [exec_classificationDone, classificationDone_plant hlive hwork (isManagement_false hplant),
    searchBank_one hhit hchain, ho]

/-- The frame of an entry other than DROP is forwarded or consumed as the entry says. -/
theorem outcome_noted (e : Entry) (w : Work) (bytes : List Byte) (wrote : Bool) (t : State) (hdrop : e.action ≠ .drop) :
    outcome w { (unsearched w).note e with bytes := bytes, wrote := wrote } t
      = disposed e w (if wrote then refresh bytes else bytes) t := by
  have hd : (e.action == .drop) = false := beq_false_of_ne hdrop
  cases hf : e.forward <;> simp [outcome, disposed, Gathered.note, unsearched, Gathered.forwarded, hd, hf]

section
variable {s : State} {w : Work} {e : Entry} (hlive : live s = true) (hwork : s.cls.work = some w)
  (hplant : frameDst w.bytes ≠ w.station ∨ frameType w.bytes ≠ w.mtype) (he : e = s.cls.active[0])
  (hhit : e.hits w = true) (hchain : e.chain = none)
include hlive hwork hplant he hhit hchain

/-- An action that asks for no stamp write. -/
theorem classified_plain (hdrop : e.action ≠ .drop) {t : State}
    (ht : takeAction e.action w (entryHit s) = some (t, none)) :
    exec .classificationDone s = .next (disposed e w w.bytes t) := by
  rw [classified_one hlive hwork hplant he hhit hchain ht]
  exact congrArg Host.Outcome.next (outcome_noted e w w.bytes false t hdrop)

/-- A pick outside the payload is a fault, and nothing is done (R68). -/
theorem classified_fault (hdrop : e.action ≠ .drop) (ht : takeAction e.action w (entryHit s) = none) :
    exec .classificationDone s = .next (disposed e w w.bytes (raiseFault .pickOutside 0 w (entryHit s))) := by
  rw [classified_one hlive hwork hplant he hhit hchain ht]
  exact congrArg Host.Outcome.next (outcome_noted e w w.bytes false _ hdrop)

/-- A stamp write within the payload (R56 to R59). -/
theorem classified_written (hdrop : e.action ≠ .drop) {t : State} {wr : StampWrite}
    (ht : takeAction e.action w (entryHit s) = some (t, some wr)) (hcfg : t.cfg = s.cfg)
    (hfit : wr.offset.toNat + wr.format.width ≤ (payload w.bytes).length) :
    exec .classificationDone s = .next (disposed e w (stamped wr w s.cfg.cal) t) := by
  rw [classified_one hlive hwork hplant he hhit hchain ht, actedBy, stampWrite, if_pos hfit, ← hcfg]
  refine congrArg Host.Outcome.next ((outcome_noted e w _ true t hdrop).trans ?_)
  rw [if_pos rfl]
  cases hf : wr.format <;> simp only [stamped, stampBytes, hf, encStamp] <;> rfl

/-- A stamp write that passes the end of the payload is counted (R56). -/
theorem classified_short (hdrop : e.action ≠ .drop) {t : State} {wr : StampWrite}
    (ht : takeAction e.action w (entryHit s) = some (t, some wr))
    (hfit : (payload w.bytes).length < wr.offset.toNat + wr.format.width) :
    exec .classificationDone s
      = .next (disposed e w w.bytes (t.countPort w.port (fun c => { c with stampShort := c.stampShort + 1 }))) := by
  rw [classified_one hlive hwork hplant he hhit hchain ht, actedBy, stampWrite, if_neg (by omega)]
  exact congrArg Host.Outcome.next (outcome_noted e w w.bytes false _ hdrop)

/-- DROP consumes the frame. -/
theorem classified_drop (hact : e.action = .drop) : exec .classificationDone s
    = .next ((entryHit s).countPort w.port (fun c => { c with consumed := c.consumed + 1 })) := by
  rw [classified_one hlive hwork hplant he hhit hchain (o := some (entryHit s, none)) (by rw [hact]; rfl)]
  simp [actedBy, outcome, Gathered.note, unsearched, hact]

end

/-! ### The actions -/

theorem takeAction_unit {p : UnitParams} {w : Work} {m : Nat} {q : Option Nat} (s : State)
    (h : unitPicks p w = some (m, q)) : takeAction (.unit p) w s = some (unitAction p w m q s, none) := by
  exact congrArg (Option.map (fun r => (unitAction p w r.1 r.2 s, (none : Option StampWrite)))) h

/-- The mode byte and the test flag as the entry picks them (R73, R74). -/
theorem unitPicks_of {p : UnitParams} {w : Work} {m : Nat} {test : Bool}
    (hm : pick (payload w.bytes) p.modeOffset.toNat 1 = some m)
    (ht : p.test = none ∧ test = false ∨ ∃ o k v, p.test = some (o, k) ∧ pick (payload w.bytes) o.toNat 1 = some v
      ∧ test = (BitVec.ofNat 8 v &&& k != 0)) : ∃ q, unitPicks p w = some (m, q) ∧ testFlag p.test q = test := by
  rcases ht with ⟨hp, rfl⟩ | ⟨o, k, v, hp, hv, rfl⟩
  · refine ⟨none, ?_, by rw [hp]; rfl⟩
    simp only [unitPicks, hm, hp, Option.bind_eq_bind, Option.bind_some]
  · refine ⟨some v, ?_, by rw [hp]; rfl⟩
    simp only [unitPicks, hm, hp, hv, Option.bind_eq_bind, Option.bind_some, Option.map_some]

theorem tripPicks_of {p : TripParams} {w : Work} {no code : Nat} {emb : Option (Nat × Nat)}
    (hno : pick (payload w.bytes) p.stateOffset.toNat 2 = some no)
    (hcode : pick (payload w.bytes) p.codeOffset.toNat p.codeWidth.toNat = some code)
    (hemb : p.embedded = none ∧ emb = none ∨ ∃ o v, p.embedded = some o ∧ pick (payload w.bytes) o.toNat 8 = some v
      ∧ emb = some (v / 2 ^ 32, v % 2 ^ 32)) :
    tripPicks p w = some
      { source := Fin.ofNat 64 p.source.toNat, group := Fin.ofNat 16 p.group.toNat
        unit := p.unit.bind (fun n => unitOfNo n.toNat), stateNo := BitVec.ofNat 16 no, code := BitVec.ofNat 16 code
        kind := if code = p.clearCode.toNat then .clear else .trip
        embedded := emb, compensation := p.compensation.toNat, unitStop := p.unitStop, stamp := w.stamp
        port := w.port } := by
  rcases hemb with ⟨hp, rfl⟩ | ⟨o, v, hp, hv, rfl⟩
  · simp only [tripPicks, hno, hcode, hp, Option.bind_eq_bind, Option.bind_some]
  · simp only [tripPicks, hno, hcode, hp, hv, Option.bind_eq_bind, Option.bind_some, Option.map_some]

theorem mapMode_none {l : List (Byte × Mode)} {m : Nat} (h : ∀ q ∈ l, q.1.toNat ≠ m) : mapMode l m = none := by
  rw [mapMode, List.find?_eq_none.mpr (fun q hq => by simpa using h q hq)]
  rfl

theorem takeAction_handover {vo co oo : BitVec 16} {w : Work} {n crew op : Nat} (s : State)
    (hn : pick (payload w.bytes) vo.toNat 1 = some n) (hcrew : pick (payload w.bytes) co.toNat 1 = some crew)
    (hop : pick (payload w.bytes) oo.toNat 2 = some op) :
    takeAction (.handover vo co oo) w s = some (handoverAction w n crew op s, none) := by
  generalize hp : handoverAction w = act
  unfold takeAction
  dsimp only
  rw [hn, hcrew, hop, hp]

theorem handoverAction_report {w : Work} {n crew op : Nat} {v : Verb} (s : State)
    (hv : (n, v) ∈ [(1, Verb.offer), (2, .accept), (3, .decline), (4, .withdraw)]) (hlo : 1 ≤ crew) (hhi : crew ≤ 15) :
    handoverAction w n crew op s = handoverReport v ⟨crew, BitVec.ofNat 16 op, w.stamp⟩ s := by
  have hcode : Verb.ofCode n = some v := by
    simp only [List.mem_cons, Prod.mk.injEq, List.not_mem_nil, or_false] at hv
    rcases hv with ⟨rfl, rfl⟩ | ⟨rfl, rfl⟩ | ⟨rfl, rfl⟩ | ⟨rfl, rfl⟩ <;> rfl
  simp only [handoverAction, hcode, if_pos (And.intro hlo hhi)]

theorem verb_none {n : Nat} (h : n = 0 ∨ 4 < n) : Verb.ofCode n = none := by
  unfold Verb.ofCode
  split
  case h_5 => rfl
  all_goals omega

theorem handoverAction_malformed {w : Work} {n crew op : Nat} (s : State) (h : n = 0 ∨ 4 < n ∨ crew = 0 ∨ 15 < crew) :
    handoverAction w n crew op s = s.countCls (fun c => { c with handoverMalformed := c.handoverMalformed + 1 }) := by
  unfold handoverAction
  split
  next v hv =>
    refine if_neg ?_
    have hn : ¬(n = 0 ∨ 4 < n) := fun hn => by
      rw [verb_none hn] at hv
      cases hv
    omega
  next => rfl

end Sys2Proof.Proofs
end

section
/-! SUPPORT and OBLIGATIONS. What each action kind makes of a matching frame (R67 to R76). -/

namespace Sys2Proof.Proofs

open Sys2Proof Sys2Proof.Machine Sys2Proof.Safety

section
variable {s : State} {w : Work} {e : Entry} (hlive : live s = true) (hwork : s.cls.work = some w)
  (hplant : frameDst w.bytes ≠ w.station ∨ frameType w.bytes ≠ w.mtype) (he : e = s.cls.active[0])
  (hhit : e.hits w = true) (hchain : e.chain = none)
include hlive hwork hplant he hhit hchain

/-- A UNIT entry whose mode byte is mapped hands its report to the tally unit. -/
theorem classified_unit {p : UnitParams} {u : Fin 6} {m : Nat} {mode : Mode} {test : Bool} (hact : e.action = .unit p)
    (hu : p.unit.toNat = u.val + 1) (hm : pick (payload w.bytes) p.modeOffset.toNat 1 = some m)
    (hmap : mapMode p.codeMap m = some mode)
    (htest : p.test = none ∧ test = false ∨ ∃ o k v, p.test = some (o, k)
      ∧ pick (payload w.bytes) o.toNat 1 = some v ∧ test = (BitVec.ofNat 8 v &&& k != 0)) :
    exec .classificationDone s = .next (disposed e w w.bytes (unitReport u mode test w.stamp (entryHit s))) := by
  obtain ⟨q, hq, hflag⟩ := unitPicks_of hm htest
  refine classified_plain hlive hwork hplant he hhit hchain (hact ▸ nofun) ?_
  rw [hact, takeAction_unit _ hq, unitAction, hmap, hu, unitOfNo_succ, hflag]

/-- A UNIT entry whose mode byte no pair maps (R73). -/
theorem classified_unmapped {p : UnitParams} {m : Nat} (hact : e.action = .unit p) (htest : p.test = none)
    (hm : pick (payload w.bytes) p.modeOffset.toNat 1 = some m) (hmap : ∀ q ∈ p.codeMap, q.1.toNat ≠ m) :
    exec .classificationDone s = .next (disposed e w w.bytes
      ((entryHit s).countCls (fun c => { c with unitUnmapped := c.unitUnmapped + 1 }))) := by
  obtain ⟨q, hq, -⟩ := unitPicks_of (test := false) hm (.inl ⟨htest, rfl⟩)
  refine classified_plain hlive hwork hplant he hhit hchain (hact ▸ nofun) ?_
  rw [hact, takeAction_unit _ hq, unitAction, mapMode_none hmap]

/-- A TRIP entry hands its report to the recorder and makes the stamp write it asks for (R72). -/
theorem classified_trip {p : TripParams} {r : TripReport} {bytes : List Byte} (hact : e.action = .trip p)
    (hr : tripPicks p w = some r)
    (hwr : p.write = none ∧ bytes = w.bytes ∨ ∃ wr, p.write = some wr
      ∧ wr.offset.toNat + wr.format.width ≤ (payload w.bytes).length ∧ bytes = stamped wr w s.cfg.cal) :
    exec .classificationDone s = .next (disposed e w bytes (tripReport r (entryHit s))) := by
  have ht : takeAction e.action w (entryHit s) = some (tripReport r (entryHit s), p.write) := by
    rw [hact]
    exact congrArg (Option.map (fun r => (tripReport r (entryHit s), p.write))) hr
  rcases hwr with ⟨hnone, rfl⟩ | ⟨wr, hsome, hfit, rfl⟩
  · exact classified_plain hlive hwork hplant he hhit hchain (hact ▸ nofun) (hnone ▸ ht)
  · exact classified_written hlive hwork hplant he hhit hchain (hact ▸ nofun) (hsome ▸ ht)
      ((only_tripReport r _).cfg (by decide)) hfit

/-- A BEACON entry holds the label it picks, or is a fault (R75). -/
theorem classified_beacon {o : BitVec 16} (hact : e.action = .beacon o) :
    (∀ v, pick (payload w.bytes) o.toNat 4 = some v → exec .classificationDone s
      = .next (disposed e w w.bytes (beaconLabel (BitVec.ofNat 32 v) (entryHit s))))
    ∧ (pick (payload w.bytes) o.toNat 4 = none → exec .classificationDone s
      = .next (disposed e w w.bytes (raiseFault .pickOutside 0 w (entryHit s)))) := by
  refine ⟨fun v hv => ?_, fun hv => ?_⟩
  · refine classified_plain hlive hwork hplant he hhit hchain (hact ▸ nofun) ?_
    rw [hact]
    exact congrArg (Option.map (fun v => (beaconLabel (BitVec.ofNat 32 v) (entryHit s), (none : Option StampWrite)))) hv
  · refine classified_fault hlive hwork hplant he hhit hchain (hact ▸ nofun) ?_
    rw [hact]
    exact congrArg (Option.map (fun v => (beaconLabel (BitVec.ofNat 32 v) (entryHit s), (none : Option StampWrite)))) hv

/-- A HANDOVER entry hands its report to the shift unit (R76). -/
theorem classified_handover {vo co oo : BitVec 16} {n crew op : Nat} (hact : e.action = .handover vo co oo)
    (hn : pick (payload w.bytes) vo.toNat 1 = some n) (hcrew : pick (payload w.bytes) co.toNat 1 = some crew)
    (hop : pick (payload w.bytes) oo.toNat 2 = some op) :
    exec .classificationDone s = .next (disposed e w w.bytes (handoverAction w n crew op (entryHit s))) := by
  refine classified_plain hlive hwork hplant he hhit hchain (hact ▸ nofun) ?_
  rw [hact, takeAction_handover _ hn hcrew hop]

end

/-- The four outcomes of a unit report (R124 to R126, R132). -/
theorem unitReport_spec (u : Fin 6) (mode : Mode) (test : Bool) (x : Stamp) (a : State) :
    (∀ d, a.tally[u].hold = some d → mode.running.isSome = true → unitReport u mode test x a
      = { a with cnt.tally.reports := a.cnt.tally.reports + 1, cnt.tally.stale := a.cnt.tally.stale + 1 })
    ∧ (∀ d, a.tally[u].hold = some d → mode = .standstill → unitReport u mode test x a
      = { a with
          tally := a.tally.set u { a.tally[u] with hold := none }
          cnt.tally.reports := a.cnt.tally.reports + 1, cnt.tally.same := a.cnt.tally.same + 1 })
    ∧ (a.tally[u].hold = none → mode = a.tally[u].mode → (test && mode.running.isSome) = a.tally[u].test →
      unitReport u mode test x a
        = { a with cnt.tally.reports := a.cnt.tally.reports + 1, cnt.tally.same := a.cnt.tally.same + 1 })
    ∧ (a.tally[u].hold = none → mode ≠ a.tally[u].mode ∨ (test && mode.running.isSome) ≠ a.tally[u].test →
      unitReport u mode test x a = unitChange u mode (test && mode.running.isSome) x (unitReported a)) := by
  refine ⟨fun d hd hrun => ?_, fun d hd hst => ?_, fun hd hm ht => ?_, fun hd hch => ?_⟩
  · rw [unitReport_eq, hd, if_pos Option.isSome_some, if_pos hrun]
    rfl
  · subst hst
    rw [unitReport_eq, hd, if_pos Option.isSome_some, if_neg (by decide)]
    rfl
  · rw [unitReport_eq, hd, if_neg (by decide), if_pos ⟨hm, ht⟩]
    rfl
  · rw [unitReport_eq, hd, if_neg (by decide), if_neg (fun h => hch.elim (· h.1) (· h.2))]

/-- Settles O18: entry 0 acts by its kind, and the shift unit takes each report by its state. -/
theorem unitFrameChangesMode : Obligations.UnitFrameChangesMode := by
  refine ⟨?_, fun r s => ⟨report_offer_taken r s _ rfl, shiftOffer_ignored r s, fun hst => ?_, fun hst =>
      ⟨shiftAccept_unoffered r s hst, endOffer_ignored _ _ _ r s hst, endOffer_ignored _ _ _ r s hst⟩,
      handoverReport_misfit r s, fun hst hv => ⟨fun hset => ?_, fun t ht hset => ?_⟩, fun v c hst h => ?_⟩⟩
  · intro s a w e pl hlive hwork hplant he hhit hchain hpl ha
    subst hpl ha
    refine ⟨fun p u m mode test hact hu hm hmap htest => ?_, fun p m hact htest hm hmap =>
      classified_unmapped hlive hwork hplant he hhit hchain hact htest hm hmap,
      fun p no code emb bytes hact hno hcode hemb hwr =>
        classified_trip hlive hwork hplant he hhit hchain hact (tripPicks_of hno hcode hemb) hwr,
      fun o v hact => ⟨(classified_beacon hlive hwork hplant he hhit hchain hact).1 v,
        (classified_beacon hlive hwork hplant he hhit hchain hact).2⟩, fun vo co oo n crew op v hact hn hcrew hop => ?_,
      fun wr hact => ⟨fun hfit => ?_, fun hfit => ?_⟩, fun hact => ?_,
      classified_drop hlive hwork hplant he hhit hchain⟩
    · have hexec := classified_unit hlive hwork hplant he hhit hchain hact hu hm hmap htest
      obtain ⟨hstale, hend, hsame, hchange⟩ := unitReport_spec u mode test w.stamp (entryHit s)
      refine ⟨fun d hd hrun => hexec.trans (congrArg _ (congrArg _ (hstale d hd hrun))), fun d hd hst =>
        hexec.trans (congrArg _ (congrArg _ (hend d hd hst))), fun hd hmode ht =>
        hexec.trans (congrArg _ (congrArg _ (hsame hd hmode ht))), fun hd hch => ?_⟩
      have hspec := unitChange_changed u mode (test && mode.running.isSome) w.stamp (unitReported (entryHit s))
      have honly := only_unitChange u mode (test && mode.running.isSome) w.stamp (unitReported (entryHit s))
      rw [hchange hd hch] at hexec
      generalize unitChange u mode (test && mode.running.isSome) w.stamp (unitReported (entryHit s)) = t
        at hexec hspec honly
      obtain ⟨hunit, hothers, hflag, hhourly, hchanges, hreports, hno⟩ := hspec
      refine ⟨t, hexec, ?_⟩
      rw [hunit, hhourly, if_congr (asksAtEntry_iff _ _ _) rfl rfl]
      exact ⟨rfl, rfl, rfl, change_run _ _ mode (test && mode.running.isSome),
        change_starts _ _ mode (test && mode.running.isSome), credit_stops _ _,
        credit_trips _ _, (credit_hold _ _).trans hd, rfl, hflag, rfl, hothers, hchanges, hreports, hno hlive,
        ((only_countTally (entryHit s) _).mono (by decide)).trans (honly.mono (by decide))⟩
    · have hexec := classified_handover hlive hwork hplant he hhit hchain hact hn hcrew hop
      exact ⟨fun hv hlo hhi => hexec.trans (congrArg _ (congrArg _ (handoverAction_report _ hv hlo hhi))),
        fun h => hexec.trans (congrArg _ (congrArg _ (handoverAction_malformed _ h)))⟩
    · exact classified_written hlive hwork hplant he hhit hchain (hact ▸ nofun) (t := entryHit s) (by rw [hact]; rfl) rfl hfit
    · exact classified_short hlive hwork hplant he hhit hchain (hact ▸ nofun) (t := entryHit s) (by rw [hact]; rfl) hfit
    · exact classified_plain hlive hwork hplant he hhit hchain (hact ▸ nofun) (t := entryHit s) (by rw [hact]; rfl)
  · simp only [handoverReport, shiftAccept, hst]
  · have hheld := shiftAccept_held r s hst ((incomingValid_iff _ _).mpr hv) ((anySettling_iff s).mpr hset)
    exact reported_spec .held (some r) _ _ s _ hheld
  · have hdone := shiftAccept_completes r s hst ((incomingValid_iff _ _).mpr hv) ((not_settling_iff s).mpr hset)
    obtain ⟨hshift, hopen, hlist, hflags, hcnt, hno, honly⟩ := report_completes r s t (ht.trans hdone)
    refine ⟨hshift, ?_⟩
    rw [hopen, hlist]
    refine ⟨rfl, rfl, rfl, rfl, rfl, rfl, rfl, announcedSet_getLsbD s, rfl, rfl, rfl, valuesNow_getElem s,
      ⟨_, pushClosed_getLast _ _, rfl, closedNow_runSecs r.stamp s⟩, ?_, hflags, hcnt, hno, honly⟩
    rw [pushClosed_getLast]
    simp only [Option.any_some, closedNow, closeShift, openedNow, openShift, beq_self_eq_true, Bool.and_self]
  · obtain ⟨ev, hev⟩ := handoverReport_ended r s v c hst h
    exact reported_spec ev (some r) _ _ s _ hev

end Sys2Proof.Proofs
end

section
/-! SUPPORT and OBLIGATIONS. Groups: the settle deadline and the operators' requests (R111 to R117). -/

namespace Sys2Proof.Proofs

open Sys2Proof Sys2Proof.Machine Sys2Proof.Safety

/-! ### The settle deadline (R111, R157) -/

/-- The shift unit with a group added to those that named a first-out (R147). -/
def groupAdded (g : Fin 16) (s : State) : State :=
  { s with shift := { s.shift with openRec.firstOut := s.shift.openRec.firstOut ||| (1#16 <<< g.val) } }

theorem shiftDecision_quiet {g : Fin 16} {s : State} (h : s.shift.state ≠ .acceptHeld) :
    shiftDecision g s = groupAdded g s := by
  unfold shiftDecision
  dsimp only
  split
  next hst _ => exact absurd hst h
  next => rfl

theorem shiftDecision_settling {g : Fin 16} {s : State} (h : anySettling s = true) :
    shiftDecision g s = groupAdded g s := by
  have h' : anySettling (groupAdded g s) = true := h
  unfold shiftDecision
  dsimp only
  split
  · exact if_pos h'
  · rfl

theorem shiftDecision_completes {g : Fin 16} {s : State} {a : HeldAccept} (hst : s.shift.state = .acceptHeld)
    (ha : s.shift.accept = some a) (h : anySettling s = false) :
    shiftDecision g s = completeAccept a (groupAdded g s) := by
  have h' : anySettling (groupAdded g s) = false := h
  have hst' : (groupAdded g s).shift.state = .acceptHeld := hst
  have ha' : (groupAdded g s).shift.accept = some a := ha
  unfold shiftDecision
  extract_lets u o t
  have ht : t = groupAdded g s := rfl
  rw [ht]
  clear_value t
  generalize groupAdded g s = t at h' hst' ha'
  rw [hst', ha', h']
  exact if_neg Bool.false_ne_true

/-- A decided group, announced and named in its notice. -/
structure Announced (g : Fin 16) (s t : State) : Prop where
  ann : t.ann = s.ann.set g { s.ann[g] with state := .announced, deadline := none }
  recorder : ∀ q, s.ann[g].ref = some q → t.recorder = { s.recorder with
    list := s.recorder.list.map (fun r => if r.seq = q then { r with firstOut := true } else r) }
  decided : t.cnt.ann.decided = s.cnt.ann.decided + 1
  noticed : live s = true → (∃ q, s.ann[g].ref = some q ∧ (findRecord q s.recorder.list).isSome = true) →
    t.resp.noticeNo = s.resp.noticeNo + 1
  only : Only [.ann, .nAnn, .recorder, .portS, .resp, .nPortS, .nResp] s t

theorem decideGroup_recorder {g : Fin 16} {s : State} {q : BitVec 32} (hq : s.ann[g].ref = some q) :
    (decideGroup g s).recorder = { s.recorder with
      list := s.recorder.list.map (fun r => if r.seq = q then { r with firstOut := true } else r) } := by
  unfold decideGroup
  dsimp only
  rw [hq]
  rfl

theorem decideGroup_announced (g : Fin 16) (s : State) : Announced g s (firstOutNotice g (decideGroup g s)) := by
  have hd := only_decideGroup g s
  have hn := only_firstOutNotice g (decideGroup g s)
  refine ⟨(hn.ann (by decide)).trans (decideGroup_ann g s), fun q hq => ?_, ?_, fun hlive ⟨q, hq, hfound⟩ => ?_,
    (hd.mono (by decide)).trans (hn.mono (by decide))⟩
  · rw [hn.recorder (by decide), decideGroup_recorder hq]
  · rw [hn.nAnn (by decide)]
    rfl
  · have href : (decideGroup g s).ann[g].ref = some q := by
      rw [decideGroup_ann, getElem_set_fin, if_pos rfl]
      exact hq
    have hlist : (findRecord q (decideGroup g s).recorder.list).isSome = true := by
      rw [decideGroup_recorder hq]
      exact (findRecord_updRecord keepsRecord_firstOut q q _).trans hfound
    obtain ⟨r, hr⟩ := Option.isSome_iff_exists.mp hlist
    have hlive' : live (decideGroup g s) = true := (live_congr (hd.supply (by decide))).trans hlive
    rw [firstOutNotice, href, Option.bind_some, hr, ← hd.resp (by decide)]
    exact notice_noticeNo _ _ hlive'

/-- A group is left SETTLING beside the one decided. -/
theorem anySettling_announced {g : Fin 16} {s t : State} (h : Announced g s t) :
    anySettling t = true ↔ ∃ j : Fin 16, j ≠ g ∧ s.ann[j].state = .settling := by
  rw [anySettling_iff, h.ann]
  refine exists_congr fun j => ?_
  rw [getElem_set_fin]
  split
  next hj => simp [hj]
  next hj => simp [hj]

theorem settleDue_of {s : State} {g : Fin 16} {d : Instant} (hrun : s.supply.state = .run)
    (hset : s.ann[g].state = .settling) (hd : s.ann[g].deadline = some d) (hreach : reached d s.now = true) :
    settleDue g s = true := by
  simp only [settleDue, runs, hrun, hset, hd, hreach, beq_self_eq_true, Bool.and_self]

/-- Settles O25: decided, named in its notice, and delivered to the shift unit, which completes a held accept. -/
theorem settleDeadline : Obligations.SettleDeadline := by
  intro s g d q a hrun hset hd hreach hq
  have hexec : exec (.settleDeadline g) s = .next (groupDecides g s) :=
    congrArg Host.Outcome.next (if_pos (settleDue_of hrun hset hd hreach))
  have hann := decideGroup_announced g s
  have hsettle := anySettling_announced hann
  have hshiftDec := only_shiftDecision g (firstOutNotice g (decideGroup g s))
  refine ⟨_, hexec, ?_⟩
  unfold groupDecides
  generalize hn : firstOutNotice g (decideGroup g s) = n at hann hsettle hshiftDec
  obtain ⟨hann, hrec, hdec, hno, honly⟩ := hann
  have hshift : n.shift = s.shift := honly.shift (by decide)
  have hcnt : n.cnt.shift = s.cnt.shift := honly.nShift (by decide)
  refine ⟨?_, fun j hj => ?_, ?_, ?_, fun hst => ?_, fun hst ha hothers => ?_, fun hst hother => ?_,
    (honly.mono (by decide)).trans (hshiftDec.mono (by decide))⟩
  · rw [hshiftDec.ann (by decide), hann, getElem_set_fin, if_pos rfl]
  · rw [hshiftDec.ann (by decide), hann, getElem_set_fin, if_neg hj]
  · rw [hshiftDec.recorder (by decide), hrec q hq]
  · rw [hshiftDec.nAnn (by decide), hdec]
  · rw [shiftDecision_quiet (hshift ▸ hst)]
    refine ⟨?_, fun hlive hfound => hno hlive ⟨q, hq, hfound⟩⟩
    rw [groupAdded, hshift]
  · have hnone : anySettling n = false := by
      rw [← Bool.not_eq_true, hsettle]
      rintro ⟨j, hj, hs⟩
      exact hothers j hj hs
    rw [shiftDecision_completes (hshift ▸ hst) (hshift ▸ ha) hnone]
    obtain ⟨hsh, hopen, -, -, hc, -, -⟩ := report_completes a (groupAdded g n) _ rfl
    rw [hopen, hsh, hc]
    refine ⟨rfl, ?_, rfl, rfl, ?_⟩
    · show n.shift.openRec.number + 1 = _
      rw [hshift]
    · show n.cnt.shift.completed + 1 = _
      rw [hcnt]
  · rw [shiftDecision_settling (hsettle.mpr hother), groupAdded, hshift]
    exact ⟨hst, rfl⟩

/-! ### The operators' requests -/

theorem groupOf_val (g : Fin 16) : groupOf g.val = some g := by simp [groupOf]

theorem groupOf_none {n : Nat} (h : 15 < n) : groupOf n = none := by
  unfold groupOf
  split
  · omega
  · rfl

theorem rd_group (g : Fin 16) (l : List Byte) : rd 1 (BitVec.ofNat 8 g.val :: l) = some (g.val, l) := by
  rw [rd_one, BitVec.toNat_ofNat, Nat.mod_eq_of_lt (by omega)]

theorem be_one_ofNat (n : Nat) : be 1 n = [BitVec.ofNat 8 n] := by simp [be]

theorem ackGroup_eq (g : Fin 16) (s : State) : ackGroup g s = acknowledged g s := rfl

/-- Settles O26: by the state of the group. -/
theorem ackGroup : Obligations.AckGroup := by
  intro s h g n pad ha
  refine ⟨fun hst => congrArg Host.Outcome.next ?_, fun hst => congrArg Host.Outcome.next ?_,
    fun hn => congrArg Host.Outcome.next ?_⟩
  · refine command_answered (st := .ok) ha operator_authority ?_ rfl
    simp only [opAckGroup, rd_group, groupOf_val]
    exact if_pos hst
  · refine command_refused (st := .notAnnounced) ha operator_authority ?_ rfl
    simp only [opAckGroup, rd_group, groupOf_val]
    exact if_neg hst
  · refine command_refused (st := .badValue) ha operator_authority ?_ rfl
    simp only [opAckGroup, rd_one, groupOf_none hn]

/-- Settles O27: the first ANNOUNCED group, or none. -/
theorem ackNext : Obligations.AckNext := by
  intro s h g body ha
  refine ⟨fun hst hmin => congrArg Host.Outcome.next ?_, fun hnone => congrArg Host.Outcome.next ?_⟩
  · have hg := (highestAnnounced_eq_some (taken s) g).mpr ⟨hst, hmin⟩
    refine command_answered (st := .ok) ha operator_authority ?_ rfl
    simp only [opAckNext, hg, be_one_ofNat, ackGroup_eq]
  · have hg : (highestAnnounced (taken s)).bind groupOf = none :=
      Option.eq_none_iff_forall_ne_some.mpr fun j hj => hnone j ((highestAnnounced_eq_some (taken s) j).mp hj).1
    refine command_refused (st := .nothingToAck) ha operator_authority ?_ rfl
    simp only [opAckNext, hg]

/-- A reset group, its GROUP notice written out (R116, R119). -/
theorem resetGroup_eq (g : Fin 16) (s : State) : Machine.resetGroup g s
    = notice 0x82 (be 1 g.val ++ [0, 1, 0, 0, 0, 0, 0, 0, 0, 1])
      { s with
        ann := s.ann.set g { s.ann[g] with state := .quiet, ref := none, trips := 0, lost := false }
        cnt.ann.reset := s.cnt.ann.reset + 1 } := by
  have hbody (x : Group) : groupBody g { x with state := .quiet, ref := none, trips := 0, lost := false } 1
      = be 1 g.val ++ [0, 1, 0, 0, 0, 0, 0, 0, 0, 1] := by
    simp only [groupBody, List.append_assoc]
    rfl
  unfold Machine.resetGroup
  exact congrArg (fun b => notice 0x82 b _) (hbody s.ann[g])

/-- Settles O28: by the state of the group. -/
theorem resetGroup : Obligations.ResetGroup := by
  intro s h g n pad ha
  refine ⟨fun hst => congrArg Host.Outcome.next ?_, fun hst => congrArg Host.Outcome.next ?_,
    fun hst => congrArg Host.Outcome.next ?_, fun hst => congrArg Host.Outcome.next ?_,
    fun hn => congrArg Host.Outcome.next ?_⟩
  · refine command_answered (st := .ok) ha operator_authority ?_ rfl
    have hst' : (taken s).ann[g].state = .quiet := hst
    simp only [opResetGroup, rd_group, groupOf_val, hst']
    rfl
  · refine command_refused (st := .settling) ha operator_authority ?_ rfl
    have hst' : (taken s).ann[g].state = .settling := hst
    simp only [opResetGroup, rd_group, groupOf_val, hst']
  · refine command_refused (st := .notAcked) ha operator_authority ?_ rfl
    have hst' : (taken s).ann[g].state = .announced := hst
    simp only [opResetGroup, rd_group, groupOf_val, hst']
  · refine command_answered (st := .ok) ha operator_authority ?_ rfl
    have hst' : (taken s).ann[g].state = .acked := hst
    simp only [opResetGroup, rd_group, groupOf_val, hst', resetGroup_eq]
    rfl
  · refine command_refused (st := .badValue) ha operator_authority ?_ rfl
    simp only [opResetGroup, rd_one, groupOf_none hn]

theorem setMaskBit_getLsbD (m : BitVec 16) (g j : Fin 16) (b : Bool) :
    (setMaskBit m g b).getLsbD j.val = if j = g then b else m.getLsbD j.val := by
  have hbit := oneBit_getLsbD g.val j.val j.isLt
  have hgj : (g.val == j.val) = decide (j = g) := by
    rw [Bool.eq_iff_iff, beq_iff_eq, decide_eq_true_eq, eq_comm, Fin.ext_iff]
  unfold setMaskBit
  cases b
  · rw [if_neg Bool.false_ne_true, BitVec.getLsbD_and, BitVec.getLsbD_not, hbit, hgj, decide_eq_true j.isLt]
    by_cases h : j = g <;> simp [h]
  · rw [if_pos rfl, BitVec.getLsbD_or, hbit, hgj]
    by_cases h : j = g <;> simp [h]

theorem setMaskBit_eq {m masks : BitVec 16} {g : Fin 16} {b : Bool}
    (h : ∀ j : Fin 16, m.getLsbD j.val = if j = g then b else masks.getLsbD j.val) : setMaskBit masks g b = m :=
  BitVec.eq_of_getLsbD_eq fun i hi => (setMaskBit_getLsbD masks g ⟨i, hi⟩ b).trans (h ⟨i, hi⟩).symm

theorem rd_two (x y : Byte) (l : List Byte) : rd 2 (x :: y :: l) = some (x.toNat * 256 + y.toNat, l) := by
  simp [rd, ofBe]

theorem firstIsTrue_none {n : Nat} (h : 1 < n) : firstIsTrue n = none := by
  unfold firstIsTrue
  split
  case h_3 => rfl
  all_goals omega

/-- Settles O29: the mask set, or the request refused. -/
theorem setMask : Obligations.SetMask := by
  intro s h g masked m n v pad ⟨ha, hcom⟩
  refine ⟨fun hm => congrArg Host.Outcome.next ?_, fun hbad => congrArg Host.Outcome.next ?_⟩
  · refine command_answered (st := .ok) ha (fun _ => hcom) ?_ rfl
    have hdiv : (g.val * 256 + (if masked then (0 : Byte) else 1).toNat) / 256 = g.val := by
      cases masked <;> simp
      omega
    have hmod : firstIsTrue ((g.val * 256 + (if masked then (0 : Byte) else 1).toNat) % 256) = some masked := by
      cases masked <;> simp [firstIsTrue]
    simp only [opSetMask, rd_two, BitVec.toNat_ofNat, Nat.mod_eq_of_lt (show g.val < 2 ^ 8 by omega), hdiv, hmod,
      groupOf_val]
    rw [show setMaskBit (taken s).cfg.masks g masked = m from setMaskBit_eq hm]
    rfl
  · refine command_refused (st := .badValue) ha (fun _ => hcom) ?_ rfl
    have hv : v.toNat < 256 := v.isLt
    have hdiv : (n.toNat * 256 + v.toNat) / 256 = n.toNat := by omega
    have hmod : (n.toNat * 256 + v.toNat) % 256 = v.toNat := by omega
    simp only [opSetMask, rd_two, hdiv, hmod]
    rcases hbad with hn | hm
    · rw [groupOf_none hn]
    · rw [firstIsTrue_none hm]
      cases groupOf n.toNat <;> rfl

end Sys2Proof.Proofs
end

section
/-! SUPPORT. The schedule and one run of an examiner (R33 to R37). -/

namespace Sys2Proof.Proofs

open Sys2Proof Sys2Proof.Machine Sys2Proof.Safety

theorem hits_iff (e : ScheduleEntry) (m : Int) : e.hits m = true ↔ matchesMinute e m := by
  have hday : weekdayOf (m / 1440) - 1 = ((m / 1440 + 5) % 7).toNat := rfl
  have hhour : (m % 1440).toNat / 60 = (m % 1440 / 60).toNat := by omega
  have hminute : (m % 1440).toNat % 60 = (m % 1440 % 60).toNat := by omega
  unfold ScheduleEntry.hits matchesMinute
  dsimp only
  rw [hday, hhour, hminute]
  simp only [Bool.and_eq_true, Bool.or_eq_true, beq_iff_eq, and_assoc]

/-! ### The match of lowest index in a minute -/

/-- The entry is the match of lowest index in that minute. -/
def lowestAt (es : Vector ScheduleEntry 8) (m : Int) (e : Fin 8) : Prop :=
  matchesMinute es[e] m ∧ ∀ j : Fin 8, j < e → ¬matchesMinute es[j] m

theorem matchAt_eq (es : Vector ScheduleEntry 8) (m : Int) :
    matchAt es m = ((List.finRange 8).find? (fun i => es[i].hits m)).map (fun i => (i, es[i].crew)) := rfl

theorem matchAt_eq_some (es : Vector ScheduleEntry 8) (m : Int) (e : Fin 8) (c : Nat) :
    matchAt es m = some (e, c) ↔ lowestAt es m e ∧ c = es[e].crew := by
  have hfind : (List.finRange 8).find? (fun i => es[i].hits m) = some e ↔ lowestAt es m e := by
    rw [List.find?_eq_some_iff_getElem]
    simp only [List.length_finRange, List.getElem_finRange, hits_iff, Bool.not_eq_true', lowestAt]
    refine and_congr_right fun _ => ⟨?_, fun hlow => ?_⟩
    · rintro ⟨i, hi, rfl, hlow⟩ j hj hm
      exact absurd ((hits_iff _ _).mpr hm) (by simpa using hlow j.val hj)
    · refine ⟨e.val, e.isLt, rfl, fun j hj => ?_⟩
      exact Bool.eq_false_iff.mpr fun hh => hlow ⟨j, by omega⟩ hj ((hits_iff _ _).mp hh)
  rw [matchAt_eq, Option.map_eq_some_iff]
  constructor
  · rintro ⟨i, hi, hc⟩
    obtain ⟨rfl, rfl⟩ := Prod.mk.inj hc
    exact ⟨hfind.mp hi, rfl⟩
  · rintro ⟨hlow, rfl⟩
    exact ⟨e, hfind.mpr hlow, rfl⟩

theorem matchAt_eq_none (es : Vector ScheduleEntry 8) (m : Int) :
    matchAt es m = none ↔ ∀ j : Fin 8, ¬matchesMinute es[j] m := by
  rw [matchAt_eq, Option.map_eq_none_iff, List.find?_eq_none]
  simp only [List.mem_finRange, true_implies, hits_iff]

/-! ### The latest match of a span -/

/-- The entry is the lowest match of the latest matching minute in `(l, n]`. -/
def latestIn (es : Vector ScheduleEntry 8) (l n : Int) (e : Fin 8) : Prop :=
  ∃ m, l < m ∧ m ≤ n ∧ lowestAt es m e ∧ ∀ (k : Int) (j : Fin 8), m < k → k ≤ n → ¬matchesMinute es[j] k

theorem fires_iff (es : Vector ScheduleEntry 8) (l n : Int) (e : Fin 8) :
    fires es l n e ↔ n - l ≤ 1440 ∧ latestIn es l n e := by
  simp only [fires, latestIn, lowestAt, and_assoc]

theorem latestMatch_eq_some (es : Vector ScheduleEntry 8) (e : Fin 8) (c : Nat) : ∀ (k : Nat) (n : Int),
    latestMatch es k n = some (e, c) ↔ latestIn es (n - k) n e ∧ c = es[e].crew
  | 0, n => by
    constructor
    · intro h
      cases h
    · rintro ⟨⟨m, hlo, hhi, -⟩, -⟩
      omega
  | k + 1, n => by
    rw [latestMatch]
    cases h : matchAt es n with
    | some r =>
      obtain ⟨i, x⟩ := r
      obtain ⟨hlow, rfl⟩ := (matchAt_eq_some es n i x).mp h
      dsimp only
      constructor
      · intro heq
        obtain ⟨rfl, rfl⟩ := Prod.mk.inj (Option.some.inj heq)
        exact ⟨⟨n, by omega, le_rfl, hlow, fun k j hk hk' => absurd hk (not_lt.mpr hk')⟩, rfl⟩
      · rintro ⟨⟨m, -, hhi, hlow', hlater⟩, rfl⟩
        rcases hhi.lt_or_eq with hlt | rfl
        · exact absurd hlow.1 (hlater n i hlt le_rfl)
        · rcases lt_trichotomy i e with hie | rfl | hie
          · exact absurd hlow.1 (hlow'.2 i hie)
          · rfl
          · exact absurd hlow'.1 (hlow.2 e hie)
    | none =>
      have hnone := (matchAt_eq_none es n).mp h
      dsimp only
      rw [latestMatch_eq_some es e c k (n - 1)]
      refine and_congr_left fun _ => exists_congr fun m => ?_
      constructor
      · rintro ⟨hlo, hhi, hlow, hlater⟩
        refine ⟨by omega, by omega, hlow, fun i j hi hi' => ?_⟩
        rcases hi'.lt_or_eq with hlt | rfl
        · exact hlater i j hi (by omega)
        · exact hnone j
      · rintro ⟨hlo, hhi, hlow, hlater⟩
        have hmn : m ≠ n := by
          rintro rfl
          exact hnone e hlow.1
        exact ⟨by omega, by omega, hlow, fun i j hi hi' => hlater i j hi (by omega)⟩

/-! ### One run of an examiner -/

/-- The last minute advances to the index and never goes back. -/
theorem examine_last (es : Vector ScheduleEntry 8) (last : Option Int) (n : Int) :
    some (examine es last n).1 = lastMinute last n := by
  cases last with
  | none => rfl
  | some l =>
    simp only [examine, lastMinute, Option.elim]
    split_ifs
    · rw [max_eq_left (by omega)]
    · rw [max_eq_right (by omega)]
    · rw [max_eq_right (by omega)]

/-- A span above 1,440 minutes is skipped. -/
theorem examine_skip (es : Vector ScheduleEntry 8) (last : Option Int) (n : Int) :
    (examine es last n).2.2 = last.any (fun l => 1440 < n - l) := by
  cases last with
  | none => rfl
  | some l =>
    simp only [examine, Option.any_some]
    split_ifs
    · exact (decide_eq_false (by omega)).symm
    · exact (decide_eq_false (by omega)).symm
    · exact (decide_eq_true (by omega)).symm

/-- The match that one run fires. -/
theorem examine_fires (es : Vector ScheduleEntry 8) (last : Option Int) (n : Int) (e : Fin 8) (c : Nat) :
    (examine es last n).2.1 = some (e, c) ↔ (∃ l, last = some l ∧ fires es l n e) ∧ c = es[e].crew := by
  cases last with
  | none => simp [examine]
  | some l =>
    have hsome : (∃ x, some l = some x ∧ fires es x n e) ↔ fires es l n e := by simp
    rw [hsome, fires_iff]
    simp only [examine]
    split_ifs with hback hspan
    · refine iff_of_false nofun ?_
      rintro ⟨⟨-, m, hlo, hhi, -⟩, -⟩
      omega
    · have hk : n - ((n - l).toNat : Int) = l := by omega
      rw [latestMatch_eq_some, hk]
      exact and_congr_left fun _ => (and_iff_right hspan).symm
    · exact iff_of_false nofun fun h => hspan h.1.1

theorem examine_fires_none (es : Vector ScheduleEntry 8) (last : Option Int) (n : Int) :
    (examine es last n).2.1 = none ↔ ∀ l e, last = some l → ¬fires es l n e := by
  rw [Option.eq_none_iff_forall_ne_some]
  constructor
  · intro h l e hl hf
    exact h (e, es[e].crew) ((examine_fires es last n e _).mpr ⟨⟨l, hl, hf⟩, rfl⟩)
  · rintro h ⟨e, c⟩ heq
    obtain ⟨⟨l, hl, hf⟩, -⟩ := (examine_fires es last n e c).mp heq
    exact h l e hl hf

end Sys2Proof.Proofs
end

section
/-! SUPPORT. The examiners on the state, and the events the shift unit takes from them (R31, R34 to R37, R149, R150). -/

namespace Sys2Proof.Proofs

open Sys2Proof Sys2Proof.Machine Sys2Proof.Safety

/-! ### Events taken by the shift unit -/

theorem dueTaken_opens (u : ShiftUnit) (e : Fin 8) (crew : Nat) (d : Elapsed)
    (h : u.state = .onShift ∨ u.state = .due) : dueTaken u e crew d = u.opensWindow e crew d .window := by
  rcases h with h | h <;> simp only [dueTaken, h, ShiftUnit.opensWindow]

theorem dueTaken_window (u : ShiftUnit) (e : Fin 8) (crew : Nat) (d : Elapsed) (h : u.state = .window) :
    dueTaken u e crew d = u.replacesCrew e crew := by simp only [dueTaken, h, ShiftUnit.replacesCrew]

theorem dueTaken_offered (u : ShiftUnit) (e : Fin 8) (crew : Nat) (d : Elapsed) (h : u.state = .offered) :
    dueTaken u e crew d
      = if u.expected.isSome then u.replacesCrew e crew else u.opensWindow e crew d .offered := by
  simp only [dueTaken, h, ShiftUnit.replacesCrew, ShiftUnit.opensWindow]

theorem dueTaken_held (u : ShiftUnit) (e : Fin 8) (crew : Nat) (d : Elapsed) (h : u.state = .acceptHeld) :
    dueTaken u e crew d = u := by simp only [dueTaken, h]

/-- A due event is taken and named in a notice, or ignored while an accept is held (R150). -/
theorem shiftDue_eq (e : Fin 8) (crew : Nat) (s : State) :
    shiftDue e crew s = if s.shift.state = .acceptHeld then s else handoverNotice .due none
      { s with shift := dueTaken s.shift e crew (s.clock.m + BitVec.ofNat 48 (s.cfg.overdueLen * 60000)) } := by
  cases hst : s.shift.state with
  | onShift => simp only [shiftDue, hst, dueTaken_opens _ e crew _ (.inl hst), reduceCtorEq, if_false, afterMinutes]
  | due => simp only [shiftDue, hst, dueTaken_opens _ e crew _ (.inr hst), reduceCtorEq, if_false, afterMinutes]
  | window => simp only [shiftDue, hst, dueTaken_window _ e crew _ hst, reduceCtorEq, if_false]
  | offered =>
    simp only [shiftDue, hst, dueTaken_offered _ e crew _ hst, reduceCtorEq, if_false, afterMinutes]
    split <;> rfl
  | acceptHeld => simp only [shiftDue, hst, if_true]

/-- What the shift unit leaves of a due event. -/
theorem shiftDue_spec (e : Fin 8) (crew : Nat) (s t : State) (ht : t = shiftDue e crew s) :
    t.shift = dueTaken s.shift e crew (s.clock.m + BitVec.ofNat 48 (s.cfg.overdueLen * 60000))
      ∧ (live s = true → t.resp.noticeNo = s.resp.noticeNo + (if s.shift.state = .acceptHeld then 0 else 1)) := by
  rw [shiftDue_eq] at ht
  split at ht
  next hst =>
    subst ht
    rw [dueTaken_held _ e crew _ hst, if_pos hst]
    exact ⟨rfl, fun _ => (BitVec.add_zero _).symm⟩
  next hst =>
    generalize dueTaken s.shift e crew (s.clock.m + BitVec.ofNat 48 (s.cfg.overdueLen * 60000)) = u at ht ⊢
    have hn := only_handoverNotice .due none { s with shift := u }
    have hno (hlive : live s = true) := handoverNotice_noticeNo .due none (s := { s with shift := u }) hlive
    rw [← ht] at hn hno
    rw [if_neg hst]
    exact ⟨hn.shift (by decide), hno⟩

theorem dueTaken_state (u : ShiftUnit) (e : Fin 8) (crew : Nat) (d : Elapsed) :
    (dueTaken u e crew d).state ≠ .onShift := by
  unfold dueTaken
  split
  case h_1 => exact nofun
  case h_2 => exact nofun
  case h_3 h => exact fun hc => nomatch h.symm.trans hc
  case h_4 h =>
    split
    · exact fun hc => nomatch h.symm.trans hc
    · exact fun hc => nomatch h.symm.trans hc
  case h_5 h => exact fun hc => nomatch h.symm.trans hc

/-- What the shift unit leaves of a warning event, which it takes in ON_SHIFT alone. -/
theorem shiftWarning_spec (e : Fin 8) (crew : Nat) (s t : State) (ht : t = shiftWarning e crew s) :
    (s.shift.state = .onShift → t.shift = { s.shift with warned := some (e, crew), state := .due }
        ∧ (live s = true → t.resp.noticeNo = s.resp.noticeNo + 1))
      ∧ (s.shift.state ≠ .onShift → t = s) := by
  refine ⟨fun hst => ?_, fun hst => ht.trans (if_neg hst)⟩
  rw [shiftWarning, if_pos hst] at ht
  have hn := only_handoverNotice .warning none { s with shift.warned := some (e, crew), shift.state := .due }
  have hno (hlive : live s = true) := handoverNotice_noticeNo .warning none
    (s := { s with shift.warned := some (e, crew), shift.state := .due }) hlive
  rw [← ht] at hn hno
  exact ⟨hn.shift (by decide), hno⟩

/-! ### The examiners -/

/-- What one run of the due examiner leaves. -/
structure DueRan (n : Int) (s t : State) : Prop where
  last : t.cal.lastDue = lastMinute s.cal.lastDue n
  cal : t.cal = { s.cal with lastDue := t.cal.lastDue }
  skip : t.cnt.cal.scheduleSkip = s.cnt.cal.scheduleSkip + (if s.cal.lastDue.any (fun l => 1440 < n - l) then 1 else 0)
  cnt : t.cnt.cal = { s.cnt.cal with scheduleSkip := t.cnt.cal.scheduleSkip, dueFired := t.cnt.cal.dueFired }
  fired : ∀ l e, s.cal.lastDue = some l → fires s.cfg.cal.entries l n e →
    t.cnt.cal.dueFired = s.cnt.cal.dueFired + 1
      ∧ t.shift = dueTaken s.shift e s.cfg.cal.entries[e].crew
          (s.clock.m + BitVec.ofNat 48 (s.cfg.overdueLen * 60000))
      ∧ (live s = true → t.resp.noticeNo = s.resp.noticeNo + (if s.shift.state = .acceptHeld then 0 else 1))
  quiet : (∀ l e, s.cal.lastDue = some l → ¬fires s.cfg.cal.entries l n e) →
    t.cnt.cal.dueFired = s.cnt.cal.dueFired ∧ t.shift = s.shift ∧ t.resp.noticeNo = s.resp.noticeNo

theorem runDue_ran (s : State) : DueRan (presentMinute s) s (runDue s) := by
  have hlast := examine_last s.cfg.cal.entries s.cal.lastDue (presentMinute s)
  have hskip := examine_skip s.cfg.cal.entries s.cal.lastDue (presentMinute s)
  have hfires := examine_fires s.cfg.cal.entries s.cal.lastDue (presentMinute s)
  have hnone := examine_fires_none s.cfg.cal.entries s.cal.lastDue (presentMinute s)
  unfold runDue
  generalize examine s.cfg.cal.entries s.cal.lastDue (presentMinute s) = r at hlast hskip hfires hnone
  obtain ⟨last, match_, skip⟩ := r
  dsimp only at hlast hskip hfires hnone ⊢
  generalize hu : (if skip = true then State.countCal { s with cal.lastDue := some last }
      (fun c => { c with scheduleSkip := c.scheduleSkip + 1 }) else { s with cal.lastDue := some last }) = u
  have hu' : u = { s with
      cal.lastDue := some last
      cnt.cal.scheduleSkip := s.cnt.cal.scheduleSkip + (if skip = true then 1 else 0) } := by
    rw [← hu]
    cases skip
    · simp
    · rfl
  rw [hlast, hskip] at hu'
  cases match_ with
  | none =>
    dsimp only
    rw [hu']
    refine ⟨rfl, rfl, rfl, rfl, fun l e hl hf => absurd hf (hnone.mp rfl l e hl), fun _ => ⟨rfl, rfl, rfl⟩⟩
  | some p =>
    obtain ⟨e, c⟩ := p
    obtain ⟨⟨l, hl, hf⟩, rfl⟩ := (hfires e c).mp rfl
    dsimp only
    obtain ⟨hshift, hno⟩ := shiftDue_spec e s.cfg.cal.entries[e].crew
      (u.countCal (fun c => { c with dueFired := c.dueFired + 1 })) _ rfl
    have honly := only_shiftDue e s.cfg.cal.entries[e].crew (u.countCal (fun c => { c with dueFired := c.dueFired + 1 }))
    generalize shiftDue e s.cfg.cal.entries[e].crew (u.countCal (fun c => { c with dueFired := c.dueFired + 1 })) = t
      at hshift hno honly
    have hcal : t.cal = u.cal := honly.cal (by decide)
    have hcnt : t.cnt.cal = { u.cnt.cal with dueFired := u.cnt.cal.dueFired + 1 } := honly.nCal (by decide)
    refine ⟨by rw [hcal, hu'], by rw [hcal, hu'], by rw [hcnt, hu'], by rw [hcnt, hu'], fun l' e' hl' hf' => ?_,
      fun h => absurd hf (h l e hl)⟩
    obtain ⟨rfl, -⟩ := Prod.mk.inj (Option.some.inj ((hfires e' s.cfg.cal.entries[e'].crew).mpr ⟨⟨l', hl', hf'⟩, rfl⟩))
    refine ⟨by rw [hcnt, hu'], hshift.trans ?_, fun hlive => (hno ?_).trans ?_⟩
    · rw [hu']
      rfl
    · rw [hu']
      exact hlive
    · rw [hu']
      rfl

/-- What one run of the warning examiner leaves. -/
structure WarnRan (n : Int) (s t : State) : Prop where
  last : t.cal.lastWarn = (if s.cfg.cal.lead = 0 then none else lastMinute s.cal.lastWarn n)
  cal : t.cal = { s.cal with lastWarn := t.cal.lastWarn }
  skip : t.cnt.cal.warningSkip = s.cnt.cal.warningSkip
    + (if s.cfg.cal.lead ≠ 0 ∧ s.cal.lastWarn.any (fun w => 1440 < n - w) = true then 1 else 0)
  cnt : t.cnt.cal = { s.cnt.cal with warningSkip := t.cnt.cal.warningSkip, warningFired := t.cnt.cal.warningFired }
  fired : ∀ w e, s.cfg.cal.lead ≠ 0 → s.cal.lastWarn = some w → fires s.cfg.cal.entries w n e →
    t.cnt.cal.warningFired = s.cnt.cal.warningFired + 1
      ∧ (s.shift.state = .onShift →
          t.shift = { s.shift with warned := some (e, s.cfg.cal.entries[e].crew), state := .due }
            ∧ (live s = true → t.resp.noticeNo = s.resp.noticeNo + 1))
  quiet : (∀ w e, s.cfg.cal.lead ≠ 0 → s.cal.lastWarn = some w → ¬fires s.cfg.cal.entries w n e) →
    t.cnt.cal.warningFired = s.cnt.cal.warningFired ∧ t.shift = s.shift ∧ t.resp.noticeNo = s.resp.noticeNo
  stays : s.shift.state ≠ .onShift → t.shift = s.shift ∧ t.resp.noticeNo = s.resp.noticeNo

/-- With a lead of 0 the warning examiner does not run (R37). -/
theorem warnRan_zero (n : Int) (s : State) (h : s.cfg.cal.lead = 0) :
    WarnRan n s { s with cal := { s.cal with lastWarn := none } } := by
  refine ⟨(if_pos h).symm, rfl, ?_, rfl, fun w e hne => absurd h hne, fun _ => ⟨rfl, rfl, rfl⟩, fun _ => ⟨rfl, rfl⟩⟩
  rw [if_neg (fun hc => hc.1 h)]
  exact (BitVec.add_zero _).symm

theorem runWarning_ran (s : State) : WarnRan (presentMinute s + s.cfg.cal.lead) s (runWarning s) := by
  unfold runWarning
  split
  next h => exact warnRan_zero _ s h
  next hlead =>
    generalize presentMinute s + s.cfg.cal.lead = n
    have hlast := examine_last s.cfg.cal.entries s.cal.lastWarn n
    have hskip := examine_skip s.cfg.cal.entries s.cal.lastWarn n
    have hfires := examine_fires s.cfg.cal.entries s.cal.lastWarn n
    have hnone := examine_fires_none s.cfg.cal.entries s.cal.lastWarn n
    generalize examine s.cfg.cal.entries s.cal.lastWarn n = r at hlast hskip hfires hnone
    obtain ⟨last, match_, skip⟩ := r
    dsimp only at hlast hskip hfires hnone ⊢
    generalize hu : (if skip = true then State.countCal { s with cal.lastWarn := some last }
        (fun c => { c with warningSkip := c.warningSkip + 1 }) else { s with cal.lastWarn := some last }) = u
    have hu' : u = { s with
        cal.lastWarn := some last
        cnt.cal.warningSkip := s.cnt.cal.warningSkip + (if skip = true then 1 else 0) } := by
      rw [← hu]
      cases skip
      · simp
      · rfl
    have hcond : (if s.cfg.cal.lead ≠ 0 ∧ s.cal.lastWarn.any (fun w => 1440 < n - w) = true then (1 : Count) else 0)
        = if skip = true then 1 else 0 := by
      rw [hskip]
      exact if_congr (and_iff_right hlead) rfl rfl
    rw [hlast] at hu'
    cases match_ with
    | none =>
      dsimp only
      rw [hu']
      exact ⟨(if_neg hlead).symm, rfl, congrArg (s.cnt.cal.warningSkip + ·) hcond.symm, rfl,
        fun w e _ hw hf => absurd hf (hnone.mp rfl w e hw), fun _ => ⟨rfl, rfl, rfl⟩, fun _ => ⟨rfl, rfl⟩⟩
    | some p =>
      obtain ⟨e, c⟩ := p
      obtain ⟨⟨w, hw, hf⟩, rfl⟩ := (hfires e c).mp rfl
      dsimp only
      obtain ⟨htaken, hignored⟩ := shiftWarning_spec e s.cfg.cal.entries[e].crew
        (u.countCal (fun c => { c with warningFired := c.warningFired + 1 })) _ rfl
      have honly := only_shiftWarning e s.cfg.cal.entries[e].crew
        (u.countCal (fun c => { c with warningFired := c.warningFired + 1 }))
      generalize shiftWarning e s.cfg.cal.entries[e].crew
        (u.countCal (fun c => { c with warningFired := c.warningFired + 1 })) = t at htaken hignored honly
      have hcal : t.cal = u.cal := honly.cal (by decide)
      have hcnt : t.cnt.cal = { u.cnt.cal with warningFired := u.cnt.cal.warningFired + 1 } := honly.nCal (by decide)
      have hus : u.shift = s.shift ∧ u.resp = s.resp ∧ live u = live s := by
        rw [hu']
        exact ⟨rfl, rfl, rfl⟩
      refine ⟨by rw [hcal, hu', if_neg hlead], by rw [hcal, hu'], by rw [hcnt, hu', hcond], by rw [hcnt, hu'],
        fun w' e' _ hw' hf' => ?_, fun h => absurd hf (h w e hlead hw), fun hst => ?_⟩
      · obtain ⟨rfl, -⟩ := Prod.mk.inj (Option.some.inj ((hfires e' s.cfg.cal.entries[e'].crew).mpr ⟨⟨w', hw', hf'⟩, rfl⟩))
        refine ⟨by rw [hcnt, hu'], fun hst => ?_⟩
        obtain ⟨hshift, hno⟩ := htaken (hus.1 ▸ hst)
        refine ⟨hshift.trans ?_, fun hlive => (hno (hus.2.2.trans hlive)).trans ?_⟩
        · exact congrArg (fun x : ShiftUnit => { x with warned := some (e, s.cfg.cal.entries[e].crew), state := .due }) hus.1
        · exact congrArg (fun r : Responder => r.noticeNo + 1) hus.2.1
      · rw [hignored (hus.1 ▸ hst)]
        exact ⟨hus.1, congrArg Responder.noticeNo hus.2.1⟩

/-- What both examiners leave, the due examiner first (R34 to R37, R149, R150). -/
structure ExaminersRan (n : Int) (s t : State) : Prop where
  lastDue : t.cal.lastDue = lastMinute s.cal.lastDue n
  lastWarn : t.cal.lastWarn = (if s.cfg.cal.lead = 0 then none else lastMinute s.cal.lastWarn (n + s.cfg.cal.lead))
  dueSkip : t.cnt.cal.scheduleSkip
    = s.cnt.cal.scheduleSkip + (if s.cal.lastDue.any (fun l => 1440 < n - l) then 1 else 0)
  warnSkip : t.cnt.cal.warningSkip = s.cnt.cal.warningSkip
    + (if s.cfg.cal.lead ≠ 0 ∧ s.cal.lastWarn.any (fun w => 1440 < n + s.cfg.cal.lead - w) = true then 1 else 0)
  due : ∀ l e, s.cal.lastDue = some l → fires s.cfg.cal.entries l n e →
    t.cnt.cal.dueFired = s.cnt.cal.dueFired + 1
      ∧ t.shift = dueTaken s.shift e s.cfg.cal.entries[e].crew
          (s.clock.m + BitVec.ofNat 48 (s.cfg.overdueLen * 60000))
      ∧ (live s = true → t.resp.noticeNo = s.resp.noticeNo + (if s.shift.state = .acceptHeld then 0 else 1))
  warning : ∀ w e, s.cfg.cal.lead ≠ 0 → s.cal.lastWarn = some w →
    fires s.cfg.cal.entries w (n + s.cfg.cal.lead) e →
    t.cnt.cal.warningFired = s.cnt.cal.warningFired + 1
      ∧ ((∀ l j, s.cal.lastDue = some l → ¬fires s.cfg.cal.entries l n j) → s.shift.state = .onShift →
          t.shift = { s.shift with warned := some (e, s.cfg.cal.entries[e].crew), state := .due }
            ∧ (live s = true → t.resp.noticeNo = s.resp.noticeNo + 1))
  noDue : (∀ l e, s.cal.lastDue = some l → ¬fires s.cfg.cal.entries l n e) →
    t.cnt.cal.dueFired = s.cnt.cal.dueFired
      ∧ (s.shift.state ≠ .onShift → t.shift = s.shift ∧ t.resp.noticeNo = s.resp.noticeNo)
  noWarning : (∀ w e, s.cfg.cal.lead ≠ 0 → s.cal.lastWarn = some w →
      ¬fires s.cfg.cal.entries w (n + s.cfg.cal.lead) e) →
    t.cnt.cal.warningFired = s.cnt.cal.warningFired
      ∧ ((∀ l e, s.cal.lastDue = some l → ¬fires s.cfg.cal.entries l n e) →
          t.shift = s.shift ∧ t.resp.noticeNo = s.resp.noticeNo)
  rest : t.cal.flag = s.cal.flag ∧ t.cal.fields = s.cal.fields ∧ t.cnt.cal.seasonSwitch = s.cnt.cal.seasonSwitch

theorem DueRan.then_warning {n : Int} {s d t : State} (hd : DueRan n s d) (honly : Only calParts s d)
    (hw : WarnRan (n + s.cfg.cal.lead) d t) : ExaminersRan n s t := by
  obtain ⟨hlast, hcal, hskip, hcnt, hfired, hquiet⟩ := hd
  obtain ⟨hlast', hcal', hskip', hcnt', hfired', hquiet', hstays⟩ := hw
  have hcfg : d.cfg = s.cfg := honly.cfg (by decide)
  have hlive : live d = live s := live_congr (honly.supply (by decide))
  have hwarn : d.cal.lastWarn = s.cal.lastWarn := by rw [hcal]
  have hskipc : d.cnt.cal.warningSkip = s.cnt.cal.warningSkip := by rw [hcnt]
  have hfiredc : d.cnt.cal.warningFired = s.cnt.cal.warningFired := by rw [hcnt]
  rw [hcfg, hwarn] at hlast' hskip' hfired' hquiet'
  refine ⟨by rw [hcal', hlast], hlast', by rw [hcnt', hskip], by rw [hskip', hskipc], fun l e hl hf => ?_,
    fun w e hlead hw' hf => ?_, fun hnone => ?_, fun hnone => ?_, ?_⟩
  · obtain ⟨hc, hshift, hno⟩ := hfired l e hl hf
    obtain ⟨hshift', hno'⟩ := hstays (hshift ▸ dueTaken_state _ _ _ _)
    exact ⟨by rw [hcnt', hc], hshift'.trans hshift, fun hl => hno'.trans (hno hl)⟩
  · obtain ⟨hc, hon⟩ := hfired' w e hlead hw' hf
    refine ⟨by rw [hc, hfiredc], fun hnone hst => ?_⟩
    obtain ⟨-, hshift, hno⟩ := hquiet hnone
    obtain ⟨hshift', hno'⟩ := hon (hshift ▸ hst)
    exact ⟨by rw [hshift', hshift], fun hl => by rw [hno' (hlive.trans hl), hno]⟩
  · obtain ⟨hc, hshift, hno⟩ := hquiet hnone
    refine ⟨by rw [hcnt', hc], fun hst => ?_⟩
    obtain ⟨hshift', hno'⟩ := hstays (hshift ▸ hst)
    exact ⟨hshift'.trans hshift, hno'.trans hno⟩
  · obtain ⟨hc, hshift', hno'⟩ := hquiet' hnone
    refine ⟨by rw [hc, hfiredc], fun hnone' => ?_⟩
    obtain ⟨-, hshift, hno⟩ := hquiet hnone'
    exact ⟨hshift'.trans hshift, hno'.trans hno⟩
  · exact ⟨by rw [hcal', hcal], by rw [hcal', hcal], by rw [hcnt', hcnt]⟩

theorem runExaminers_ran {s : State} (hu : s.clock.state ≠ .unset) :
    ExaminersRan (presentMinute s) s (runExaminers s) := by
  have honly := only_runDue s
  have hd := runDue_ran s
  have hw := runWarning_ran (runDue s)
  rw [runExaminers, if_neg hu]
  generalize runWarning (runDue s) = t at hw ⊢
  generalize runDue s = d at honly hd hw
  have hn : presentMinute d = presentMinute s := by
    rw [presentMinute, honly.cfg (by decide), honly.clock (by decide), presentMinute]
  rw [hn, honly.cfg (by decide)] at hw
  exact hd.then_warning honly hw

end Sys2Proof.Proofs
end

section
/-! SUPPORT. A second rollover at the eight lines (R171 to R173, R177). -/

namespace Sys2Proof.Proofs

open Sys2Proof Sys2Proof.Machine Sys2Proof.Safety

/-! ### What a rollover makes of one line -/

/-- A line after a second rollover: a SECOND_MARK line at rest begins its pulse, a slave line renews its target. -/
def lineAtRollover (s : State) (c : LineCfg) (l : Line) : Line :=
  if c.function = .secondMark then
    if s.clock.state = .unset ∨ l.pulse ≠ .rest then l
    else { l with pulse := .drive .a (s.clock.m + BitVec.ofNat 48 c.widthInForce) }
  else lineAtChange s c l

theorem lineRollover_line (i j : Fin 8) (s : State) : (lineRollover i s).lines[j] =
    if j = i then lineAtRollover s s.cfg.lines[i] s.lines[i] else s.lines[j] := by
  have hstay (h : s.clock.state = .unset ∨ s.lines[i].pulse ≠ .rest) (x : Line) : s.lines[j]
      = if j = i then (if s.clock.state = .unset ∨ s.lines[i].pulse ≠ .rest then s.lines[i] else x) else s.lines[j] := by
    rw [if_pos h]
    split
    next hj => rw [hj]
    next => rfl
  unfold lineRollover lineAtRollover
  split
  next =>
    split
    next hu => exact hstay (.inl hu) _
    next hu =>
      split
      next hp =>
        rw [beginPulse_line, if_neg (c := _ ∨ _) (by rw [hp]; exact not_or.mpr ⟨hu, not_not.mpr rfl⟩)]
      next hp => exact hstay (.inr (by rw [hp]; exact nofun)) _
      next hp => exact hstay (.inr (by rw [hp]; exact nofun)) _
  next => exact lineClockChange_line i j s

theorem oneLine_lineRollover : OneLine lineRollover where
  only := only_lineRollover
  others i j s h := by rw [lineRollover_line, if_neg h]
  own i s l n h := by
    rw [lineRollover_line, lineRollover_line, if_pos rfl, if_pos rfl]
    dsimp only
    rw [h]
    rfl

theorem linesRollover_line (i : Fin 8) (s : State) :
    (linesRollover s).lines[i] = lineAtRollover s s.cfg.lines[i] s.lines[i] := by
  rw [linesRollover, oneLine_lineRollover.all, lineRollover_line, if_pos rfl]

/-! ### The pulses and missed marks counted -/

theorem decideLine_cases (i : Fin 8) (s : State) : decideLine i s = s
    ∨ s.lines[i].pulse = .rest ∧ ∃ w l, decideLine i s = beginPulse i w l s := by
  unfold decideLine
  extract_lets c l
  split
  next hrest =>
    have hp : s.lines[i].pulse = .rest := eq_of_beq (Bool.and_eq_true_iff.mp hrest).2
    split
    · split
      · exact .inr ⟨hp, _, _, rfl⟩
      · exact .inl rfl
    · split
      · split
        · extract_lets d
          split
          · exact .inr ⟨hp, _, _, rfl⟩
          · exact .inl rfl
        · exact .inl rfl
      · exact .inl rfl
  next => exact .inl rfl

/-- Whether a line misses its second mark at a rollover (R177). -/
def missesMark (s : State) (i : Fin 8) : Bool :=
  s.clock.state != .unset && (s.cfg.lines[i].function == .secondMark && s.lines[i].pulse.wire.isSome)

/-- From `s` to `t` the line counted the pulse it began, if any, and `n` missed marks. -/
structure PulseCounted (i : Fin 8) (n : Nat) (s t : State) : Prop where
  own : t.cnt.lines.pulses[i] = s.cnt.lines.pulses[i] + (if t.lines[i].pulse = s.lines[i].pulse then 0 else 1)
  others : ∀ j : Fin 8, j ≠ i → t.cnt.lines.pulses[j] = s.cnt.lines.pulses[j]
  missed : t.cnt.lines.markMissed = s.cnt.lines.markMissed + BitVec.ofNat 32 n
  rest : t.cnt.lines = { s.cnt.lines with pulses := t.cnt.lines.pulses, markMissed := t.cnt.lines.markMissed }

theorem pulseCounted_none {i : Fin 8} {s t : State} (hl : t.lines[i].pulse = s.lines[i].pulse)
    (hc : t.cnt.lines = s.cnt.lines) : PulseCounted i 0 s t := by
  refine ⟨?_, fun j _ => by rw [hc], ?_, by rw [hc]⟩
  · rw [hc, if_pos hl]
    exact (BitVec.add_zero _).symm
  · rw [hc]
    exact (BitVec.add_zero _).symm

theorem pulseCounted_begin (i : Fin 8) (w : Wire) (l : Line) (s : State) (hp : s.lines[i].pulse = .rest) :
    PulseCounted i 0 s (beginPulse i w l s) := by
  have hl : (beginPulse i w l s).lines[i].pulse ≠ s.lines[i].pulse := by
    rw [beginPulse_line, if_pos rfl, hp]
    exact nofun
  have hc (j : Fin 8) : (beginPulse i w l s).cnt.lines.pulses[j]
      = if j = i then s.cnt.lines.pulses[i] + 1 else s.cnt.lines.pulses[j] := getElem_set_fin s.cnt.lines.pulses i j _
  refine ⟨?_, fun j hj => ?_, (BitVec.add_zero _).symm, rfl⟩
  · rw [hc, if_pos rfl, if_neg hl]
  · rw [hc, if_neg hj]

theorem pulseCounted_lineRollover (i : Fin 8) (s : State) :
    PulseCounted i (if missesMark s i = true then 1 else 0) s (lineRollover i s) := by
  by_cases hf : s.cfg.lines[i].function = .secondMark
  · rw [lineRollover, if_pos hf, missesMark, hf, beq_self_eq_true, Bool.true_and]
    by_cases hu : s.clock.state = .unset
    · rw [if_pos hu, hu]
      exact pulseCounted_none rfl rfl
    · rw [if_neg hu, bne_iff_ne.mpr hu, Bool.true_and]
      cases hp : s.lines[i].pulse with
      | rest => exact pulseCounted_begin i .a _ s hp
      | drive w e =>
        dsimp only
        refine ⟨?_, fun j _ => rfl, rfl, rfl⟩
        rw [countLines_lines, if_pos rfl]
        exact (BitVec.add_zero _).symm
      | gap e => exact pulseCounted_none rfl rfl
  · rw [lineRollover, if_neg hf, missesMark, beq_false_of_ne hf, Bool.false_and, Bool.and_false]
    by_cases hc : s.cfg.lines[i].function.cycle.isSome = true
    · rw [if_pos hc]
      have hr : (renewTarget i s).lines[i].pulse = s.lines[i].pulse := by
        rw [renewTarget_line, if_pos rfl]
      rcases decideLine_cases i (renewTarget i s) with h | ⟨hp, w, l, h⟩
      · rw [h]
        exact pulseCounted_none hr rfl
      · rw [h]
        obtain ⟨hown, hothers, hmissed, hrest⟩ := pulseCounted_begin i w l (renewTarget i s) hp
        rw [hr] at hown
        exact ⟨hown, hothers, hmissed, hrest⟩
    · rw [if_neg hc]
      exact pulseCounted_none rfl rfl

/-- Over several lines the pulses begun and the marks missed add up. -/
theorem foldl_lineRollover_counts : ∀ (xs : List (Fin 8)) (s t : State), xs.Nodup →
    t = xs.foldl (fun s i => lineRollover i s) s →
    (∀ j : Fin 8, t.cnt.lines.pulses[j]
        = s.cnt.lines.pulses[j] + (if t.lines[j].pulse = s.lines[j].pulse then 0 else 1))
      ∧ t.cnt.lines.markMissed = s.cnt.lines.markMissed + BitVec.ofNat 32 (xs.countP (missesMark s))
      ∧ t.cnt.lines = { s.cnt.lines with pulses := t.cnt.lines.pulses, markMissed := t.cnt.lines.markMissed }
  | [], s, t, _, ht => by
    subst ht
    refine ⟨fun j => ?_, (BitVec.add_zero _).symm, rfl⟩
    rw [if_pos rfl]
    exact (BitVec.add_zero _).symm
  | x :: xs, s, t, hx, ht => by
    obtain ⟨hxs, hnodup⟩ := List.nodup_cons.mp hx
    rw [List.foldl_cons] at ht
    obtain ⟨hpulses, hmissed, hrest⟩ := foldl_lineRollover_counts xs (lineRollover x s) t hnodup ht
    obtain ⟨hown, hothers, hmissed', hrest'⟩ := pulseCounted_lineRollover x s
    have honly := only_lineRollover x s
    have hline (j : Fin 8) (hj : j ≠ x) : (lineRollover x s).lines[j] = s.lines[j] :=
      oneLine_lineRollover.others x j s hj
    have htx : t.lines[x] = (lineRollover x s).lines[x] := by
      rw [ht, oneLine_lineRollover.foldl_lines x xs _ hnodup, if_neg hxs]
    have hsame : xs.countP (missesMark (lineRollover x s)) = xs.countP (missesMark s) := by
      refine List.countP_congr fun j hj => ?_
      have hjx : j ≠ x := fun e => hxs (e ▸ hj)
      rw [missesMark, hline j hjx, honly.clock (by decide), honly.cfg (by decide), missesMark]
    refine ⟨fun j => ?_, ?_, by rw [hrest, hrest']⟩
    · rw [hpulses]
      by_cases hj : j = x
      · subst hj
        rw [htx, if_pos rfl, hown]
        exact BitVec.add_zero _
      · rw [hothers j hj, hline j hj]
    · rw [hmissed, hmissed', hsame, List.countP_cons, BitVec.add_assoc, ← BitVec.ofNat_add, Nat.add_comm]

/-- The lines' counters after a rollover. -/
theorem linesRollover_counts (s : State) : (linesRollover s).cnt.lines = { s.cnt.lines with
    pulses := Vector.ofFn (fun i : Fin 8 => s.cnt.lines.pulses[i]
      + (if (linesRollover s).lines[i].pulse = s.lines[i].pulse then 0 else 1))
    markMissed := s.cnt.lines.markMissed + BitVec.ofNat 32 ((List.finRange 8).countP (missesMark s)) } := by
  obtain ⟨hpulses, hmissed, hrest⟩ := foldl_lineRollover_counts (List.finRange 8) s (linesRollover s)
    (List.nodup_finRange 8) rfl
  have hv : (linesRollover s).cnt.lines.pulses = Vector.ofFn (fun i : Fin 8 => s.cnt.lines.pulses[i]
      + (if (linesRollover s).lines[i].pulse = s.lines[i].pulse then 0 else 1)) := by
    refine Vector.ext fun i hi => ?_
    rw [Vector.getElem_ofFn]
    exact hpulses ⟨i, hi⟩
  rw [← hv, ← hmissed]
  exact hrest

end Sys2Proof.Proofs
end

section
/-! OBLIGATIONS. The tick that carries (R2, R3, R31). -/

namespace Sys2Proof.Proofs

open Sys2Proof Sys2Proof.Machine Sys2Proof.Safety

/-! ### The clock after the tick -/

/-- The clock `d` after a tick that carries `c` into the next second: the reading has come to `x`, the accumulator to
`y`. -/
structure SecondTaken (c : Clock) (x y : Nat × BitVec 32) (d : Clock) : Prop where
  sec : d.sec = c.sec + 1
  ns : d.ns + 1000000000 = x.1
  frac : d.frac = x.2
  accFrac : d.accFrac = y.2
  elapsed : d.m = c.m ∧ d.accNs = y.1 ∧ d.accNs < 1000000 ∨ d.m = c.m + 1 ∧ d.accNs + 1000000 = y.1
  rest : d = { c with
    sec := d.sec, ns := d.ns, frac := d.frac, accFrac := d.accFrac, accNs := d.accNs, m := d.m }

theorem secondTaken (c : Clock) (inc : Nat) (hcarry : c.carries inc = true) :
    SecondTaken c (advance c.ns c.frac inc) (advance c.accNs c.accFrac inc) ((c.tickElapsed inc).tickReading inc) := by
  have hc : 1000000000 ≤ (advance c.ns c.frac inc).1 := of_decide_eq_true hcarry
  rcases Nat.lt_or_ge (advance c.accNs c.accFrac inc).1 1000000 with he | he
  · rw [tickElapsed_of_not_carry he, tickReading_of_carry (by exact hc)]
    dsimp only
    generalize advance c.ns c.frac inc = x at hc ⊢
    generalize advance c.accNs c.accFrac inc = y at he ⊢
    exact ⟨rfl, Nat.sub_add_cancel hc, rfl, rfl, .inl ⟨rfl, rfl, he⟩, rfl⟩
  · rw [tickElapsed_of_carry he, tickReading_of_carry (by exact hc)]
    dsimp only
    generalize advance c.ns c.frac inc = x at hc ⊢
    generalize advance c.accNs c.accFrac inc = y at he ⊢
    exact ⟨rfl, Nat.sub_add_cancel hc, rfl, rfl, .inr ⟨rfl, Nat.sub_add_cancel he⟩, rfl⟩

/-- The state after the tick, before the calendar and the lines take the second. -/
def secondState (s : State) : State := readingTick (tickIncrement s) (elapsedTick s)

theorem secondState_clock (s : State) :
    (secondState s).clock = (s.clock.tickElapsed (tickIncrement s)).tickReading (tickIncrement s) := rfl

theorem only_secondState (s : State) : Only [.clock] s (secondState s) :=
  (only_elapsedTick s).trans (only_set_clock _ _)

theorem elapsedTick_sec (s : State) : (elapsedTick s).clock.sec = s.clock.sec := by
  obtain ⟨m, a, f, h⟩ := tickElapsed_eq s.clock (tickIncrement s)
  show (s.clock.tickElapsed (tickIncrement s)).sec = _
  rw [h]

theorem exec_secondRollover {s : State} (htick : ticks s = true) (hcarry : tickCarries s = true)
    (hsec : s.clock.sec ≠ 0xFFFFFFFF#32) : exec .secondRollover s = .next (if live s = true then
      linesRollover (calendarRollover s.clock.sec (secondState s)) else secondState s) := by
  have hdue : rolloverDue s = true := by
    rw [rolloverDue, htick, hcarry, Bool.true_and, Bool.true_and]
    exact bne_iff_ne.mpr hsec
  have hexec : exec .secondRollover s = .next (secondRollover s) := congrArg Host.Outcome.next (if_pos hdue)
  have hlive : live (secondState s) = live s := live_congr ((only_secondState s).supply (by decide))
  rw [hexec, secondRollover, takeSecond, elapsedTick_sec, ← secondState, hlive]

/-! ### The calendar's part -/

/-- The state with the calendar at the new second, before any examiner runs. -/
structure CalendarTaken (s q : State) : Prop where
  only : Only [.clock, .cal, .nCal] s q
  cal : q.cal = { s.cal with
    flag := inForce s.cfg.cal q.clock.sec, fields := localTime s.cfg.cal q.clock.sec }
  cnt : q.cnt.cal = { s.cnt.cal with
    seasonSwitch := s.cnt.cal.seasonSwitch + (if inForce s.cfg.cal q.clock.sec = s.cal.flag then 0 else 1) }

theorem calendarTaken {s r : State} (h : Only [.clock] s r) : CalendarTaken s (calTaken r) := by
  refine ⟨(h.mono (by decide)).trans (((only_set_cal r (calTaken r).cal).mono (b := [.clock, .cal, .nCal])
    (by decide)).trans ((only_countCal _ (fun _ => (calTaken r).cnt.cal)).mono (by decide))), ?_, ?_⟩
  · rw [calTaken, ← h.cfg (by decide), ← h.cal (by decide)]
  · rw [calTaken, ← h.cfg (by decide), ← h.cal (by decide), ← h.nCal (by decide)]

/-- Whether the rollover runs the examiners: a local minute boundary or a seasonal switch (R28, R31, R34). -/
def examines (s : State) (sec : Second) : Prop :=
  minuteIndex s.cfg.cal sec ≠ minuteIndex s.cfg.cal s.clock.sec ∨ inForce s.cfg.cal sec ≠ s.cal.flag

theorem calendarRollover_eq {s r : State} (h : Only [.clock] s r) (hst : r.clock.state = s.clock.state) :
    (s.clock.state = .unset ∨ ¬examines s r.clock.sec → calendarRollover s.clock.sec r = calTaken r)
    ∧ (s.clock.state ≠ .unset → examines s r.clock.sec → calendarRollover s.clock.sec r = runExaminers (calTaken r)) := by
  have hcond : ((minuteIndex r.cfg.cal s.clock.sec != presentMinute r)
      || (inForce r.cfg.cal r.clock.sec != r.cal.flag)) = true ↔ examines s r.clock.sec := by
    rw [Bool.or_eq_true, bne_iff_ne, bne_iff_ne, presentMinute, h.cfg (by decide), h.cal (by decide), examines, ne_comm]
  rw [calendarRollover, calendarEvent_eq]
  refine ⟨fun hno => ?_, fun _ hex => if_pos (hcond.mpr hex)⟩
  rcases hno with hu | hno
  · rw [runExaminers, if_pos (show (calTaken r).clock.state = .unset from hst.trans hu), ite_self]
  · exact if_neg (fun hc => hno (hcond.mp hc))

theorem calendarRollover_rest {s r : State} (h : Only [.clock] s r) (hst : r.clock.state = s.clock.state) :
    (calendarRollover s.clock.sec r).cal.flag = (calTaken r).cal.flag
      ∧ (calendarRollover s.clock.sec r).cal.fields = (calTaken r).cal.fields
      ∧ (calendarRollover s.clock.sec r).cnt.cal.seasonSwitch = (calTaken r).cnt.cal.seasonSwitch := by
  obtain ⟨hquiet, hruns⟩ := calendarRollover_eq h hst
  by_cases hno : s.clock.state = .unset ∨ ¬examines s r.clock.sec
  · rw [hquiet hno]
    exact ⟨rfl, rfl, rfl⟩
  · obtain ⟨hu, hex⟩ := not_or.mp hno
    rw [hruns hu (not_not.mp hex)]
    exact (runExaminers_ran (s := calTaken r) (fun e => hu (hst.symm.trans e))).rest

/-- The examiners' conditions and results in the terms of the state before the tick. -/
theorem examinersRan_before {n : Int} {s q t : State} (hq : CalendarTaken s q) (h : ExaminersRan n q t) :
    t.cal.lastDue = lastMinute s.cal.lastDue n
      ∧ t.cal.lastWarn = (if s.cfg.cal.lead = 0 then none else lastMinute s.cal.lastWarn (n + s.cfg.cal.lead))
      ∧ t.cnt.cal.scheduleSkip
        = s.cnt.cal.scheduleSkip + (if s.cal.lastDue.any (fun l => 1440 < n - l) then 1 else 0)
      ∧ t.cnt.cal.warningSkip = s.cnt.cal.warningSkip
        + (if s.cfg.cal.lead ≠ 0 ∧ s.cal.lastWarn.any (fun w => 1440 < n + s.cfg.cal.lead - w) = true then 1 else 0)
      ∧ (∀ l e, s.cal.lastDue = some l → fires s.cfg.cal.entries l n e →
          t.cnt.cal.dueFired = s.cnt.cal.dueFired + 1
            ∧ t.shift = dueTaken s.shift e s.cfg.cal.entries[e].crew
                (q.clock.m + BitVec.ofNat 48 (s.cfg.overdueLen * 60000))
            ∧ (live s = true → t.resp.noticeNo = s.resp.noticeNo + (if s.shift.state = .acceptHeld then 0 else 1)))
      ∧ (∀ w e, s.cfg.cal.lead ≠ 0 → s.cal.lastWarn = some w →
          fires s.cfg.cal.entries w (n + s.cfg.cal.lead) e →
          t.cnt.cal.warningFired = s.cnt.cal.warningFired + 1
            ∧ ((∀ l j, s.cal.lastDue = some l → ¬fires s.cfg.cal.entries l n j) → s.shift.state = .onShift →
                t.shift = { s.shift with warned := some (e, s.cfg.cal.entries[e].crew), state := .due }
                  ∧ (live s = true → t.resp.noticeNo = s.resp.noticeNo + 1)))
      ∧ ((∀ l e, s.cal.lastDue = some l → ¬fires s.cfg.cal.entries l n e) →
          t.cnt.cal.dueFired = s.cnt.cal.dueFired
            ∧ (s.shift.state ≠ .onShift → t.shift = s.shift ∧ t.resp.noticeNo = s.resp.noticeNo))
      ∧ ((∀ w e, s.cfg.cal.lead ≠ 0 → s.cal.lastWarn = some w →
            ¬fires s.cfg.cal.entries w (n + s.cfg.cal.lead) e) →
          t.cnt.cal.warningFired = s.cnt.cal.warningFired
            ∧ ((∀ l e, s.cal.lastDue = some l → ¬fires s.cfg.cal.entries l n e) →
                t.shift = s.shift ∧ t.resp.noticeNo = s.resp.noticeNo)) := by
  obtain ⟨honly, hcal, hcnt⟩ := hq
  have hdue : q.cal.lastDue = s.cal.lastDue := by rw [hcal]
  have hwarn : q.cal.lastWarn = s.cal.lastWarn := by rw [hcal]
  have hcfg : q.cfg = s.cfg := honly.cfg (by decide)
  have hshift : q.shift = s.shift := honly.shift (by decide)
  have hresp : q.resp = s.resp := honly.resp (by decide)
  have hlive : live q = live s := live_congr (honly.supply (by decide))
  have hcnts : q.cnt.cal.scheduleSkip = s.cnt.cal.scheduleSkip ∧ q.cnt.cal.warningSkip = s.cnt.cal.warningSkip
      ∧ q.cnt.cal.dueFired = s.cnt.cal.dueFired ∧ q.cnt.cal.warningFired = s.cnt.cal.warningFired := by
    rw [hcnt]
    exact ⟨rfl, rfl, rfl, rfl⟩
  obtain ⟨hss, hws, hdf, hwf⟩ := hcnts
  obtain ⟨h1, h2, h3, h4, h5, h6, h7, h8, -⟩ := h
  simp only [hdue, hwarn, hcfg, hshift, hresp, hlive, hss, hws, hdf, hwf] at h1 h2 h3 h4 h5 h6 h7 h8
  exact ⟨h1, h2, h3, h4, h5, h6, h7, h8⟩

/-! ### The lines' part -/

/-- What the rollover makes of each line, in the terms of the statement. -/
theorem lineAtRollover_spec {q : State} (hlive : live q = true) (c : LineCfg) (l : Line) (cy : Cycle) :
    (c.function = .secondMark → q.clock.state ≠ .unset → l.pulse = .rest → lineAtRollover q c l
      = { l with pulse := .drive .a (q.clock.m + BitVec.ofNat 48 (clampNat 1 500 c.width)) })
    ∧ (c.function = .off ∨ c.function = .hourMeter
        ∨ c.function = .secondMark ∧ (q.clock.state = .unset ∨ l.pulse ≠ .rest) → lineAtRollover q c l = l)
    ∧ (c.function.cycle = some cy → l.cycle = none ∨ l.cycle = some cy →
      lineAtRollover q c l = if q.clock.state = .unset then { l with target := none }
        else lineRenewed c cy (targetAt c.function q.cal.fields) q.clock.m l) := by
  refine ⟨fun hf hu hp => ?_, fun h => ?_, fun hcy hl => ?_⟩
  · rw [lineAtRollover, if_pos hf, if_neg (not_or.mpr ⟨hu, not_not.mpr hp⟩), LineCfg.widthInForce, if_pos hf]
  · rcases h with hf | hf | ⟨hf, h⟩
    · rw [lineAtRollover, hf, if_neg (by decide), lineAtChange, hf, if_neg (by decide)]
    · rw [lineAtRollover, hf, if_neg (by decide), lineAtChange, hf, if_neg (by decide)]
    · rw [lineAtRollover, if_pos hf, if_pos h]
  · rw [lineAtRollover, if_neg (cycle_ne_hourMeter hcy).2, lineAtChange_eq _ _ cy _ hlive hcy hl]

theorem countP_missesMark (s : State) : (List.finRange 8).countP (missesMark s)
    = if s.clock.state = .unset then 0 else (List.finRange 8).countP (fun i =>
        s.cfg.lines[i].function == .secondMark && s.lines[i].pulse.wire.isSome) := by
  unfold missesMark
  split
  next hu => simp [hu]
  next hu => simp [bne_iff_ne.mpr hu]

/-- Settles O2: the clock moves to the next second, and a live part's calendar and lines take it. -/
theorem secondRollover : Obligations.SecondRollover := by
  intro s es n htick hcarry hsec hes hn
  subst hes
  have hclock := secondTaken s.clock (tickIncrement s) hcarry
  rw [← secondState_clock] at hclock
  have hr := only_secondState s
  refine ⟨_, exec_secondRollover htick hcarry hsec, ?_⟩
  generalize secondState s = r at hclock hr ⊢
  obtain ⟨hsec', hns, hfrac, hacc, helapsed, hrest⟩ := hclock
  have hst : r.clock.state = s.clock.state := by rw [hrest]
  have hcr := only_calendarEvent (minuteIndex r.cfg.cal s.clock.sec != presentMinute r) r
  have hcrest := calendarRollover_rest hr hst
  obtain ⟨hquiet, hruns⟩ := calendarRollover_eq hr hst
  have hq := calendarTaken hr
  have hran (hu : s.clock.state ≠ .unset) := runExaminers_ran (s := calTaken r) (fun e => hu (hst.symm.trans e))
  rw [show calendarEvent (minuteIndex r.cfg.cal s.clock.sec != presentMinute r) r = calendarRollover s.clock.sec r
    from rfl] at hcr
  have hqclock : (calTaken r).clock = r.clock := rfl
  generalize calTaken r = q at hcrest hquiet hruns hq hran hqclock
  generalize calendarRollover s.clock.sec r = c at hcr hcrest hquiet hruns ⊢
  have hl := only_linesRollover c
  have hlines (i : Fin 8) := linesRollover_line i c
  have hcounts := linesRollover_counts c
  generalize linesRollover c = t at hl hlines hcounts
  have htcal : t.cal = c.cal := hl.cal (by decide)
  have htncal : t.cnt.cal = c.cnt.cal := hl.nCal (by decide)
  have htclock : t.clock = r.clock := (hl.clock (by decide)).trans (hcr.clock (by decide))
  have htshift : t.shift = c.shift := hl.shift (by decide)
  have htresp : t.resp = c.resp := hl.resp (by decide)
  have hend : (if live s = true then t else r).clock = r.clock := by
    split
    · exact htclock
    · rfl
  have hpresent : presentMinute q = n := by
    rw [presentMinute, hqclock, hq.only.cfg (by decide), hsec', hn]
  have hqsec : q.clock.sec = s.clock.sec + 1 := by rw [hqclock, hsec']
  have hexam : examines s r.clock.sec
      ↔ n ≠ minuteIndex s.cfg.cal s.clock.sec ∨ inForce s.cfg.cal (s.clock.sec + 1) ≠ s.cal.flag := by
    rw [examines, hsec', hn]
  rw [hend]
  refine ⟨hsec', hns, hfrac, hacc, helapsed, hst, by rw [hrest], by rw [hrest], by rw [hrest], by rw [hrest],
    by rw [hrest], by rw [hrest], fun hlive => ?_, fun hlive hno => ?_, fun hlive hu hex => ?_, fun hdead => ?_, ?_⟩
  · rw [if_pos hlive]
    obtain ⟨hflag, hfields, hseason⟩ := hcrest
    have hclive : live c = true := (live_congr ((hcr.supply (by decide)).trans (hr.supply (by decide)))).trans hlive
    have hccfg : c.cfg = s.cfg := (hcr.cfg (by decide)).trans (hr.cfg (by decide))
    have hclines : c.lines = s.lines := (hcr.lines (by decide)).trans (hr.lines (by decide))
    have hcclock : c.clock = r.clock := hcr.clock (by decide)
    have hcn : c.cnt.lines = s.cnt.lines := (hcr.nLines (by decide)).trans (hr.nLines (by decide))
    have hmissed := countP_missesMark c
    rw [hccfg, hclines, hcclock, hst] at hmissed
    rw [hmissed, hcn, hclines] at hcounts
    rw [htcal, htncal, hflag, hfields, hseason, hq.cal, hq.cnt, hqsec]
    refine ⟨rfl, rfl, rfl, hcounts, fun i x cy hx => ?_⟩
    subst hx
    have h := lineAtRollover_spec hclive s.cfg.lines[i] s.lines[i] cy
    rw [hlines, hccfg, hclines]
    rw [hcclock, hst, hfields, hq.cal, hqsec] at h
    exact h
  · rw [if_pos hlive, htcal, htncal, htshift, htresp]
    have hcq : c = q := hquiet (hno.imp_right (fun h => fun hex => (hexam.mp hex).elim (· h.1) (· h.2)))
    rw [hcq, hq.cal, hq.cnt, hq.only.shift (by decide), hq.only.resp (by decide)]
    exact ⟨rfl, rfl, rfl, rfl, rfl⟩
  · rw [if_pos hlive, htcal, htncal, htshift, htresp]
    have hcq : c = runExaminers q := hruns hu (hexam.mpr hex)
    have h := hran hu
    rw [← hcq, hpresent] at h
    obtain ⟨hdue, hwarn, hskip, hskip', hfired, hwarned, hnodue, hnowarn⟩ := examinersRan_before hq h
    refine ⟨hdue, hwarn, hskip, hskip', fun l e hl hf => ?_, fun w e hlead hw hf => ?_, hnodue, hnowarn⟩
    · obtain ⟨hc, hshift, hno⟩ := hfired l e hl hf
      exact ⟨hc, hqclock ▸ hshift, hno hlive⟩
    · obtain ⟨hc, hon⟩ := hwarned w e hlead hw hf
      refine ⟨hc, fun hnone hst => ?_⟩
      obtain ⟨hshift, hno⟩ := hon hnone hst
      exact ⟨hshift, hno hlive⟩
  · rw [if_neg (by rw [hdead]; exact Bool.false_ne_true)]
    exact hr
  · split
    · exact (hr.mono (by decide)).trans ((hcr.mono (by decide)).trans (hl.mono (by decide)))
    · exact hr.mono (by decide)

end Sys2Proof.Proofs
end

section
/-! SUPPORT and OBLIGATIONS. Pulse lines: the end of a drive (R170, R171, R176, R179). -/

namespace Sys2Proof.Proofs

open Sys2Proof Sys2Proof.Machine Sys2Proof.Safety

/-! ### One line and its configuration replaced -/

/-- The state with line `i` released, its configuration, records and realignments as given. -/
def lineReleased (s : State) (i : Fin 8) (c : LineCfg) (l : Line) (n : Count) : State :=
  { s with
    cfg.lines := s.cfg.lines.set i c
    lines := s.lines.set i { l with pulse := .rest, pending := [] }
    cnt.lines.realign := s.cnt.lines.realign + n }

section
variable (s : State) (i : Fin 8) (c : LineCfg) (l : Line) (n : Count)

theorem lineReleased_cfgLine : (lineReleased s i c l n).cfg.lines[i] = c := by
  show (s.cfg.lines.set i c)[i] = c
  rw [getElem_set_fin, if_pos rfl]

theorem lineReleased_line : (lineReleased s i c l n).lines[i] = { l with pulse := .rest, pending := [] } := by
  show (s.lines.set i _)[i] = _
  rw [getElem_set_fin, if_pos rfl]

theorem lineReleased_withLine (x : Line) :
    (lineReleased s i c l n).withLine i { x with pulse := .rest, pending := [] } = lineReleased s i c x n := by
  simp only [State.withLine, lineReleased, Vector.set_set]

theorem lineReleased_withLineCfg (d : LineCfg) : (lineReleased s i c l n).withLineCfg i d = lineReleased s i d l n := by
  simp only [State.withLineCfg, lineReleased, Vector.set_set]

/-- The line and its configuration unchanged: the drive is released. -/
theorem lineReleased_self : lineReleased s i s.cfg.lines[i] s.lines[i] 0
    = s.withLine i { s.lines[i] with pulse := .rest, pending := [] } := by
  have hc : s.cfg.lines.set i s.cfg.lines[i] = s.cfg.lines := set_getElem_fin s.cfg.lines i
  have hn : s.cnt.lines.realign + 0 = s.cnt.lines.realign := BitVec.add_zero _
  rw [lineReleased, hc, hn]
  rfl

/-- The line's records brought into agreement with its configuration, as `changeTaken` does (R170, R179). -/
def recordsAgreed (s : State) (c : LineCfg) (l : Line) : Line :=
  { l with
    cycle := if c.function.cycle = none ∨ c.function.cycle = l.cycle then l.cycle else none
    mark := if c.function == .hourMeter && l.basis != some c.selection then tallySecs s c.selection / 36 * 36 else l.mark
    basis := if c.function == .hourMeter && l.basis != some c.selection then some c.selection else l.basis }

theorem realign_released : realign i (lineReleased s i c l n) = lineReleased s i c
    { l with mark := tallySecs s c.selection / 36 * 36, basis := some c.selection } (n + 1) := by
  have ht (x : Selection) : tallySecs (lineReleased s i c l n) x = tallySecs s x := rfl
  unfold realign
  dsimp only
  rw [lineReleased_cfgLine, lineReleased_line, ht,
    lineReleased_withLine s i c l n { l with mark := tallySecs s c.selection / 36 * 36, basis := some c.selection }]
  simp only [State.countLines, lineReleased, BitVec.add_assoc]

theorem agree_released : agree i (lineReleased s i c l n) = lineReleased s i c (recordsAgreed s c l)
    (n + (if c.function == .hourMeter && l.basis != some c.selection then 1 else 0)) := by
  have hzero : n + 0 = n := BitVec.add_zero _
  unfold agree
  dsimp only
  rw [lineReleased_cfgLine, lineReleased_line]
  cases hcy : c.function.cycle with
  | some cy =>
    have hm : (c.function == .hourMeter) = false := beq_false_of_ne (cycle_ne_hourMeter hcy).1
    dsimp only
    simp only [recordsAgreed, hcy, hm, Bool.false_and, Bool.false_eq_true, if_false, hzero]
    by_cases hl : l.cycle = some cy
    · rw [if_pos hl, if_pos (.inr hl.symm)]
    · rw [if_neg hl, if_neg (not_or.mpr ⟨nofun, fun e => hl e.symm⟩)]
      exact lineReleased_withLine s i c l n { l with cycle := none }
  | none =>
    simp only [recordsAgreed, hcy, true_or, if_true]
    by_cases hr : c.function = .hourMeter ∧ l.basis ≠ some c.selection
    · have hb : (c.function == .hourMeter && l.basis != some c.selection) = true := by
        rw [Bool.and_eq_true, beq_iff_eq, bne_iff_ne]
        exact hr
      rw [if_pos hr, realign_released]
      simp only [hb, if_true]
    · have hb : (c.function == .hourMeter && l.basis != some c.selection) = false := by
        rw [← Bool.not_eq_true, Bool.and_eq_true, beq_iff_eq, bne_iff_ne]
        exact hr
      rw [if_neg hr]
      simp only [hb, Bool.false_eq_true, if_false, hzero]

/-! ### A change applied -/

theorem applyChange_dial (p : Nat) (w : Wire) : applyChange i (.dial p w) (lineReleased s i c l n)
    = lineReleased s i c { l with cycle := c.function.cycle, pos := p, pol := w } n := by
  unfold applyChange
  dsimp only
  rw [lineReleased_cfgLine, lineReleased_line]
  exact lineReleased_withLine s i c l n { l with cycle := c.function.cycle, pos := p, pol := w }

theorem applyChange_function (f : LineFunction) : applyChange i (.function f) (lineReleased s i c l n)
    = agree i (lineReleased s i { c with function := f }
        { l with target := if f = c.function then l.target
            else if s.clock.state = .unset then none else slaveTarget f s.cal.fields } n) := by
  unfold applyChange
  dsimp only
  rw [lineReleased_cfgLine, lineReleased_withLineCfg]
  by_cases hf : c.function = f
  · rw [if_pos hf, if_pos hf.symm]
    rfl
  · rw [if_neg hf, if_neg (fun e => hf e.symm), renewTarget]
    dsimp only
    rw [lineReleased_line, lineReleased_cfgLine]
    exact congrArg (agree i) (lineReleased_withLine s i _ l n { l with
      target := if s.clock.state = .unset then none else slaveTarget f s.cal.fields })

/-- A change that is no dial setting and keeps the function. -/
theorem applyChange_setting (ch : LineChange) (hd : ∀ p w, ch ≠ .dial p w) (hf : ∀ f, ch ≠ .function f) :
    applyChange i ch (lineReleased s i c l n) = agree i (lineReleased s i (c.apply ch) l n) := by
  cases ch with
  | dial p w => exact absurd rfl (hd p w)
  | function f => exact absurd rfl (hf f)
  | _ => exact congrArg (agree i) ((congrArg _ (congrArg (fun c => LineCfg.apply c _) (lineReleased_cfgLine s i c l n))).trans
      (lineReleased_withLineCfg s i c l n _))

end

/-- A change or dial setting as it takes effect is what `changeTaken` says of it. -/
theorem applyChange_released (s : State) (i : Fin 8) (x : LineCfg × Line × Count) (ch : LineChange) :
    applyChange i ch (lineReleased s i x.1 x.2.1 x.2.2)
      = lineReleased s i (changeTaken s x ch).1 (changeTaken s x ch).2.1 (changeTaken s x ch).2.2 := by
  obtain ⟨c, l, n⟩ := x
  cases ch with
  | dial p w => exact applyChange_dial s i c l n p w
  | function f =>
    dsimp only
    rw [applyChange_function, agree_released]
    rfl
  | _ =>
    dsimp only
    rw [applyChange_setting s i c l n _ (by nofun) (by nofun), agree_released]
    simp only [changeTaken, recordsAgreed, LineCfg.apply, if_true]
    rfl

theorem foldl_applyChange (s : State) (i : Fin 8) : ∀ (chs : List LineChange) (x : LineCfg × Line × Count),
    chs.foldl (fun s ch => applyChange i ch s) (lineReleased s i x.1 x.2.1 x.2.2)
      = lineReleased s i (chs.foldl (changeTaken s) x).1 (chs.foldl (changeTaken s) x).2.1
          (chs.foldl (changeTaken s) x).2.2
  | [], _ => rfl
  | ch :: chs, x => by
    rw [List.foldl_cons, List.foldl_cons, applyChange_released]
    exact foldl_applyChange s i chs (changeTaken s x ch)

theorem changeTaken_cfg (s : State) (x : LineCfg × Line × Count) (ch : LineChange) :
    (changeTaken s x ch).1 = x.1.apply ch := by
  obtain ⟨c, l, n⟩ := x
  cases ch <;> rfl

theorem foldl_changeTaken_cfg (s : State) : ∀ (chs : List LineChange) (x : LineCfg × Line × Count),
    (chs.foldl (changeTaken s) x).1 = chs.foldl LineCfg.apply x.1
  | [], _ => rfl
  | ch :: chs, x => by rw [List.foldl_cons, List.foldl_cons, foldl_changeTaken_cfg s chs, changeTaken_cfg]

/-! ### The end of a drive -/

/-- Where the released line goes: a slave line or an hour meter into its gap, the others to rest (R171). -/
def afterDrive (c : LineCfg) (m : Elapsed) : Pulse :=
  if c.function.cycle.isSome ∨ c.function = .hourMeter then .gap (m + BitVec.ofNat 48 c.gap) else .rest

theorem afterDrive_eq (c : LineCfg) (m : Elapsed) : afterDrive c m = (match c.function with
    | .slaveMinute => .gap (m + BitVec.ofNat 48 c.gap)
    | .slaveHalf => .gap (m + BitVec.ofNat 48 c.gap)
    | .hourMeter => .gap (m + BitVec.ofNat 48 c.gap)
    | .secondMark => .rest
    | .off => .rest) := by
  unfold afterDrive
  cases c.function <;> simp [LineFunction.cycle]

theorem endDrive_eq (s : State) (i : Fin 8) (x : LineCfg × Line × Count)
    (hx : x = s.lines[i].pending.foldl (changeTaken s) (s.cfg.lines[i], s.lines[i], 0)) :
    endDrive i s = (lineReleased s i x.1 x.2.1 x.2.2).withLine i
      { x.2.1 with pulse := afterDrive x.1 s.clock.m, pending := [] } := by
  have hfold := foldl_applyChange s i s.lines[i].pending (s.cfg.lines[i], s.lines[i], 0)
  rw [← hx, lineReleased_self] at hfold
  unfold endDrive
  dsimp only
  rw [hfold, lineReleased_cfgLine, lineReleased_line, afterDrive]
  split
  · rfl
  · exact (lineReleased_withLine s i x.1 x.2.1 x.2.2 x.2.1).symm

theorem exec_driveEnd {s : State} {i : Fin 8} {w : Wire} {e : Elapsed} (hlive : live s = true)
    (hp : s.lines[i].pulse = .drive w e) (hreach : reachedM e s.clock.m = true) :
    exec (.driveEnd i) s = .next (endDrive i s) := by
  have hdue : driveEndDue i s = true := by rw [driveEndDue, hlive, hp, Bool.true_and]; exact hreach
  exact congrArg Host.Outcome.next (if_pos hdue)

/-- Settles O36: the changes taken in order, then the gap or rest of the function in force. -/
theorem driveEnd : Obligations.DriveEnd := by
  intro s i w e c l n hlive hp hreach hx
  refine ⟨_, exec_driveEnd hlive hp hreach, ?_⟩
  have hc : c = s.lines[i].pending.foldl LineCfg.apply s.cfg.lines[i] := by
    have h := foldl_changeTaken_cfg s s.lines[i].pending (s.cfg.lines[i], s.lines[i], 0)
    rwa [← hx] at h
  have hend := endDrive_eq s i (c, l, n) hx
  have hline : (endDrive i s).lines[i] = { l with pulse := afterDrive c s.clock.m, pending := [] } := by
    rw [hend, withLine_getElem, if_pos rfl]
  refine ⟨hc, ?_, ?_, ?_, ?_, fun hnone => ?_, fun p pol cy hone hcy => ?_, fun j hj => ?_, ?_⟩
  · rw [hend]
    rfl
  · rw [hline]
  · rw [hend]
    rfl
  · rw [hline]
    exact afterDrive_eq c s.clock.m
  · rw [hnone] at hx
    obtain ⟨-, hl, -⟩ : c = s.cfg.lines[i] ∧ l = s.lines[i] ∧ n = 0 := by
      simpa only [List.foldl_nil, Prod.mk.injEq] using hx
    rw [hline, hl]
    exact congrArg (fun p => { s.lines[i] with pulse := afterDrive c s.clock.m, pending := p }) hnone.symm
  · rw [hone] at hx hc
    obtain ⟨-, hl, -⟩ : c = s.cfg.lines[i]
        ∧ l = { s.lines[i] with cycle := s.cfg.lines[i].function.cycle, pos := p, pol := pol } ∧ n = 0 := by
      simpa only [List.foldl_cons, List.foldl_nil, changeTaken, Prod.mk.injEq] using hx
    have hc' : c = s.cfg.lines[i] := hc
    rw [hline, hl, ← hc', hcy]
  · rw [hend, withLine_getElem, if_neg hj]
    show (s.lines.set i _)[j] = _
    rw [getElem_set_fin, if_neg hj]
  · rw [hend]
    have hrel : Only [.lines, .nLines, .cfg] s (lineReleased s i c l n) := by
      constructor <;> intro h <;> first | rfl | exact absurd (by decide) h
    exact hrel.trans ((only_withLine _ i _).mono (by decide))

end Sys2Proof.Proofs
end

section
/-! SUPPORT and OBLIGATIONS. Pulse lines: the end of a gap, the meter's threshold and the order of a gap end and a
rollover (R171, R173, R174, R178). -/

namespace Sys2Proof.Proofs

open Sys2Proof Sys2Proof.Machine Sys2Proof.Safety

/-! ### The pulse decision -/

theorem decideLine_slave_begins {s : State} {i : Fin 8} {cy : Cycle} {t : Nat} (hlive : live s = true)
    (hp : s.lines[i].pulse = .rest) (hf : s.cfg.lines[i].function.cycle = some cy) (hu : s.clock.state ≠ .unset)
    (hl : s.lines[i].cycle = some cy) (ht : s.lines[i].target = some t)
    (hlo : 1 ≤ (t + cy.steps - s.lines[i].pos) % cy.steps)
    (hhi : (t + cy.steps - s.lines[i].pos) % cy.steps ≤ cy.steps - s.cfg.lines[i].holdSteps) :
    decideLine i s = beginPulse i s.lines[i].pol
      { s.lines[i] with pos := (s.lines[i].pos + 1) % cy.steps, pol := s.lines[i].pol.flip } s := by
  have hu' : (s.clock.state != .unset) = true := bne_iff_ne.mpr hu
  unfold decideLine
  simp only [hlive, hp, beq_self_eq_true, Bool.and_self, if_true, (cycle_ne_hourMeter hf).1, if_false, hf,
    Option.isSome_some, hu', hl, ht]
  exact if_pos ⟨hlo, hhi⟩

theorem decideLine_slave_waits {s : State} {i : Fin 8} {cy : Cycle} {t : Nat}
    (hf : s.cfg.lines[i].function.cycle = some cy) (hl : s.lines[i].cycle = some cy) (ht : s.lines[i].target = some t)
    (hd : (t + cy.steps - s.lines[i].pos) % cy.steps = 0
      ∨ cy.steps - s.cfg.lines[i].holdSteps < (t + cy.steps - s.lines[i].pos) % cy.steps) : decideLine i s = s := by
  unfold decideLine
  simp only [(cycle_ne_hourMeter hf).1, if_false, hl, ht]
  have hno : ¬(1 ≤ (t + cy.steps - s.lines[i].pos) % cy.steps
      ∧ (t + cy.steps - s.lines[i].pos) % cy.steps ≤ cy.steps - s.cfg.lines[i].holdSteps) := by omega
  rw [if_neg hno, ite_self, ite_self]

/-- A slave line without a known dial, without a target, or under an UNSET clock begins no pulse. -/
theorem decideLine_slave_lost {s : State} {i : Fin 8} {cy : Cycle} (hf : s.cfg.lines[i].function.cycle = some cy)
    (h : s.clock.state = .unset ∨ s.lines[i].cycle = none ∨ s.lines[i].target = none) : decideLine i s = s := by
  unfold decideLine
  simp only [(cycle_ne_hourMeter hf).1, if_false]
  rcases h with h | h | h
  · simp only [h, bne_self_eq_false, Bool.and_false, Bool.false_eq_true, if_false, ite_self]
  · simp only [h, ite_self]
  · cases s.lines[i].cycle <;> simp only [h, ite_self]

theorem decideLine_meter_begins {s : State} {i : Fin 8} (hlive : live s = true) (hp : s.lines[i].pulse = .rest)
    (hf : s.cfg.lines[i].function = .hourMeter)
    (hm : s.lines[i].mark + 36 ≤ tallySecs s s.cfg.lines[i].selection) :
    decideLine i s = beginPulse i .a { s.lines[i] with mark := s.lines[i].mark + 36 } s := by
  unfold decideLine
  simp only [hlive, hp, beq_self_eq_true, Bool.and_self, if_true, hf]
  exact if_pos hm

theorem decideLine_meter_waits {s : State} {i : Fin 8} (hf : s.cfg.lines[i].function = .hourMeter)
    (hm : tallySecs s s.cfg.lines[i].selection < s.lines[i].mark + 36) : decideLine i s = s := by
  unfold decideLine
  simp only [hf, if_true]
  rw [if_neg (not_le.mpr hm), ite_self]

theorem decideLine_other {s : State} {i : Fin 8}
    (hf : s.cfg.lines[i].function = .off ∨ s.cfg.lines[i].function = .secondMark) : decideLine i s = s := by
  have hm : s.cfg.lines[i].function ≠ .hourMeter ∧ s.cfg.lines[i].function.cycle = none := by
    rcases hf with hf | hf <;> rw [hf] <;> exact ⟨nofun, rfl⟩
  unfold decideLine
  simp only [hm.1, hm.2, if_false, Option.isSome_none, Bool.false_and, Bool.false_eq_true, ite_self]

/-! ### The end of a gap -/

/-- The line at rest, its gap over. -/
def gapOver (i : Fin 8) (s : State) : State := s.withLine i { s.lines[i] with pulse := .rest }

theorem gapOver_line (i : Fin 8) (s : State) : (gapOver i s).lines[i] = { s.lines[i] with pulse := .rest } := by
  rw [gapOver, withLine_getElem, if_pos rfl]

theorem exec_gapEnd {s : State} {i : Fin 8} {e : Elapsed} (hlive : live s = true) (hp : s.lines[i].pulse = .gap e)
    (hreach : reachedM e s.clock.m = true) : exec (.gapEnd i) s = .next (decideLine i (gapOver i s)) := by
  have hdue : gapEndDue i s = true := by rw [gapEndDue, hlive, hp, Bool.true_and]; exact hreach
  exact congrArg Host.Outcome.next (if_pos hdue)

theorem beginPulse_gapOver (i : Fin 8) (w : Wire) (l : Line) (s : State) : beginPulse i w l (gapOver i s)
    = { s with
        lines := s.lines.set i { l with
          pulse := .drive w (s.clock.m + BitVec.ofNat 48 s.cfg.lines[i].widthInForce) }
        cnt.lines.pulses := s.cnt.lines.pulses.set i (s.cnt.lines.pulses[i] + 1) } := by
  simp only [beginPulse, gapOver, State.withLine, State.countLines, Vector.set_set]

theorem widthInForce_of_ne {c : LineCfg} (h : c.function ≠ .secondMark) : c.widthInForce = clampNat 20 2000 c.width :=
  if_neg h

/-- Where nothing begins at the end of its gap, the line rests. -/
theorem exec_gapEnd_rests {s : State} {i : Fin 8} {e : Elapsed} (hlive : live s = true) (hp : s.lines[i].pulse = .gap e)
    (hreach : reachedM e s.clock.m = true) (h : decideLine i (gapOver i s) = gapOver i s) : exec (.gapEnd i) s
      = .next { s with lines := s.lines.set i { s.lines[i] with pulse := .rest } } := by
  rw [exec_gapEnd hlive hp hreach, h]
  rfl

theorem exec_gapEnd_slave {s : State} {i : Fin 8} {e : Elapsed} {cy : Cycle} {t : Nat} (hlive : live s = true)
    (hp : s.lines[i].pulse = .gap e) (hreach : reachedM e s.clock.m = true)
    (hf : s.cfg.lines[i].function.cycle = some cy) (hu : s.clock.state ≠ .unset) (hl : s.lines[i].cycle = some cy)
    (ht : s.lines[i].target = some t) (hlo : 1 ≤ (t + cy.steps - s.lines[i].pos) % cy.steps)
    (hhi : (t + cy.steps - s.lines[i].pos) % cy.steps ≤ cy.steps - s.cfg.lines[i].holdSteps) :
    exec (.gapEnd i) s = .next { s with
      lines := s.lines.set i { s.lines[i] with
        pulse := .drive s.lines[i].pol (s.clock.m + BitVec.ofNat 48 (clampNat 20 2000 s.cfg.lines[i].width))
        pos := (s.lines[i].pos + 1) % cy.steps
        pol := if s.lines[i].pol = .a then .b else .a }
      cnt.lines.pulses := s.cnt.lines.pulses.set i (s.cnt.lines.pulses[i] + 1) } := by
  have h := decideLine_slave_begins (s := gapOver i s) hlive (by rw [gapOver_line]) hf hu (by rw [gapOver_line]; exact hl)
    (by rw [gapOver_line]; exact ht) (by rw [gapOver_line]; exact hlo) (by rw [gapOver_line]; exact hhi)
  rw [gapOver_line] at h
  rw [exec_gapEnd hlive hp hreach, h, beginPulse_gapOver, flip_eq, widthInForce_of_cycle hf]

/-- The meter's own pulse, as a line at rest begins it. -/
theorem beginPulse_meter {s : State} {i : Fin 8} (hf : s.cfg.lines[i].function = .hourMeter) (l : Line) :
    beginPulse i .a l s = { s with
      lines := s.lines.set i { l with
        pulse := .drive .a (s.clock.m + BitVec.ofNat 48 (clampNat 20 2000 s.cfg.lines[i].width)) }
      cnt.lines.pulses := s.cnt.lines.pulses.set i (s.cnt.lines.pulses[i] + 1) } := by
  rw [beginPulse, widthInForce_of_ne (hf ▸ nofun)]
  rfl

/-! ### A gap end and a rollover together (R174) -/

theorem toInstr_ne_gapEnd (r : Request) (i : Fin 8) : r.toInstr ≠ some (.gapEnd i) := by
  unfold Request.toInstr
  split <;> exact nofun

theorem gapEndDue_of_dueEvents {s : State} {i : Fin 8} (h : Instr.gapEnd i ∈ dueEvents s) : gapEndDue i s = true := by
  unfold dueEvents nextRequest whenDue at h
  simp only [List.mem_append, List.mem_flatMap, List.mem_ite_nil_right, List.mem_singleton, reduceCtorEq, and_false,
    exists_false, or_false, false_or, Instr.gapEnd.injEq] at h
  rcases h with ⟨j, -, hj, rfl⟩ | ⟨-, h⟩
  · exact hj
  · obtain ⟨r, -, hr⟩ := Option.bind_eq_some_iff.mp (Option.mem_toList.mp h)
    exact absurd hr (toInstr_ne_gapEnd r i)

theorem gap_of_gapEndDue {s : State} {i : Fin 8} (h : gapEndDue i s = true) :
    ∃ e, s.lines[i].pulse = .gap e ∧ reachedM e s.clock.m = true := by
  obtain ⟨-, hp⟩ := Bool.and_eq_true_iff.mp h
  cases hpulse : s.lines[i].pulse with
  | gap e => exact ⟨e, rfl, by rwa [hpulse] at hp⟩
  | rest => rw [hpulse] at hp; cases hp
  | drive w e => rw [hpulse] at hp; cases hp

/-- A rollover at a slave line that is not at rest records the renewal. -/
theorem takeSecond_line {s : State} {i : Fin 8} {cy : Cycle} (inc : Nat) (hlive : live s = true)
    (hcarry : s.clock.carries inc = true) (hp : s.lines[i].pulse ≠ .rest)
    (hf : s.cfg.lines[i].function.cycle = some cy) (hu : s.clock.state ≠ .unset) (hl : s.lines[i].cycle = some cy) :
    (takeSecond inc s).clock.sec = s.clock.sec + 1 ∧ (takeSecond inc s).lines[i] = { s.lines[i] with
      target := some (targetAt s.cfg.lines[i].function (localTime s.cfg.cal (s.clock.sec + 1))) } := by
  have hc : 1000000000 ≤ (advance s.clock.ns s.clock.frac inc).1 := of_decide_eq_true hcarry
  have hsec : (readingTick inc s).clock.sec = s.clock.sec + 1 := by
    show (s.clock.tickReading inc).sec = _
    rw [tickReading_of_carry hc]
  have hst : (readingTick inc s).clock.state ≠ .unset := by
    show (s.clock.tickReading inc).state ≠ _
    rw [tickReading_of_carry hc]
    exact hu
  have hr : Only [.clock] s (readingTick inc s) := only_set_clock s _
  unfold takeSecond
  extract_lets r
  have e : r = readingTick inc s := rfl
  rw [← e] at hsec hst hr
  clear_value r
  have hliver : live r = true := (live_congr (hr.supply (by decide))).trans hlive
  rw [if_pos hliver]
  have hcr : Only calParts r (calendarRollover s.clock.sec r) := only_calendarEvent _ r
  have hfields : (calendarRollover s.clock.sec r).cal.fields = localTime r.cfg.cal r.clock.sec :=
    (calendarEvent_fields _ r).1
  generalize calendarRollover s.clock.sec r = c at hcr hfields
  have hclivec : live c = true := (live_congr (hcr.supply (by decide))).trans hliver
  have hccfg : c.cfg = s.cfg := (hcr.cfg (by decide)).trans (hr.cfg (by decide))
  have hclines : c.lines = s.lines := (hcr.lines (by decide)).trans (hr.lines (by decide))
  have hcclock : c.clock = r.clock := hcr.clock (by decide)
  refine ⟨by rw [(only_linesRollover c).clock (by decide), hcclock, hsec], ?_⟩
  rw [linesRollover_line, (lineAtRollover_spec hclivec _ _ cy).2.2 (by rw [hccfg]; exact hf)
    (by rw [hclines]; exact .inr hl), if_neg (by rw [hcclock]; exact hst), hfields, hr.cfg (by decide), hsec, hccfg, hclines,
    lineRenewed]
  exact if_neg (fun h => hp h.1)

theorem takeEvents_none {s : State} (h : dueEvents s = []) : ∀ n, takeEvents n s = .next s
  | 0 => rfl
  | n + 1 => by
    have he : takeEvent s = .next s := by rw [takeEvent, h]
    rw [takeEvents, he]
    exact takeEvents_none h n

/-- The one event that is due is taken first, or not at all. -/
theorem takeEvents_one {s u : State} {c : Instr} (h : dueEvents s = [c]) (hu : exec c s = .next u)
    (hnone : dueEvents u = []) : ∀ n, takeEvents n s = .next s ∨ takeEvents n s = .next u
  | 0 => .inl rfl
  | n + 1 => by
    have he : takeEvent s = .next u := by rw [takeEvent, h]; exact hu
    rw [takeEvents, he]
    exact .inr (takeEvents_none hnone n)

theorem elapsedTick_carries {s : State} (inc : Nat) (h : s.clock.carries inc = true) :
    (elapsedTick s).clock.carries inc = true ∧ (elapsedTick s).clock.state = s.clock.state := by
  obtain ⟨m, a, f, e⟩ := tickElapsed_eq s.clock (tickIncrement s)
  have hc : (elapsedTick s).clock = { s.clock with m := m, accNs := a, accFrac := f } := e
  rw [hc]
  exact ⟨h, rfl⟩

/-- Settles O37: each gap's end, the meter's threshold, and a gap's end beside a rollover in either order. -/
theorem gapEndAndMeterThreshold : Obligations.GapEndAndMeterThreshold := by
  intro s i e cy t0 d hlive
  refine ⟨fun hp hreach => ⟨fun hf hu hl ht hd => ⟨fun hlo hhi => ?_, fun hout => ?_⟩, fun hf hlost => ?_,
    fun hf hm => ?_, fun hf hm => ?_, fun hf => ?_⟩, fun hp hf hm => ?_, ?_⟩
  · subst hd
    exact exec_gapEnd_slave hlive hp hreach hf hu hl ht hlo hhi
  · subst hd
    exact exec_gapEnd_rests hlive hp hreach (decideLine_slave_waits (s := gapOver i s) hf (by rw [gapOver_line]; exact hl)
      (by rw [gapOver_line]; exact ht) (by rw [gapOver_line]; exact hout))
  · refine exec_gapEnd_rests hlive hp hreach (decideLine_slave_lost (s := gapOver i s) hf ?_)
    rw [gapOver_line]
    exact hlost.imp_right .inl
  · have h := decideLine_meter_begins (s := gapOver i s) hlive (by rw [gapOver_line]) hf (by rw [gapOver_line]; exact hm)
    rw [gapOver_line] at h
    rw [exec_gapEnd hlive hp hreach, h, beginPulse_gapOver, widthInForce_of_ne (hf ▸ nofun)]
  · exact exec_gapEnd_rests hlive hp hreach (decideLine_meter_waits (s := gapOver i s) hf (by rw [gapOver_line]; exact hm))
  · exact exec_gapEnd_rests hlive hp hreach (decideLine_other (s := gapOver i s) hf)
  · have hdue : meterDue i s = true := by
      rw [meterDue, hlive, hp, hf, beq_self_eq_true, beq_self_eq_true, Bool.true_and, Bool.true_and, Bool.true_and]
      exact decide_eq_true hm
    have hexec : exec (.meterThreshold i) s = .next (decideLine i s) := congrArg Host.Outcome.next (if_pos hdue)
    rw [hexec, decideLine_meter_begins hlive hp hf hm, beginPulse_meter hf]
  · intro x u l hpend hidle hwork htick hcarry hsec hx hdue hf hu hl ht hd hlo hhi hl' hu' hunone
    have hsx : Only [.clock, .choices] s x := by
      rw [hx]
      refine ((only_elapsedTick s).mono (by decide)).trans ?_
      constructor <;> intro h <;> first | rfl | exact absurd (by decide) h
    have hxclock : x.clock = (elapsedTick s).clock := by rw [hx]
    have hstep : step s = carryStep s := by
      have hcl : classifying s = false := by rw [classifying, hwork]; exact Bool.and_false _
      rw [step, hpend]
      dsimp only
      rw [idleStep, hidle]
      dsimp only
      rw [hcl, if_neg Bool.false_ne_true, tickStep, if_pos htick, if_pos hcarry]
    obtain ⟨hxcarry, hxst⟩ := elapsedTick_carries (tickIncrement s) (s := s) hcarry
    have hxsec := elapsedTick_sec s
    rw [← hxclock] at hxcarry hxst hxsec
    have hlivex : live x = true := (live_congr (hsx.supply (by decide))).trans hlive
    have hxline : x.lines[i] = s.lines[i] := by rw [hsx.lines (by decide)]
    have hxcfg : x.cfg = s.cfg := hsx.cfg (by decide)
    have hfx : x.cfg.lines[i].function.cycle = some cy := by rw [hxcfg]; exact hf
    have hgap := gapEndDue_of_dueEvents (s := x) (i := i) (by rw [hdue]; exact List.mem_singleton_self _)
    obtain ⟨ends, hpx, hreachx⟩ := gap_of_gapEndDue hgap
    have hpulse := exec_gapEnd_slave hlivex hpx hreachx hfx (hxst ▸ hu) (by rw [hxline]; exact hl)
      (by rw [hxline]; exact ht) (by rw [hxline, ← hd]; exact hlo) (by rw [hxline, hxcfg, ← hd]; exact hhi)
    have hwidth : x.cfg.lines[i].width = s.cfg.lines[i].width := by rw [hxcfg]
    rw [hxline, hwidth, ← hl', ← hu'] at hpulse
    have hux : u.clock = x.clock ∧ u.cfg = x.cfg ∧ u.lines[i] = l ∧ live u = live x := by
      rw [hu']
      exact ⟨rfl, rfl, by rw [getElem_set_fin, if_pos rfl], rfl⟩
    obtain ⟨huclock, hucfg, huline, hulive⟩ := hux
    rw [hstep, carryStep, ← hx]
    clear hx hu'
    have hxp : x.lines[i].pulse ≠ .rest := by rw [hpx]; exact nofun
    have hup : u.lines[i].pulse ≠ .rest := by rw [huline, hl']; exact nofun
    have hxsec' : ¬x.clock.sec = 0xFFFFFFFF#32 := by rw [hxsec]; exact hsec
    rcases takeEvents_one hdue hpulse hunone (Config.choice s.choices) with h | h
    · obtain ⟨hs, hline⟩ := takeSecond_line (tickIncrement s) hlivex hxcarry hxp hfx (hxst ▸ hu)
        (by rw [hxline]; exact hl)
      rw [h]
      refine ⟨_, rfl, ?_⟩
      rw [takeReading, if_pos hxcarry, if_neg hxsec', hs, hline, hxline, hxcfg, hxsec]
      exact ⟨rfl, .inl rfl⟩
    · obtain ⟨hs, hline⟩ := takeSecond_line (tickIncrement s) (hulive.trans hlivex) (huclock ▸ hxcarry) hup
        (hucfg ▸ hfx) (by rw [huclock]; exact hxst ▸ hu) (by rw [huline, hl']; exact hl)
      rw [h]
      refine ⟨_, rfl, ?_⟩
      rw [takeReading, if_pos (huclock ▸ hxcarry), if_neg (by rw [huclock]; exact hxsec'), hs, hline, huline, hucfg,
        huclock, hxcfg, hxsec]
      exact ⟨rfl, .inr rfl⟩

end Sys2Proof.Proofs
end

section
/-! SUPPORT and OBLIGATIONS. SET_DIAL (R170, R176). -/

namespace Sys2Proof.Proofs

open Sys2Proof Sys2Proof.Machine Sys2Proof.Safety

/-! ### The body of the request -/

/-- The three items of the body read back. -/
theorem opSetDial_body {n v : Byte} {pos : Nat} (hpos : pos < 65536) (h : ReqHead) (pad : List Byte) (s : State) :
    opSetDial ⟨h, 0x0F, n :: be 2 pos ++ v :: pad⟩ s =
      match lineOf n.toNat, Wire.ofCode v.toNat with
      | some i, some pol =>
        match (projectedCfg i s).function.cycle with
        | none => refuse .dialNotSlave s
        | some cy =>
          if lineBusy i s then refuse .busy s
          else (Machine.setDial i (held 0 (cy.steps - 1) pos).1 pol s, some ⟨okOr (held 0 (cy.steps - 1) pos).2, []⟩)
      | _, _ => refuse .badValue s := by
  have hn : rd 1 (n :: be 2 pos ++ v :: pad) = some (n.toNat, be 2 pos ++ v :: pad) := rd_one n _
  have hp : rd 2 (be 2 pos ++ v :: pad) = some (pos, v :: pad) := rd_be hpos _
  simp only [opSetDial, hn, hp, rd_one] <;> rfl

theorem lineOf_val (i : Fin 8) : lineOf i.val = some i := by simp [lineOf]

theorem lineOf_none {n : Nat} (h : 7 < n) : lineOf n = none := by
  unfold lineOf
  split
  · omega
  · rfl

theorem toNat_line (i : Fin 8) : (BitVec.ofNat 8 i.val).toNat = i.val := by
  rw [BitVec.toNat_ofNat, Nat.mod_eq_of_lt (by omega)]

theorem ofCode_code (w : Wire) : Wire.ofCode (BitVec.ofNat 8 w.code).toNat = some w := by cases w <;> rfl

theorem ofCode_none {n : Nat} (h : 1 < n) : Wire.ofCode n = none := by
  unfold Wire.ofCode
  split
  case h_3 => rfl
  all_goals omega

theorem held_position (cy : Cycle) (pos : Nat) : held 0 (cy.steps - 1) pos = (min pos (cy.steps - 1), decide (cy.steps ≤ pos)) := by
  have hs : 0 < cy.steps := by cases cy <;> decide
  refine Prod.ext ?_ ?_
  · simp [held, clampNat, min_comm]
  · simp only [held]
    rw [Bool.eq_iff_iff, Bool.or_eq_true]
    simp only [decide_eq_true_eq]
    omega

/-! ### The dial set -/

theorem projectedCfg_none {i : Fin 8} {s : State} (h : s.lines[i].pending = []) : projectedCfg i s = s.cfg.lines[i] := by
  rw [projectedCfg, h]
  rfl

theorem lineBusy_iff (i : Fin 8) (s : State) :
    lineBusy i s = true ↔ s.lines[i].pulse.wire.isSome = true ∧ 8 ≤ s.lines[i].pending.length := by
  unfold lineBusy
  cases s.lines[i].pulse with
  | drive w e =>
    simp only [Pulse.wire, Config.pendingCap, Option.isSome_some, true_and]
    exact ⟨of_decide_eq_true, decide_eq_true⟩
  | rest => simp [Pulse.wire]
  | gap e => simp [Pulse.wire]

/-- The line with its dial set. -/
def dialed (i : Fin 8) (cy : Cycle) (p : Nat) (w : Wire) (s : State) : State :=
  s.withLine i { s.lines[i] with cycle := some cy, pos := p, pol := w }

theorem dialed_line (i : Fin 8) (cy : Cycle) (p : Nat) (w : Wire) (s : State) :
    (dialed i cy p w s).lines[i] = { s.lines[i] with cycle := some cy, pos := p, pol := w } := by
  rw [dialed, withLine_getElem, if_pos rfl]

theorem applyChange_dialed {i : Fin 8} {cy : Cycle} {p : Nat} {w : Wire} {s : State}
    (hcy : s.cfg.lines[i].function.cycle = some cy) : applyChange i (.dial p w) s = dialed i cy p w s := by
  rw [applyChange, hcy]
  rfl

/-- A dial setting at a line that is not driven, where no pulse begins. -/
theorem takeChange_quiet {i : Fin 8} {cy : Cycle} {p : Nat} {w : Wire} {s : State}
    (hcy : s.cfg.lines[i].function.cycle = some cy) (hp : s.lines[i].pulse.wire.isSome = false)
    (hq : s.lines[i].pulse.ends.isSome = true ∨ s.clock.state = .unset ∨ s.lines[i].target = none
      ∨ s.lines[i].target = some p) : takeChange i (.dial p w) s = dialed i cy p w s := by
  unfold takeChange
  cases hpulse : s.lines[i].pulse with
  | drive x e => rw [hpulse] at hp; cases hp
  | gap e => exact applyChange_dialed hcy
  | rest =>
    dsimp only
    rw [applyChange_dialed hcy]
    have hf : (dialed i cy p w s).cfg.lines[i].function.cycle = some cy := hcy
    rcases hq with h | h | h | h
    · rw [hpulse] at h
      cases h
    · exact decideLine_slave_lost hf (.inl h)
    · exact decideLine_slave_lost hf (.inr (.inr (by rw [dialed_line]; exact h)))
    · refine decideLine_slave_waits (t := p) hf (by rw [dialed_line]) (by rw [dialed_line]; exact h) (.inl ?_)
      rw [dialed_line]
      dsimp only
      rw [Nat.add_sub_cancel_left, Nat.mod_self]

/-- A dial setting at a line at rest that is then behind its target: the pulse begins. -/
theorem takeChange_begins {i : Fin 8} {cy : Cycle} {p t0 : Nat} {w : Wire} {s : State} (hlive : live s = true)
    (hcy : s.cfg.lines[i].function.cycle = some cy) (hp : s.lines[i].pulse = .rest) (hu : s.clock.state ≠ .unset)
    (ht : s.lines[i].target = some t0) (hlo : 1 ≤ (t0 + cy.steps - p) % cy.steps)
    (hhi : (t0 + cy.steps - p) % cy.steps ≤ cy.steps - s.cfg.lines[i].holdSteps) :
    takeChange i (.dial p w) s = { s with
      lines := s.lines.set i { s.lines[i] with
        cycle := some cy, pos := (p + 1) % cy.steps, pol := if w = .a then .b else .a
        pulse := .drive w (s.clock.m + BitVec.ofNat 48 (clampNat 20 2000 s.cfg.lines[i].width)) }
      cnt.lines.pulses := s.cnt.lines.pulses.set i (s.cnt.lines.pulses[i] + 1) } := by
  unfold takeChange
  rw [hp]
  dsimp only
  have hd := decideLine_slave_begins (s := dialed i cy p w s) (i := i) hlive (by rw [dialed_line]; exact hp) hcy hu
    (by rw [dialed_line]) (by rw [dialed_line]; exact ht) (by rw [dialed_line]; exact hlo)
    (by rw [dialed_line]; exact hhi)
  rw [dialed_line] at hd
  rw [applyChange_dialed hcy, hd, flip_eq]
  simp only [beginPulse, dialed, State.withLine, State.countLines, Vector.set_set, widthInForce_of_cycle hcy]

/-- A dial setting that is taken is answered OK or CLAMPED. -/
theorem setDial_answered {s u : State} {i : Fin 8} {w : Wire} {pos : Nat} {cy : Cycle} (ha : answering s)
    (hpos : pos < 65536) (h : ReqHead) (pad : List Byte) (hcy : (projectedCfg i s).function.cycle = some cy)
    (hbusy : ¬(s.lines[i].pulse.wire.isSome = true ∧ 8 ≤ s.lines[i].pending.length))
    (hu : Machine.setDial i (min pos (cy.steps - 1)) w (taken s) = u) :
    exec (.setDial h (BitVec.ofNat 8 i.val :: be 2 pos ++ BitVec.ofNat 8 w.code :: pad)) s
      = .next (replied h 0x0F (if cy.steps ≤ pos then 0x01 else 0x00) [] u) := by
  have hop : opSetDial ⟨h, 0x0F, BitVec.ofNat 8 i.val :: be 2 pos ++ BitVec.ofNat 8 w.code :: pad⟩ (taken s)
      = (u, some ⟨okOr (decide (cy.steps ≤ pos)), []⟩) := by
    have hno : ¬lineBusy i (taken s) = true := fun hb => hbusy ((lineBusy_iff i (taken s)).mp hb)
    rw [opSetDial_body hpos]
    simp only [toNat_line, lineOf_val, ofCode_code]
    rw [show (projectedCfg i (taken s)).function.cycle = some cy from hcy]
    dsimp only
    rw [if_neg hno, held_position, hu]
  refine congrArg Host.Outcome.next ((command_answered ha operator_authority hop (okOr_refuses _)).trans ?_)
  simp only [okOr_code, decide_eq_true_eq]
  rfl

/-- Settles O38: refused, or taken behind a drive, in a gap or at rest. -/
theorem setDial : Obligations.SetDial := by
  intro s h i w pos t0 p cy n v pad ha hpos hp
  subst hp
  have hbody (s' : State) := opSetDial_body (n := BitVec.ofNat 8 i.val) (v := BitVec.ofNat 8 w.code) hpos h pad s'
  simp only [toNat_line, lineOf_val, ofCode_code] at hbody
  have hbusy := lineBusy_iff i (taken s)
  refine ⟨fun hbad => congrArg Host.Outcome.next ?_, fun hpend hcy => congrArg Host.Outcome.next ?_,
    fun hcy hw hlen => congrArg Host.Outcome.next ?_, fun hcy hw hlen => ?_, fun hpend hcy hw hq => ?_,
    fun hpend hcy hrest hu ht hlo hhi => ?_⟩
  · refine command_refused (st := .badValue) ha operator_authority ?_ rfl
    rw [opSetDial_body hpos]
    rcases hbad with hn | hv
    · rw [lineOf_none hn]
    · rw [ofCode_none hv]
      cases lineOf n.toNat <;> rfl
  · refine command_refused (st := .dialNotSlave) ha operator_authority ?_ rfl
    rw [hbody, projectedCfg_none (s := taken s) hpend, show (taken s).cfg.lines[i].function.cycle = none from hcy]
  · refine command_refused (st := .busy) ha operator_authority ?_ rfl
    rw [hbody, show (projectedCfg i (taken s)).function.cycle = some cy from hcy]
    exact if_pos (hbusy.mpr ⟨hw, hlen⟩)
  · refine setDial_answered ha hpos h pad hcy (fun hb => absurd hb.2 (not_le.mpr hlen)) ?_
    cases hpulse : s.lines[i].pulse with
    | rest => rw [hpulse] at hw; cases hw
    | gap e => rw [hpulse] at hw; cases hw
    | drive x e =>
      rw [Machine.setDial, takeChange, show (taken s).lines[i].pulse = .drive x e from hpulse]
      rfl
  · have hno : ¬(s.lines[i].pulse.wire.isSome = true ∧ 8 ≤ s.lines[i].pending.length) :=
      fun hb => absurd (hb.1.symm.trans hw) (by decide)
    refine setDial_answered ha hpos h pad (by rw [projectedCfg_none hpend]; exact hcy) hno ?_
    rw [Machine.setDial, takeChange_quiet (s := taken s) hcy hw hq]
    rfl
  · have hno : ¬(s.lines[i].pulse.wire.isSome = true ∧ 8 ≤ s.lines[i].pending.length) := by
      rw [hrest]
      exact fun hb => nomatch hb.1
    refine setDial_answered ha hpos h pad (by rw [projectedCfg_none hpend]; exact hcy) hno ?_
    rw [Machine.setDial, takeChange_begins (s := taken s) ha.1 hcy hrest hu ht hlo hhi]
    rfl

end Sys2Proof.Proofs
end

section
/-! OBLIGATIONS. BACKUP entry and the events of the supply monitor (R183 to R186, R202). -/

namespace Sys2Proof.Proofs

open Sys2Proof Sys2Proof.Machine Sys2Proof.Safety

/-! ### Supply events (O40) -/

/-- Settles O40: the two events in BACKUP lose the retained domain and leave slots, image and serial number. -/
theorem supplyEvents : Obligations.SupplyEvents := by
  intro s asserted
  have hcold (b : State) (h : b.supply.retention = false) (hst : b.supply.state = .backup ∨ b.supply.state = .off) :
      coldStartDue b = true ∧ warmStartDue b = false := by
    rcases hst with hst | hst <;> simp [coldStartDue, warmStartDue, h, hst]
  refine ⟨fun hb => ⟨loseRetained s, ?_, hb, rfl, rfl, rfl, rfl, hcold (loseRetained s) rfl (.inl hb)⟩,
    fun hb => ⟨{ loseRetained s with supply.state := .off }, ?_, rfl, rfl, rfl, rfl, rfl,
      hcold { loseRetained s with supply.state := .off } rfl (.inr rfl)⟩, rfl⟩
  · exact congrArg Host.Outcome.next (if_pos hb)
  · exact congrArg Host.Outcome.next (if_pos hb)

/-! ### The groups at a BACKUP entry (R120) -/

/-- A group as a BACKUP entry leaves it. -/
def settled (x : Group) : Group := if x.state = .settling then { x with state := .announced, deadline := none } else x

theorem updRecord_seqs {f : TripRecord → TripRecord} (hf : ∀ r, (f r).seq = r.seq) (q : BitVec 32)
    (l : List TripRecord) : (updRecord q f l).map TripRecord.seq = l.map TripRecord.seq := by
  rw [updRecord, List.map_map]
  refine List.map_congr_left (fun r _ => ?_)
  dsimp only [Function.comp]
  split
  · exact hf r
  · rfl

/-- The recorder's numbers stand: slots, next number and the numbers of the list. -/
def sameNumbers (r q : Recorder) : Prop :=
  q.slots = r.slots ∧ q.nextSeq = r.nextSeq ∧ q.list.map TripRecord.seq = r.list.map TripRecord.seq

theorem sameNumbers.trans {a b c : Recorder} (h : sameNumbers a b) (h' : sameNumbers b c) : sameNumbers a c := by
  obtain ⟨hslots, hnext, hlist⟩ := h
  obtain ⟨hslots', hnext', hlist'⟩ := h'
  exact ⟨hslots'.trans hslots, hnext'.trans hnext, hlist'.trans hlist⟩

theorem decideGroup_numbers (g : Fin 16) (s : State) : sameNumbers s.recorder (decideGroup g s).recorder := by
  refine ⟨rfl, rfl, ?_⟩
  unfold decideGroup
  extract_lets x l
  have hl : l.map TripRecord.seq = s.recorder.list.map TripRecord.seq := by
    unfold l
    split
    · exact updRecord_seqs (f := fun r => { r with firstOut := true }) (fun _ => rfl) _ _
    · rfl
  exact hl

theorem groupBackup_ann (g j : Fin 16) (s : State) :
    (groupBackup s g).ann[j] = if j = g then settled s.ann[g] else s.ann[j] := by
  unfold groupBackup settled
  split
  next h => exact getElem_set_fin ..
  next h =>
    split
    next e => rw [e]
    next => rfl

theorem groupBackup_numbers (g : Fin 16) (s : State) : sameNumbers s.recorder (groupBackup s g).recorder := by
  unfold groupBackup
  split
  · exact decideGroup_numbers g s
  · exact ⟨rfl, rfl, rfl⟩

theorem foldl_groupBackup (j : Fin 16) : ∀ (gs : List (Fin 16)) (s : State), gs.Nodup →
    (gs.foldl groupBackup s).ann[j] = (if j ∈ gs then settled s.ann[j] else s.ann[j])
      ∧ sameNumbers s.recorder (gs.foldl groupBackup s).recorder
  | [], s, _ => ⟨by simp, rfl, rfl, rfl⟩
  | g :: gs, s, hgs => by
    obtain ⟨hg, hnodup⟩ := List.nodup_cons.mp hgs
    obtain ⟨hann, hnum⟩ := foldl_groupBackup j gs (groupBackup s g) hnodup
    refine ⟨?_, (groupBackup_numbers g s).trans hnum⟩
    rw [List.foldl_cons, hann, groupBackup_ann]
    by_cases hj : j = g
    · subst hj
      simp [hg]
    · simp [hj]

theorem groupsBackup_spec (s : State) : (∀ g : Fin 16, (groupsBackup s).ann[g] = settled s.ann[g])
    ∧ sameNumbers s.recorder (groupsBackup s).recorder := by
  have e : groupsBackup s = allGroups.foldl groupBackup s := rfl
  rw [e]
  have hmem : ∀ g : Fin 16, g ∈ allGroups := by decide
  refine ⟨fun g => ?_, (foldl_groupBackup 0 allGroups s (by decide)).2⟩
  rw [(foldl_groupBackup g allGroups s (by decide)).1, if_pos (hmem g)]

/-! ### BACKUP entry (O39) -/

/-- Where VBACKUP is judged, the writer's program memory and the main domain stand as the entry left them. -/
theorem judgeBackup_main (mv : Nat) (s : State) : (judgeBackup mv s).store.flags = s.store.flags
    ∧ (judgeBackup mv s).store.order = s.store.order ∧ (judgeBackup mv s).store.engine = s.store.engine
    ∧ (judgeBackup mv s).store.waiting = s.store.waiting ∧ (judgeBackup mv s).store.slots = s.store.slots
    ∧ (judgeBackup mv s).store.image = s.store.image
    ∧ (judgeBackup mv s).portU = s.portU ∧ (judgeBackup mv s).portS = s.portS ∧ (judgeBackup mv s).cls = s.cls := by
  unfold judgeBackup
  split <;> split <;> exact ⟨rfl, rfl, rfl, rfl, rfl, rfl, rfl, rfl, rfl⟩

theorem restoredStore_memory (st : Store) :
    (restoredStore st).slots = (match st.engine with
      | .checkpoint _ slot _ _ _ _ => st.slots.set slot .torn
      | .idle => st.slots
      | .image _ _ _ => st.slots)
    ∧ (restoredStore st).image = (match st.engine with
      | .image _ _ _ => .torn
      | .idle => st.image
      | .checkpoint _ _ _ _ _ _ => st.image)
    ∧ (restoredStore st).highestGen = st.highestGen ∧ (restoredStore st).writePos = st.writePos := by
  unfold restoredStore
  cases st.engine <;> exact ⟨rfl, rfl, rfl, rfl⟩

theorem shiftBackup_cases (u : ShiftUnit) :
    u.backupEntry.overdueAt = none ∧ u.backupEntry.lapseAt = none
    ∧ (u.state = .offered ∨ u.state = .acceptHeld →
        u.backupEntry.state = (if u.expected.isSome then .window else .onShift)
          ∧ u.backupEntry.offer = none ∧ u.backupEntry.accept = none)
    ∧ (u.state ≠ .offered → u.state ≠ .acceptHeld → u.backupEntry = { u with overdueAt := none, lapseAt := none }) := by
  refine ⟨rfl, rfl, fun h => ?_, fun ho ha => ?_⟩
  · unfold ShiftUnit.backupEntry ShiftUnit.offerEnds
    rw [if_pos h]
    by_cases he : u.expected.isSome = true
    · rw [if_pos he, if_pos he]
      exact ⟨rfl, rfl, rfl⟩
    · rw [if_neg he, if_neg he]
      exact ⟨rfl, rfl, rfl⟩
  · unfold ShiftUnit.backupEntry
    rw [if_neg (not_or.mpr ⟨ho, ha⟩)]

/-- A unit at a BACKUP entry: its interval credited, its mode lost but for the pre-outage mode (R142). -/
theorem unitBackup_spec (r : UnitRec) (m : Elapsed) :
    (r.backupEntry m).mode = .unknown ∧ (r.backupEntry m).test = false ∧ (r.backupEntry m).hold = none
    ∧ (r.backupEntry m).start = m
    ∧ (r.backupEntry m).preOutage = (if r.mode = .unknown then r.preOutage else some r.mode)
    ∧ (r.backupEntry m).starts = r.starts ∧ (r.backupEntry m).stops = r.stops ∧ (r.backupEntry m).trips = r.trips
    ∧ ∀ k : Fin 6, (r.backupEntry m).run[k] = r.value m k := by
  refine ⟨rfl, rfl, rfl, rfl, rfl, ?_, ?_, ?_, fun k => credit_run r m k⟩ <;> unfold UnitRec.backupEntry <;> simp

/-- Settles O39: the entry changes of each retained block, the loss of the main domain, and VBACKUP judged on the
result, which touches neither the writer's program memory nor the main domain. -/
theorem backupEntry : Obligations.BackupEntry := by
  intro s mv hrun
  have hruns : runs s = true := by simp [runs, hrun]
  have hsup := backupEntry_supply mv s hruns
  refine ⟨Machine.backupEntry mv s, rfl, ?_⟩
  have heq : Machine.backupEntry mv s = judgeBackup mv (loseMain (retainedEntry { s with supply.state := .backup })) := by
    rw [Machine.backupEntry, if_pos hruns]
  rw [heq] at hsup ⊢
  generalize hs0 : ({ s with supply.state := .backup } : State) = s0
  have hclock0 : s0.clock = s.clock := by rw [← hs0]
  have htally0 : s0.tally = s.tally := by rw [← hs0]
  have hann0 : s0.ann = s.ann ∧ s0.recorder = s.recorder := by rw [← hs0]; exact ⟨rfl, rfl⟩
  have hshift0 : s0.shift = s.shift := by rw [← hs0]
  have hlines0 : s0.lines = s.lines := by rw [← hs0]
  have hstore0 : s0.store = s.store := by rw [← hs0]
  rw [hs0] at hsup
  have honly := only_loseMain (retainedEntry s0)
  have hclock := (honly.clock (by decide)).trans ((retainedEntry_clock s0).trans (congrArg Clock.backupEntry hclock0))
  have htally := (honly.tally (by decide)).trans (retainedEntry_tally s0)
  have hshift := (honly.shift (by decide)).trans
    ((retainedEntry_shift s0).trans (congrArg ShiftUnit.backupEntry hshift0))
  have hlines (i : Fin 8) : (loseMain (retainedEntry s0)).lines[i] = cut s.lines[i] := by
    rw [honly.lines (by decide), retainedEntry_line, hlines0]
  have hgroups : (∀ g : Fin 16, (loseMain (retainedEntry s0)).ann[g] = settled s.ann[g])
      ∧ sameNumbers s.recorder (loseMain (retainedEntry s0)).recorder := by
    obtain ⟨hann, hrec⟩ := retainedEntry_ann s0
    rw [honly.ann (by decide), honly.recorder (by decide), hann, hrec, ← hann0.1, ← hann0.2]
    exact groupsBackup_spec _
  have hstore : (loseMain (retainedEntry s0)).store = discardedStore s.store := by
    rw [loseMain_eq]
    dsimp only
    rw [(only_retainedEntry s0).store (by decide), hstore0]
  have hports : (loseMain (retainedEntry s0)).portU = PortPath.empty
      ∧ (loseMain (retainedEntry s0)).portS = PortPath.empty ∧ (loseMain (retainedEntry s0)).cls.work = none := by
    rw [loseMain_eq]
    exact ⟨rfl, rfl, rfl⟩
  generalize loseMain (retainedEntry s0) = l at *
  obtain ⟨hslots, himage, hgen, hpos⟩ := restoredStore_memory s.store
  obtain ⟨hidle, hwait⟩ := restoredStore_idle s.store
  obtain ⟨jflags, jorder, jengine, jwaiting, jslots, jimage, jportU, jportS, jcls⟩ := judgeBackup_main mv l
  have hret (hmv : 2200 ≤ mv) := judgeBackup_of_kept mv l hmv
  generalize judgeBackup mv l = t at *
  refine ⟨by rw [hsup], by rw [hsup], by rw [hsup], by rw [hsup], fun hmv => ?_,
    by rw [jflags, hstore]; rfl, by rw [jorder, hstore]; rfl, by rw [jengine, hstore]; exact hidle,
    by rw [jwaiting, hstore]; exact hwait, by rw [jslots, hstore]; exact hslots, by rw [jimage, hstore]; exact himage,
    jportU.trans hports.1, jportS.trans hports.2.1, jcls ▸ hports.2.2⟩
  obtain rfl : t = l := hret hmv
  obtain ⟨hover, hlapse, hended, hstands⟩ := shiftBackup_cases s.shift
  obtain ⟨hann, hrslots, hrnext, hrlist⟩ := hgroups
  refine ⟨by rw [hsup]; simp only [if_neg (show ¬mv < 2200 by omega)], ?_, ?_, ?_, ?_, ?_, ?_, ?_, ?_, ?_, ?_, ?_, ?_, ?_,
    fun u => ?_, hann, hrslots, hrnext, hrlist, by rw [hshift, backupEntry_openRec], by rw [hshift, backupEntry_list],
    by rw [hshift, hover], by rw [hshift, hlapse], fun h => by rw [hshift]; exact hended h,
    fun ho ha => by rw [hshift]; exact hstands ho ha, hlines, by rw [hstore]; exact hgen, by rw [hstore]; exact hpos⟩
  case refine_14 =>
    have hu : t.tally[u] = s.tally[u].backupEntry s.clock.m := by
      rw [htally, Fin.getElem_fin, Vector.getElem_map, htally0, hclock0]
      rfl
    rw [hu]
    exact unitBackup_spec _ _
  all_goals rw [hclock, clockBackupEntry_eq]
  · exact fun h => by rw [if_pos h]; exact ⟨rfl, rfl⟩
  · exact fun ha hl => by rw [if_neg (not_or.mpr ⟨ha, hl⟩)]; exact ⟨rfl, rfl⟩
  all_goals split <;> rfl

end Sys2Proof.Proofs
end

section
/-! SUPPORT. What the start sequences have in common: they do not read the supply monitor, and each goes through one image
load and one start of the path (R60, R78, R190, R198). -/

namespace Sys2Proof.Proofs

open Sys2Proof Sys2Proof.Machine Sys2Proof.Safety

/-! ### Operations that do not read the supply monitor -/

/-- The operation neither reads nor writes the supply monitor. -/
def Blind (f : State → State) : Prop := ∀ (s : State) (x : Supply), f { s with supply := x } = { f s with supply := x }

theorem Blind.comp {f g : State → State} (hg : Blind g) (hf : Blind f) : Blind (fun s => g (f s)) := by
  intro s x
  dsimp only
  rw [hf s x, hg (f s) x]

theorem Blind.foldl {α : Type} {f : State → α → State} (hf : ∀ a, Blind (fun s => f s a)) :
    ∀ l : List α, Blind (fun s => l.foldl f s)
  | [] => fun _ _ => rfl
  | a :: l => by
    have h : Blind (fun s => l.foldl f (f s a)) := (Blind.foldl hf l).comp (hf a)
    exact h

theorem Blind.ite {f g : State → State} {p : State → Prop} [DecidablePred p]
    (hp : ∀ (s : State) (x : Supply), p { s with supply := x } ↔ p s) (hf : Blind f) (hg : Blind g) :
    Blind (fun s => if p s then f s else g s) := by
  intro s x
  dsimp only
  by_cases h : p s
  · rw [if_pos h, if_pos ((hp s x).mpr h), hf s x]
  · rw [if_neg h, if_neg (fun h' => h ((hp s x).mp h')), hg s x]

theorem blind_agree (i : Fin 8) : Blind (agree i) := by
  intro s x
  unfold agree
  dsimp only
  cases s.cfg.lines[i].function.cycle with
  | some cy => dsimp only; split <;> rfl
  | none => dsimp only; split <;> rfl

theorem blind_cutLine (i : Fin 8) : Blind (cutLine i) := by
  intro s x
  unfold cutLine
  dsimp only
  cases s.lines[i].pulse <;> rfl

theorem blind_startLine (i : Fin 8) : Blind (startLine i) := by
  intro s x
  unfold startLine
  dsimp only
  by_cases h : s.cfg.lines[i].function.cycle.isSome = true
  · rw [if_pos h, if_pos h]
    rfl
  · rw [if_neg h, if_neg h]
    rfl

theorem blind_requestCheckpoint (u : Fin 6) (why : Reason) : Blind (requestCheckpoint u why) := by
  intro s x
  unfold requestCheckpoint
  dsimp only
  cases s.store.flags[u] <;> rfl

theorem blind_restartHandoverTimer : Blind restartHandoverTimer := by
  intro s x
  unfold restartHandoverTimer
  dsimp only
  split <;> rfl

/-- With no last minute both examiners only take one up (R34, R36, R37). -/
theorem runExaminers_fresh (s : State) (hd : s.cal.lastDue = none) (hw : s.cal.lastWarn = none) :
    runExaminers s = if s.clock.state = .unset then s else { s with
      cal.lastDue := some (presentMinute s)
      cal.lastWarn := if s.cfg.cal.lead = 0 then none else some (presentMinute s + s.cfg.cal.lead) } := by
  have hdue : runDue s = { s with cal.lastDue := some (presentMinute s) } := by
    simp only [runDue, hd, examine_none, Bool.false_eq_true, if_false]
  unfold runExaminers
  rw [hdue]
  split
  · rfl
  · unfold runWarning
    dsimp only
    split
    · rfl
    · simp only [hw, examine_none, Bool.false_eq_true, if_false]
      rfl

theorem blind_calendarStart : Blind calendarStart := by
  intro s x
  unfold calendarStart
  rw [runExaminers_fresh _ rfl rfl, runExaminers_fresh _ rfl rfl]
  dsimp only
  split <;> rfl

theorem blind_loaded : Blind loaded := fun _ _ => rfl

theorem blind_imageLoad : Blind imageLoad := by
  intro s x
  have h : Blind (fun s => calendarStart (agreeAll (loaded s))) :=
    blind_calendarStart.comp ((Blind.foldl blind_agree allLines).comp blind_loaded)
  have hx := h s x
  dsimp only at hx
  rw [imageLoad_eq, imageLoad_eq, hx]
  generalize calendarStart (agreeAll (loaded s)) = t
  rfl

/-! ### A path started on the loaded image -/

theorem startPath_resp (t : State) : (startPath t).resp = Responder.cold := rfl

theorem startPath_cls (t : State) :
    (startPath t).cls = { t.cls with work := none, pointer := .u, fault := none } := rfl

theorem clearCounters_cnt (t : State) :
    (clearCounters t).cnt = { store := { abandoned := if t.store.abandoned then 1 else 0 } } := rfl

/-- The main domain with its image loaded and its path started, before the lines start. -/
def booted (s : State) : State := startPath (imageLoad s)

theorem blind_booted : Blind booted := by
  have h : Blind startPath := fun _ _ => rfl
  exact h.comp blind_imageLoad

/-- What a path started on a loaded image changes. -/
abbrev bootParts : List Part := [.clock, .cal, .portU, .portS, .cls, .resp, .lines, .nLines, .store, .cfg]

theorem only_booted (s : State) : Only bootParts s (booted s) :=
  ((only_imageLoad s).mono (by decide)).trans ((only_startPath _).mono (by decide))

theorem booted_cfg (s : State) : (booted s).cfg = (imageToLoad s.store).1 :=
  ((only_startPath _).cfg (by decide)).trans (imageLoad_cfg s)

theorem booted_cls (s : State) : (booted s).cls = {
    work := none, pointer := .u, active := (imageToLoad s.store).2, standby := (imageToLoad s.store).2
    hits := Vector.replicate 128 0, fault := none } := by
  rw [booted, startPath_cls, imageLoad_cls]

theorem booted_resp (s : State) : (booted s).resp = Responder.cold := startPath_resp _

theorem booted_ports (s : State) : (booted s).portU = PortPath.empty ∧ (booted s).portS = PortPath.empty :=
  startPath_ports _

theorem booted_cal (s : State) : (booted s).cal.fields = localTime (booted s).cfg.cal s.clock.sec
    ∧ (booted s).cal.flag = inForce (booted s).cfg.cal s.clock.sec := by
  have h : (booted s).cal = (imageLoad s).cal := (only_startPath _).cal (by decide)
  rw [h, booted_cfg]
  exact imageLoad_fields s

theorem booted_store (s : State) :
    (booted s).store = { s.store with configInvalid := (validImage s.store).isNone } :=
  ((only_startPath _).store (by decide)).trans (imageLoad_store s)

theorem booted_clock (s : State) :
    (booted s).clock = { s.clock with limitTaken := (booted s).clock.limitTaken } := by
  have h : (booted s).clock = (imageLoad s).clock := (only_startPath _).clock (by decide)
  rw [h]
  exact imageLoad_clock s

theorem booted_m (s : State) : (booted s).clock.m = s.clock.m := by rw [booted_clock]

theorem booted_line (i : Fin 8) (s : State) :
    (booted s).lines[i] = agreed s (booted s).cfg.lines[i] s.lines[i] := by
  rw [booted_cfg, ← imageLoad_line]
  rw [booted, (only_startPath _).lines (by decide)]

/-! ### Lines started on the loaded image (R170, R181) -/

/-- What a start leaves of a line: its pulse by its function, and its dial but for a cycle that is not its own. -/
structure LineStarted (m : Elapsed) (c : LineCfg) (l n : Line) : Prop where
  pulse : n.pulse = if c.function.cycle.isSome = true ∨ c.function = .hourMeter then
    .gap (m + BitVec.ofNat 48 c.gap) else .rest
  pending : n.pending = l.pending
  dial : n.pos = l.pos ∧ n.pol = l.pol
  cycle : ∀ cy : Cycle, c.function.cycle = some cy → l.cycle = some cy → n.cycle = some cy

theorem lineStarted (s t : State) (c : LineCfg) (l : Line) :
    LineStarted t.clock.m c l (started t c (agreed s c l)) where
  pulse := rfl
  pending := by rw [agreed_eq]; rfl
  dial := by rw [agreed_eq]; exact ⟨rfl, rfl⟩
  cycle cy hcy hl := by
    have h : (agreed s c l).cycle = some cy := by
      unfold agreed
      rw [hcy]
      dsimp only
      rw [if_pos hl]
      exact hl
    exact h

theorem startLines_started {s t : State} (i : Fin 8) (hl : t.lines = (booted s).lines) (hc : t.cfg = (booted s).cfg)
    (hm : t.clock = (booted s).clock) :
    LineStarted s.clock.m (startLines t).cfg.lines[i] s.lines[i] (startLines t).lines[i] := by
  rw [startLines_line, (only_startLines t).cfg (by decide), hc, hl, booted_line, ← booted_m s, ← hm]
  exact lineStarted s t _ _

/-! ### A restart of the main domain (R190) -/

theorem mainRestart_eq (s : State) : mainRestart s = clearCounters (startLines (booted s)) := rfl

theorem blind_mainRestart : Blind mainRestart := by
  have h : Blind clearCounters := fun _ _ => rfl
  exact (h.comp (Blind.foldl blind_startLine allLines)).comp blind_booted

/-- After the lines start only they differ, and after the counters are cleared only these. -/
theorem only_restartTail (t : State) : Only ([.lines, .store] ++ counterParts) t (clearCounters (startLines t)) :=
  ((only_startLines t).mono (by decide)).trans ((only_clearCounters _).mono (by decide))

theorem mainRestart_cnt (s : State) :
    (mainRestart s).cnt = { store := { abandoned := if s.store.abandoned then 1 else 0 } } := by
  rw [mainRestart_eq, clearCounters_cnt, (only_startLines _).store (by decide), booted_store]

theorem mainRestart_line (i : Fin 8) (s : State) :
    LineStarted s.clock.m (mainRestart s).cfg.lines[i] s.lines[i] (mainRestart s).lines[i] := by
  rw [mainRestart_eq, (only_clearCounters _).cfg (by decide), (only_clearCounters _).lines (by decide)]
  exact startLines_started i rfl rfl rfl

/-- The main domain as a restart leaves it, whatever was there. -/
theorem mainRestart_main (s : State) : (mainRestart s).cfg = (imageToLoad s.store).1
    ∧ (mainRestart s).cls = {
        work := none, pointer := .u, active := (imageToLoad s.store).2, standby := (imageToLoad s.store).2
        hits := Vector.replicate 128 0, fault := none }
    ∧ (mainRestart s).resp = Responder.cold
    ∧ (mainRestart s).cal.flag = inForce (mainRestart s).cfg.cal s.clock.sec
    ∧ (mainRestart s).cal.fields = localTime (mainRestart s).cfg.cal s.clock.sec := by
  have h := only_restartTail (booted s)
  rw [mainRestart_eq, h.cfg (by decide), h.cls (by decide), h.resp (by decide), h.cal (by decide)]
  exact ⟨booted_cfg s, booted_cls s, booted_resp s, (booted_cal s).2, (booted_cal s).1⟩

/-! ### A notice at a quiet port (R54, R210) -/

theorem place_quiet {s : State} (c : EgressClass) (f : TxFrame) (hport : s.portS = PortPath.empty)
    (hdue : s.resp.restartDue = false) :
    place .s c f s = { s with portS := { PortPath.empty with tx := some ⟨f, s.now⟩ } } := by
  have hp : s.port .s = PortPath.empty := hport
  have hstart : startsAtOnce s .s = true := by
    rw [startsAtOnce_iff, hp]
    exact ⟨rfl, rfl, rfl, rfl, hdue⟩
  rw [place, if_pos hstart, hp]
  rfl

theorem notice_quiet {s : State} (code : Nat) (body : List Byte) (hlive : live s = true)
    (hport : s.portS = PortPath.empty) (hdue : s.resp.restartDue = false) :
    ∃ x, notice code body s = { s with
      portS := { PortPath.empty with tx := some x }, resp.noticeNo := s.resp.noticeNo + 1
      cnt.resp.notices := s.cnt.resp.notices + 1 } := by
  rw [notice, if_pos hlive]
  exact ⟨_, place_quiet _ _ hport hdue⟩

end Sys2Proof.Proofs
end

section
/-! OBLIGATIONS. The reset line and RESTART (R61, R190, R195, R203). -/

namespace Sys2Proof.Proofs

open Sys2Proof Sys2Proof.Machine Sys2Proof.Safety

/-! ### The main domain held -/

/-- The main domain held, before its lines are silenced. -/
def heldPath (s : State) : State :=
  { s with
    store := restoredStore s.store, portU := PortPath.empty, portS := PortPath.empty, cls.work := none
    clock := s.clock.hold, resp := { Responder.cold with noticeNo := s.resp.noticeNo } }

theorem mainHold_eq (s : State) : mainHold s = cutLines (heldPath s) := by
  unfold mainHold
  rw [abandonAndRestore_eq]
  rfl

theorem blind_mainHold : Blind mainHold := by
  have h : Blind heldPath := fun _ _ => rfl
  intro s x
  rw [mainHold_eq, mainHold_eq, h s x]
  exact Blind.foldl blind_cutLine allLines (heldPath s) x

/-- So many pulses were cut short, and the lines' other counters stand. -/
def PulsesCut (n : Nat) (s t : State) : Prop := t.cnt.lines = { s.cnt.lines with
  pulseCut := s.cnt.lines.pulseCut + BitVec.ofNat 32 n }

theorem pulsesCut_none {s t : State} (h : t.cnt = s.cnt) : PulsesCut 0 s t := by
  have e : s.cnt.lines.pulseCut + BitVec.ofNat 32 0 = s.cnt.lines.pulseCut := BitVec.add_zero _
  rw [PulsesCut, e, h]

theorem PulsesCut.trans {a b : Nat} {s t u : State} (h : PulsesCut a s t) (k : PulsesCut b t u) :
    PulsesCut (a + b) s u := by
  have e : t.cnt.lines.pulseCut = s.cnt.lines.pulseCut + BitVec.ofNat 32 a := congrArg LineCnt.pulseCut h
  rw [PulsesCut, BitVec.ofNat_add, ← BitVec.add_assoc, ← e]
  rw [PulsesCut] at h k
  rw [k, h]

theorem cutLine_cut (i : Fin 8) (s : State) :
    PulsesCut (if s.lines[i].pulse.wire.isSome = true then 1 else 0) s (cutLine i s) := by
  unfold cutLine
  extract_lets l t
  have hl : s.lines[i].pulse = l.pulse := rfl
  rw [hl]
  cases l.pulse with
  | drive w e => exact rfl
  | rest => exact pulsesCut_none rfl
  | gap e => exact pulsesCut_none rfl

/-- Over several lines the pulses cut short add up. -/
theorem foldl_cutLine_cut : ∀ (xs : List (Fin 8)) (s : State), xs.Nodup →
    PulsesCut (xs.countP (fun i => s.lines[i].pulse.wire.isSome)) s (xs.foldl (fun s i => cutLine i s) s)
  | [], s, _ => pulsesCut_none rfl
  | x :: xs, s, hx => by
    obtain ⟨hxs, hnodup⟩ := List.nodup_cons.mp hx
    have hsame : xs.countP (fun i => (cutLine x s).lines[i].pulse.wire.isSome)
        = xs.countP (fun i => s.lines[i].pulse.wire.isSome) := by
      refine List.countP_congr fun j hj => ?_
      have hj : j ≠ x := fun h => hxs (h ▸ hj)
      rw [cutLine_line, if_neg hj]
    have hrest := foldl_cutLine_cut xs (cutLine x s) hnodup
    rw [hsame] at hrest
    rw [List.foldl_cons, List.countP_cons, Nat.add_comm]
    exact (cutLine_cut x s).trans hrest

theorem mainHold_lineCounts (s : State) : (mainHold s).cnt.lines = { s.cnt.lines with
    pulseCut := s.cnt.lines.pulseCut
      + BitVec.ofNat 32 ((List.finRange 8).countP (fun i => s.lines[i].pulse.wire.isSome)) } := by
  have h := foldl_cutLine_cut (List.finRange 8) (heldPath s) (List.nodup_finRange 8)
  have hlines : allLines = List.finRange 8 := rfl
  rw [PulsesCut, ← hlines, ← cutLines, ← mainHold_eq] at h
  exact h

theorem mainHold_cls (s : State) : (mainHold s).cls = { s.cls with work := none } := by
  rw [mainHold_eq]
  exact (only_cutLines _).cls (by decide)

theorem mainHold_resp (s : State) : (mainHold s).resp = { Responder.cold with noticeNo := s.resp.noticeNo } := by
  rw [mainHold_eq]
  exact (only_cutLines _).resp (by decide)

theorem restoredStore_eq (st : Store) : restoredStore st = (match st.engine with
    | .idle => { st with waiting := none }
    | .checkpoint u slot _ why _ _ => { st with
        slots := st.slots.set slot .torn, flags := st.flags.set u (some why)
        order := u :: st.order.filter (fun v => v != u), engine := .idle, waiting := none, abandoned := true }
    | .image _ _ _ => { st with image := .torn, engine := .idle, waiting := none }) := by
  cases h : st.engine <;> simp only [restoredStore, h]

/-- The store after a RESTART: the image is judged as the interruption left it (R195, R198). -/
theorem restartedStore_eq (st : Store) :
    { restoredStore st with configInvalid := (validImage (restoredStore st)).isNone, abandoned := false }
      = (match st.engine with
        | .idle => { st with waiting := none, abandoned := false, configInvalid := (validImage st).isNone }
        | .checkpoint u slot _ why _ _ => { st with
            slots := st.slots.set slot .torn, flags := st.flags.set u (some why)
            order := u :: st.order.filter (fun v => v != u), engine := .idle, waiting := none
            abandoned := false, configInvalid := (validImage st).isNone }
        | .image _ _ _ => { st with
            image := .torn, engine := .idle, waiting := none, abandoned := false, configInvalid := true }) := by
  cases h : st.engine <;> simp only [restoredStore, h] <;> rfl

/-! ### The reset line (O44) -/

theorem resetAsserted_run {s : State} (hrun : s.supply.state = .run) (hline : s.supply.resetLine = false) :
    exec .resetAsserted s = .next { mainHold s with supply := { s.supply with resetLine := true } } := by
  refine exec_next_inj ?_
  have hruns : runs s = true := by simp [runs, hrun]
  unfold resetAsserted
  rw [if_neg (by rw [hline]; exact Bool.false_ne_true)]
  dsimp only
  exact (if_pos hruns).trans (blind_mainHold s _)

theorem resetReleased_run {s : State} (hrun : s.supply.state = .run) (hline : s.supply.resetLine = true) :
    exec .resetReleased s = .next (match s.supply.halted with
      | some .cold => coldMain { s with supply.resetLine := false }
      | some .warm => warmMain { s with supply.resetLine := false }
      | none => mainRestart { s with supply.resetLine := false }) := by
  refine exec_next_inj ?_
  have hruns : runs { s with supply.resetLine := false } = true := by simp [runs, hrun]
  unfold resetReleased
  rw [if_pos hline]
  dsimp only
  exact if_pos hruns

/-- A release after an assertion restarts what the assertion held. -/
theorem release_restarts {s m : State} (hm : m.supply = s.supply) (hrun : s.supply.state = .run)
    (hline : s.supply.resetLine = false) (hhalt : s.supply.halted = none) :
    exec .resetReleased { m with supply := { s.supply with resetLine := true } } = .next (mainRestart m) := by
  have hnone : ({ m with supply := { s.supply with resetLine := true } } : State).supply.halted = none := hhalt
  have hself : ({ m with supply := { s.supply with resetLine := false } } : State) = m := by
    rw [← hline, ← hm]
  rw [resetReleased_run (s := { m with supply := { s.supply with resetLine := true } }) hrun rfl, hnone]
  exact exec_next_inj (congrArg mainRestart hself)

/-- Settles O44: the assertion holds the main domain and the release restarts it; neither reads the supply monitor. -/
theorem resetLine : Obligations.ResetLine := by
  intro s hrun
  refine ⟨fun hline => ⟨_, resetAsserted_run hrun hline, ?_⟩, fun hline hhalt => ?_⟩
  · have honly : Only (.supply :: holdParts) s { mainHold s with supply := { s.supply with resetLine := true } } :=
      (only_mainHold s).seq (only_set_supply _ _) (by decide) (by decide)
    have hclock := mainHold_clock s
    have hports := mainHold_ports s
    have hcls := mainHold_cls s
    have hresp := mainHold_resp s
    have hline := fun i => mainHold_line i s
    have hcut := mainHold_lineCounts s
    have hstore := mainHold_store s
    generalize mainHold s = t at *
    refine ⟨rfl, hclock, hports.1, hports.2, hcls, ?_, ?_, ?_, hline, hcut, ?_, honly.mono (by decide)⟩
    · exact congrArg Responder.state hresp
    · exact congrArg Responder.inProgress hresp
    · exact congrArg Responder.handed hresp
    · dsimp only
      rw [hstore]
      exact restoredStore_eq s.store
  · have hexec := resetReleased_run hrun hline
    rw [hhalt] at hexec
    refine ⟨_, hexec, ?_⟩
    dsimp only
    rw [blind_mainRestart s]
    have honly : Only (.supply :: restartParts) s { mainRestart s with supply := { s.supply with resetLine := false } } :=
      (only_mainRestart s).seq (only_set_supply _ _) (by decide) (by decide)
    obtain ⟨hcfg, hcls, hresp, hflag, hfields⟩ := mainRestart_main s
    have hports := mainRestart_ports s
    have hcnt := mainRestart_cnt s
    have hstore := mainRestart_store s
    have hlines := fun i => mainRestart_line i s
    have hclock := mainRestart_clock s
    generalize mainRestart s = t at *
    refine ⟨rfl, hcfg, ?_, ?_, ?_, ?_, ?_, ?_, hresp, hports.1, hports.2, hflag, hfields, hcnt, hstore,
      fun i => ⟨(hlines i).pulse, (hlines i).dial⟩, hclock, honly.mono (by decide)⟩
    all_goals
      dsimp only
      rw [hcls]

/-! ### RESTART (O45) -/

/-- A request that is taken at once and not answered yet. -/
theorem command_silent {auth : Authority} {op : Request → State → Served} {code : Byte} {h : ReqHead}
    {body : List Byte} {s u : State} (ha : answering s) (hauth : auth = .engineer → s.supply.commission = true)
    (hop : op ⟨h, code, body⟩ (taken s) = (u, none)) : command code auth op h body s = u := by
  obtain ⟨hlive, hready, hnone⟩ := ha
  have hcond : ¬(auth = .engineer ∧ s.supply.commission = false) :=
    fun ⟨he, hc⟩ => absurd ((hauth he).symm.trans hc) (by decide)
  have hop' : op ⟨h, code, body⟩ (s.countResp (fun c => { c with taken := c.taken + 1 })) = (u, none) := hop
  simp only [command, hlive, hready, hnone, if_true, conduct, countResp_supply, if_neg hcond, hop']

/-- The answer to a RESTART: its reply placed, marked, and the responder waiting for it to leave. -/
theorem restart_taken {s u : State} {h : ReqHead} {body : List Byte} {f : TxFrame} {room : Bool} (hs : commissioned s)
    (hf : f = ⟨buildFrame h.src s.cfg.net.station s.cfg.net.mtype (be 2 h.tag.toNat ++ [0x1A, 0x00]), true⟩)
    (hroom : hasRoom s h.port .notice = room) (hu : place h.port .notice f (taken s) = u) (hresp : u.resp = s.resp) :
    exec (.restart h body) s = .next { u with
      resp := { s.resp with
        state := .restartPending, inProgress := some ⟨h, 0x1A, body⟩, restartDue := !room } } := by
  refine exec_next_inj (command_silent hs.1 (fun _ => hs.2) ?_)
  have hreply : (⟨replyFrame ⟨h, 0x1A, body⟩ ⟨.ok, []⟩ (taken s), true⟩ : TxFrame) = f := by
    rw [hf]
    simp [replyFrame, taken, Status.code, be]
  have hr : hasRoom (taken s) h.port .notice = room := hroom
  unfold opRestart
  dsimp only
  rw [hreply, hr, hu, hresp]

theorem taken_port (s : State) (p : Port) : (taken s).port p = s.port p := by cases p <;> rfl

/-- Settles O45: the reply is placed by R53 and R54, and the effect is the main domain held and restarted. -/
theorem restart : Obligations.Restart := by
  intro s h body f hf
  have hroom (b : Bool) (hb : decide ((s.port h.port).notice.length < 16) = b) : hasRoom s h.port .notice = b := hb
  have hfield (x : PortPath) : ((taken s).withPort h.port x).resp = s.resp := by cases h.port <;> rfl
  refine ⟨fun hs htx hur hno hbu hdue => ?_, fun hs hbusy hlen => ?_, fun hs hlen => ?_, fun hlive hpend hdue => ?_⟩
  · have hstart : startsAtOnce (taken s) h.port = true := by
      rw [startsAtOnce_iff, taken_port]
      exact ⟨htx, hur, hno, hbu, hdue⟩
    have hu : place h.port .notice f (taken s)
        = (taken s).withPort h.port { s.port h.port with tx := some ⟨f, s.now⟩ } := by
      rw [place, if_pos hstart, taken_port]
      rfl
    exact restart_taken hs hf (hroom true (by rw [hno]; rfl)) hu (hfield _)
  · have hstart : ¬startsAtOnce (taken s) h.port = true := by
      rw [startsAtOnce_iff, taken_port]
      rintro ⟨h1, h2, h3, h4, h5⟩
      rcases hbusy with hb | hb | hb | hb | hb
      · rw [h1] at hb
        cases hb
      · exact hb h2
      · exact hb h3
      · exact hb h4
      · exact absurd (h5.symm.trans hb) (by decide)
    have hr := hroom true (decide_eq_true hlen)
    have hu : place h.port .notice f (taken s)
        = (taken s).withPort h.port { s.port h.port with notice := (s.port h.port).notice ++ [f] } := by
      rw [place, if_neg hstart, if_pos (show hasRoom (taken s) h.port .notice = true from hr), taken_port]
      rfl
    exact restart_taken hs hf hr hu (hfield _)
  · have hstart : ¬startsAtOnce (taken s) h.port = true := by
      rw [startsAtOnce_iff, taken_port]
      rintro ⟨-, -, hno, -, -⟩
      rw [hno] at hlen
      exact absurd hlen (by decide)
    have hr := hroom false (decide_eq_false (by omega))
    have hu : place h.port .notice f (taken s)
        = (taken s).countPort h.port (fun c => { c with dropNotice := c.dropNotice + 1 }) := by
      rw [place, if_neg hstart, if_neg (show ¬hasRoom (taken s) h.port .notice = true from by
        rw [show hasRoom (taken s) h.port .notice = false from hr]; exact Bool.false_ne_true)]
      rfl
    have hc : ((taken s).countPort h.port (fun c => { c with dropNotice := c.dropNotice + 1 })).resp = s.resp := by
      cases h.port <;> rfl
    exact restart_taken hs hf hr hu hc
  · have hexec : exec .restartTakesEffect s = .next (mainRestart (mainHold s)) := by
      have hd : restartDue s = true := by simp [restartDue, hlive, hpend, hdue]
      exact exec_next_inj (if_pos hd)
    have ⟨hrun, hline⟩ : s.supply.state = .run ∧ s.supply.resetLine = false := by simpa [live] using hlive
    have honly := (only_mainHold s).seq (only_mainRestart (mainHold s)) (l := restartParts) (by decide) (by decide)
    obtain ⟨hcfg, hcls, hresp, hflag, hfields⟩ := mainRestart_main (mainHold s)
    have hports := mainRestart_ports (mainHold s)
    have hcnt := mainRestart_cnt (mainHold s)
    have hstore := mainRestart_store (mainHold s)
    have hlines := fun i => mainRestart_line i (mainHold s)
    have hclock := mainRestart_clock (mainHold s)
    rw [mainHold_clock] at hclock hflag hfields
    simp only [mainHold_clock, mainHold_line] at hlines
    rw [mainHold_store] at hcnt hstore
    rw [mainHold_store] at hcfg hcls
    have himage : imageToLoad (mainRestart (mainHold s)).store = imageToLoad (restoredStore s.store) := by
      rw [hstore]
      rfl
    have hreleased := release_restarts ((only_mainHold s).supply (by decide)) hrun hline
    generalize mainRestart (mainHold s) = t at *
    refine ⟨t, hexec, fun hhalt => ⟨_, resetAsserted_run hrun hline, hreleased hhalt⟩, hports.1, hports.2,
      hresp, hcfg.trans (congrArg Prod.fst himage.symm), ?_, ?_, ?_, ?_, ?_, ?_, hflag, hfields, ?_, ?_, hclock,
      fun i => ⟨(hlines i).pulse, (hlines i).pending, (hlines i).dial⟩, honly⟩
    · rw [hcls, himage]
    · rw [hcls, himage]
    · rw [hcls]
    · rw [hcls]
    · rw [hcls]
    · rw [hcls]
    · exact hstore.trans (restartedStore_eq s.store)
    · rw [hcnt, restoredStore]
      cases s.store.engine <;> simp [Engine.code]

end Sys2Proof.Proofs
end

section
/-! OBLIGATIONS. The warm start (R189), and requests for the checkpoints of all units (R192). -/

namespace Sys2Proof.Proofs

open Sys2Proof Sys2Proof.Machine Sys2Proof.Safety

/-! ### All six checkpoints requested (R192) -/

theorem foldl_request_clear (why : Reason) : ∀ (us : List (Fin 6)) (s : State), us.Nodup →
    (∀ u ∈ us, s.store.flags[u] = none) →
    us.foldl (fun s u => requestCheckpoint u why s) s = { s with
      store.flags := us.foldl (fun f (u : Fin 6) => f.set u (some why)) s.store.flags, store.order := s.store.order ++ us }
  | [], s, _, _ => by rw [List.append_nil]; rfl
  | u :: us, s, hus, hclear => by
    obtain ⟨hu, hnodup⟩ := List.nodup_cons.mp hus
    have hstep := requestCheckpoint_of_clear (why := why) (hclear u List.mem_cons_self)
    have hrest : ∀ v ∈ us, (requestCheckpoint u why s).store.flags[v] = none := by
      intro v hv
      have hne : v ≠ u := fun h => hu (h ▸ hv)
      rw [requestCheckpoint_flags, if_neg hne, hclear v (List.mem_cons_of_mem u hv)]
    rw [List.foldl_cons, foldl_request_clear why us _ hnodup hrest, hstep, List.foldl_cons]
    dsimp only
    rw [List.append_assoc, List.singleton_append]

theorem foldl_request_set (why : Reason) : ∀ (us : List (Fin 6)) (s : State),
    (∀ u ∈ us, s.store.flags[u].isSome = true) →
    us.foldl (fun s u => requestCheckpoint u why s) s
      = { s with cnt.store.coalesced := s.cnt.store.coalesced + BitVec.ofNat 32 us.length }
  | [], s, _ => by
    have e : s.cnt.store.coalesced + BitVec.ofNat 32 ([] : List (Fin 6)).length = s.cnt.store.coalesced :=
      BitVec.add_zero _
    rw [e]
    rfl
  | u :: us, s, hset => by
    obtain ⟨old, hold⟩ := Option.isSome_iff_exists.mp (hset u List.mem_cons_self)
    have hstep := requestCheckpoint_of_set (why := why) hold
    have hrest : ∀ v ∈ us, (requestCheckpoint u why s).store.flags[v].isSome = true := by
      rw [hstep]
      exact fun v hv => hset v (List.mem_cons_of_mem u hv)
    have e : s.cnt.store.coalesced + 1 + BitVec.ofNat 32 us.length
        = s.cnt.store.coalesced + BitVec.ofNat 32 (u :: us).length := by
      rw [List.length_cons, BitVec.ofNat_add, BitVec.add_assoc, BitVec.add_comm (BitVec.ofNat 32 us.length)]
      rfl
    rw [List.foldl_cons, foldl_request_set why us _ hrest, hstep, ← e]
    rfl

theorem requestAll_clear {why : Reason} {s : State} (h : ∀ u : Fin 6, s.store.flags[u] = none) :
    requestAllCheckpoints why s = { s with store := { s.store with
      flags := Vector.replicate 6 (some why), order := s.store.order ++ [0, 1, 2, 3, 4, 5] } } := by
  have hflags : allUnits.foldl (fun f (u : Fin 6) => f.set u (some why)) s.store.flags = Vector.replicate 6 (some why) := by
    refine Vector.ext fun i hi => ?_
    have hv := requestAllCheckpoints_flags why ⟨i, hi⟩ s
    rw [requestAllCheckpoints, foldl_request_clear why allUnits s (by decide) (fun u _ => h u), h] at hv
    rw [Vector.getElem_replicate]
    exact hv
  rw [requestAllCheckpoints, foldl_request_clear why allUnits s (by decide) (fun u _ => h u), hflags]
  rfl

theorem requestAll_set {why : Reason} {s : State} (h : ∀ u : Fin 6, s.store.flags[u].isSome = true) :
    requestAllCheckpoints why s = { s with cnt.store.coalesced := s.cnt.store.coalesced + 6 } :=
  foldl_request_set why allUnits s (fun u _ => h u)

/-- Requests change the writer's flags and order and nothing else of the store. -/
theorem requestAll_store (why : Reason) (s : State) : (requestAllCheckpoints why s).store = { s.store with
    flags := (requestAllCheckpoints why s).store.flags, order := (requestAllCheckpoints why s).store.order } := by
  have hone (u : Fin 6) (t : State) : (requestCheckpoint u why t).store = { t.store with
      flags := (requestCheckpoint u why t).store.flags, order := (requestCheckpoint u why t).store.order } := by
    unfold requestCheckpoint
    split <;> rfl
  have hall : ∀ (us : List (Fin 6)) (t v : State), v = us.foldl (fun s u => requestCheckpoint u why s) t →
      v.store = { t.store with flags := v.store.flags, order := v.store.order } := by
    intro us
    induction us with
    | nil => rintro t v rfl; rfl
    | cons u us ih =>
      intro t v hv
      rw [ih (requestCheckpoint u why t) v hv, hone u t]
  exact hall allUnits s _ rfl

/-! ### The warm start (O43) -/

/-- The main domain booted, every checkpoint requested and the handover timer restarted (R189, steps 2 to 4). -/
def asked (s : State) : State := restartHandoverTimer (requestAllCheckpoints .warm (booted s))

theorem only_asked (s : State) : Only [.store, .nStore, .shift] (booted s) (asked s) :=
  (only_requestAllCheckpoints _ _).seq (only_restartHandoverTimer _) (by decide) (by decide)

/-- A halted start forgotten, the lines started and the counters cleared (R189, steps 5 and 6). -/
def linesBegun (t : State) : State := clearCounters (startLines { t with supply.halted := none })

theorem warmed_eq (s : State) : warmed s = linesBegun (asked s) := by
  have h : restartHandoverTimer (requestAllCheckpoints .warm (startPath (imageLoad s))) = asked s := rfl
  unfold warmed
  rw [h]
  rfl

theorem only_linesBegun (t : State) : Only ([.supply, .lines, .store] ++ counterParts) t (linesBegun t) :=
  ((only_set_halted t).mono (by decide)).trans ((only_restartTail _).mono (by decide))

theorem linesBegun_store (t : State) : (linesBegun t).store = { t.store with abandoned := false } := by
  rw [linesBegun, clearCounters_store, (only_startLines _).store (by decide)]

theorem linesBegun_cnt (t : State) :
    (linesBegun t).cnt = { store := { abandoned := if t.store.abandoned then 1 else 0 } } := by
  rw [linesBegun, clearCounters_cnt, (only_startLines _).store (by decide)]

theorem linesBegun_line {s t : State} (i : Fin 8) (h : Only [.store, .nStore, .shift] (booted s) t) :
    LineStarted s.clock.m (linesBegun t).cfg.lines[i] s.lines[i] (linesBegun t).lines[i] := by
  rw [linesBegun, (only_clearCounters _).cfg (by decide), (only_clearCounters _).lines (by decide)]
  exact startLines_started i (h.lines (by decide)) (h.cfg (by decide)) (h.clock (by decide))

/-- What a warm start changes beyond the path started on the loaded image. -/
abbrev warmParts : List Part := [.store, .shift, .supply, .lines] ++ counterParts

theorem only_warmed_booted (s : State) : Only warmParts (booted s) (warmed s) := by
  rw [warmed_eq]
  exact (only_asked s).seq (only_linesBegun _) (by decide) (by decide)

theorem asked_store (s : State) : (asked s).store = (requestAllCheckpoints .warm (booted s)).store :=
  (only_restartHandoverTimer _).store (by decide)

theorem warmed_store (s : State) :
    (warmed s).store = { s.store with
      configInvalid := (validImage s.store).isNone, abandoned := false
      flags := (requestAllCheckpoints .warm (booted s)).store.flags
      order := (requestAllCheckpoints .warm (booted s)).store.order } := by
  rw [warmed_eq, linesBegun_store, asked_store]
  have h := requestAll_store .warm (booted s)
  have hb := booted_store s
  generalize requestAllCheckpoints .warm (booted s) = r at *
  rw [h, hb]

theorem warmed_shift (s : State) : (warmed s).shift = { s.shift with
    overdueAt := if s.shift.state = .window ∧ s.shift.overdue = false
      then some (s.clock.m + BitVec.ofNat 48 ((warmed s).cfg.overdueLen * 60000)) else s.shift.overdueAt } := by
  have hcfg : (warmed s).cfg = (booted s).cfg := (only_warmed_booted s).cfg (by decide)
  have hshift : (warmed s).shift = (asked s).shift := by
    rw [warmed_eq]
    exact (only_linesBegun _).shift (by decide)
  have hr := only_requestAllCheckpoints .warm (booted s)
  rw [hcfg, hshift, ← booted_m s, ← (only_booted s).shift (by decide), ← hr.cfg (by decide), ← hr.clock (by decide),
    ← hr.shift (by decide)]
  unfold asked
  generalize requestAllCheckpoints .warm (booted s) = r
  unfold restartHandoverTimer
  split <;> rfl

theorem warmed_line (i : Fin 8) (s : State) :
    LineStarted s.clock.m (warmed s).cfg.lines[i] s.lines[i] (warmed s).lines[i] := by
  rw [warmed_eq]
  exact linesBegun_line i (only_asked s)

theorem warmed_cnt (s : State) :
    (warmed s).cnt = { store := { abandoned := if s.store.abandoned then 1 else 0 } } := by
  rw [warmed_eq, linesBegun_cnt, asked_store, requestAll_store, booted_store]

/-- The report of a warm start, made at a quiet port. -/
theorem warmReported_quiet {t : State} (hlive : live t = true) (hport : t.portS = PortPath.empty)
    (hresp : t.resp = Responder.cold) (hcnt : t.cnt.resp = {}) : ∃ x, warmReported t = { t with
      supply := { t.supply with backupEntry := none }, portS := { PortPath.empty with tx := some x }
      resp := { Responder.cold with noticeNo := 1 }, cnt := { t.cnt with resp := { notices := 1 } } } := by
  obtain ⟨x, hx⟩ := notice_quiet (s := t) 0x86 (powerWarmBody t) hlive hport (by rw [hresp]; rfl)
  refine ⟨x, ?_⟩
  unfold warmReported
  rw [hx]
  dsimp only
  rw [hresp, hcnt]
  rfl

theorem warmReported_warmed {s : State} (hlive : live s = true) : ∃ x, warmReported (warmed s) = { warmed s with
    supply := { s.supply with halted := none, backupEntry := none }, portS := { PortPath.empty with tx := some x }
    resp := { Responder.cold with noticeNo := 1 }, cnt := { (warmed s).cnt with resp := { notices := 1 } } } := by
  have honly := only_warmed_booted s
  have hsup := warmed_supply s
  have hcnt := warmed_cnt s
  have hlive' : live (warmed s) = true := by
    rw [live, hsup]
    exact hlive
  obtain ⟨x, hx⟩ := warmReported_quiet hlive' ((honly.portS (by decide)).trans (booted_ports s).2)
    ((honly.resp (by decide)).trans (booted_resp s)) (congrArg Counters.resp hcnt)
  refine ⟨x, ?_⟩
  rw [hx, hsup]

theorem warmMain_halted (s : State) (x : Option HaltedStart) :
    warmMain { s with supply.halted := x } = warmMain s := by
  have h : Blind asked := blind_restartHandoverTimer.comp
    ((Blind.foldl (fun u => blind_requestCheckpoint u .warm) allUnits).comp blind_booted)
  have hself := h s s.supply
  have hx := h s { s.supply with halted := x }
  have hbegun : linesBegun { asked s with supply := { s.supply with halted := x } }
      = linesBegun { asked s with supply := s.supply } := rfl
  rw [warmMain_eq, warmMain_eq, warmed_eq, warmed_eq, hx, hbegun, ← hself]

theorem warmStart_halts {s : State} (hdue : warmStartDue s = true) (hline : s.supply.resetLine = true) :
    exec .warmStart s = .next
      { s with supply := { s.supply with state := .run, halted := some .warm }, clock := s.clock.warmStart } := by
  refine exec_next_inj ?_
  unfold Machine.warmStart
  rw [if_pos hdue]
  dsimp only
  rw [if_pos hline]

theorem warmStart_goesOn {s : State} (hdue : warmStartDue s = true) (hline : s.supply.resetLine = false) :
    exec .warmStart s = .next
      (warmMain { s with supply := { s.supply with state := .run }, clock := s.clock.warmStart }) := by
  refine exec_next_inj ?_
  unfold Machine.warmStart
  rw [if_pos hdue]
  dsimp only
  rw [if_neg (by rw [hline]; exact Bool.false_ne_true)]

/-- Settles O43: with the line released the path starts on the loaded image, the writer is asked and the lines start;
with it asserted the rest of the sequence waits for the release and does not read the supply monitor. -/
theorem warmStart : Obligations.WarmStart := by
  intro s hdue
  refine ⟨fun hline => ⟨_, warmStart_goesOn hdue hline, ?_⟩,
    fun hline => ⟨_, warmStart_halts hdue hline, rfl, rfl, rfl, ?_, ?_⟩⟩
  · have hlive : live { s with supply := { s.supply with state := .run }, clock := s.clock.warmStart } = true := by
      show (true && !s.supply.resetLine) = true
      rw [hline]
      rfl
    generalize hs1 : ({ s with supply := { s.supply with state := .run }, clock := s.clock.warmStart } : State) = s1 at *
    have hclock1 : s1.clock = s.clock.warmStart := by rw [← hs1]
    obtain ⟨x, hx⟩ := warmReported_warmed hlive
    rw [warmMain_eq, hx]
    have honly := only_warmed_booted s1
    have hboot := only_booted s1
    have hclock := (honly.clock (by decide)).trans (booted_clock s1)
    have hcfg := (honly.cfg (by decide)).trans (booted_cfg s1)
    have hcls := (honly.cls (by decide)).trans (booted_cls s1)
    have hresp := (honly.resp (by decide)).trans (booted_resp s1)
    have hcal := booted_cal s1
    rw [← honly.cal (by decide), ← honly.cfg (by decide)] at hcal
    have hstore := warmed_store s1
    have hshift := warmed_shift s1
    have hlines := fun i => warmed_line i s1
    have hsup := warmed_supply s1
    have htally := (honly.tally (by decide)).trans (hboot.tally (by decide))
    have hann := (honly.ann (by decide)).trans (hboot.ann (by decide))
    have hrec := (honly.recorder (by decide)).trans (hboot.recorder (by decide))
    have hportU := (honly.portU (by decide)).trans (booted_ports s1).1
    have hcnt := warmed_cnt s1
    have hflags := fun v => requestAllCheckpoints_flags .warm v (booted s1)
    have horder (h : ∀ u : Fin 6, (booted s1).store.flags[u] = none) := requestAll_clear (why := .warm) h
    rw [booted_store] at hflags horder
    generalize warmed s1 = t at *
    generalize requestAllCheckpoints .warm (booted s1) = r at *
    rw [hclock1] at hclock hcal hshift hlines
    rw [show s1.store = s.store from by rw [← hs1]] at *
    rw [show s1.shift = s.shift from by rw [← hs1]] at *
    rw [show s1.lines = s.lines from by rw [← hs1]] at *
    refine ⟨by rw [← hs1], ?_, ?_, ?_, ?_, ?_, ?_, ?_, ?_, htally.trans (by rw [← hs1]), hann.trans (by rw [← hs1]),
      hrec.trans (by rw [← hs1]), hcfg, (congrArg Classifier.active hcls).trans rfl,
      (congrArg Classifier.standby hcls).trans rfl, (congrArg Classifier.hits hcls).trans rfl, hcal.2, hcal.1,
      (congrArg Store.configInvalid hstore).trans rfl, (congrArg Store.slots hstore).trans rfl,
      (congrArg Store.image hstore).trans rfl, fun u => ?_, fun h => ?_, hshift,
      fun i => ⟨fun h => ?_, fun h => ?_, (hlines i).dial.1, (hlines i).dial.2, (hlines i).cycle⟩, hportU, rfl, rfl, rfl,
      rfl, rfl, (congrArg Counters.clock hcnt).trans rfl, rfl⟩
    · exact (congrArg Clock.trim hclock).trans rfl
    · exact (congrArg Clock.integral hclock).trans rfl
    · exact (congrArg Clock.state hclock).trans rfl
    · exact (congrArg Clock.sec hclock).trans rfl
    · exact (congrArg Clock.ns hclock).trans rfl
    · exact (congrArg Clock.m hclock).trans rfl
    · exact (congrArg Clock.lastMarker hclock).trans rfl
    · exact (congrArg Clock.held hclock).trans rfl
    · have e : t.store.flags[u] = r.store.flags[u] := by rw [hstore]
      exact e.trans (hflags u)
    · have e : t.store.order = r.store.order := (congrArg Store.order hstore).trans rfl
      refine e.trans ?_
      rw [horder h]
    · exact (hlines i).pulse.trans (if_pos h)
    · refine (hlines i).pulse.trans (if_neg ?_)
      have hfun : t.cfg.lines[i].function = .off ∨ t.cfg.lines[i].function = .secondMark := h
      rcases hfun with hf | hf <;> rw [hf] <;> decide
  · have hgoes := warmStart_goesOn (s := { s with supply.resetLine := false }) hdue rfl
    have hreleased := resetReleased_run (s := { s with
      supply := { s.supply with state := .run, halted := some .warm }, clock := s.clock.warmStart }) rfl hline
    rw [hgoes, hreleased]
    exact exec_next_inj (warmMain_halted { s with
      supply := { s.supply with state := .run, resetLine := false }, clock := s.clock.warmStart } (some .warm))
  · constructor <;> intro h <;> first | rfl | exact absurd (by decide) h

end Sys2Proof.Proofs
end

section
/-! OBLIGATIONS. The cold-start scan (R197) and the cold start (R188). -/

namespace Sys2Proof.Proofs

open Sys2Proof Sys2Proof.Machine Sys2Proof.Safety

/-! ### The scan, slot by slot (R197) -/

/-- The scan as a walk over the slot numbers. -/
theorem scanSlots_eq (slots : Vector Slot 1024) : scanSlots slots
    = (List.finRange 1024).foldl (fun a i => a.slot i slots[i])
        { best := Vector.replicate 6 none, highest := 0, pos := 1023, invalid := 0 } := by
  have h : slots.toList.zipIdx = (List.finRange 1024).map (fun i => (slots[i], i.val)) := by
    refine List.ext_getElem (by simp) (fun n h1 h2 => ?_)
    simp
  unfold scanSlots
  rw [h, List.foldl_map]
  congr 1
  funext a i
  rw [Fin.ofNat_val_eq_self]

theorem slot_invalid {a : Scan} {i : Fin 1024} {x : Slot} (h : x.record = none) :
    a.slot i x = { a with invalid := a.invalid + 1 } := by
  unfold Scan.slot
  rw [h]

theorem keep_best (a : Scan) (r : Ckpt) (u : Fin 6) : (a.keep r).best[u] =
    if u = r.unit ∧ a.best[r.unit].all (fun q => q.gen < r.gen) = true then some r else a.best[u] := by
  unfold Scan.keep
  cases hb : a.best[r.unit] with
  | none =>
    simp only [Option.all_none, and_true]
    exact getElem_set_fin ..
  | some q =>
    simp only [Option.all_some, decide_eq_true_eq]
    by_cases hq : q.gen < r.gen
    · simp only [hq, and_true, if_true]
      exact getElem_set_fin ..
    · simp only [hq, and_false, if_false]

theorem keep_rest (a : Scan) (r : Ckpt) :
    (a.keep r).highest = a.highest ∧ (a.keep r).pos = a.pos ∧ (a.keep r).invalid = a.invalid := by
  unfold Scan.keep
  split
  · exact ⟨rfl, rfl, rfl⟩
  · split <;> exact ⟨rfl, rfl, rfl⟩

theorem slot_valid {a : Scan} {i : Fin 1024} {x : Slot} {r : Ckpt} (h : x.record = some r) :
    (a.slot i x).best = (a.keep r).best ∧ (a.slot i x).invalid = a.invalid
    ∧ (a.slot i x).highest = (if a.highest < r.gen then r.gen else a.highest)
    ∧ (a.slot i x).pos = (if a.highest < r.gen then i else a.pos) := by
  obtain ⟨hhighest, hpos, hinvalid⟩ := keep_rest a r
  unfold Scan.slot
  rw [h]
  dsimp only
  rw [hhighest]
  split
  · exact ⟨rfl, hinvalid, rfl, rfl⟩
  · exact ⟨rfl, hinvalid, hhighest, hpos⟩

/-- A walk that stays below a mark until it meets one place, and at the mark from there on. -/
theorem foldl_meets {α β : Type} [DecidableEq β] {f : α → β → α} {below at_ : α → Prop} {j : β}
    (hbelow : ∀ a i, i ≠ j → below a → below (f a i)) (hmeets : ∀ a, below a → at_ (f a j))
    (hat : ∀ a i, i ≠ j → at_ a → at_ (f a i)) :
    ∀ (l : List β) (a : α), l.Nodup → (j ∉ l → at_ a → at_ (l.foldl f a)) ∧ (j ∈ l → below a → at_ (l.foldl f a))
  | [], _, _ => ⟨fun _ h => h, fun h => absurd h List.not_mem_nil⟩
  | i :: l, a, hl => by
    obtain ⟨hi, hnodup⟩ := List.nodup_cons.mp hl
    obtain ⟨hpast, hahead⟩ := foldl_meets hbelow hmeets hat l (f a i) hnodup
    refine ⟨fun hj ha => ?_, fun hj ha => ?_⟩
    · have hne : i ≠ j := fun h => hj (h ▸ List.mem_cons_self)
      exact hpast (fun h => hj (List.mem_cons_of_mem i h)) (hat a i hne ha)
    · by_cases hij : i = j
      · subst hij
        exact hpast hi (hmeets a ha)
      · exact hahead ((List.mem_cons.mp hj).resolve_left (Ne.symm hij)) (hbelow a i hij ha)

/-- The walk over all slots meets a slot: below the mark before it, at the mark after it. -/
theorem scanSlots_meets (slots : Vector Slot 1024) (j : Fin 1024) {below at_ : Scan → Prop}
    (hstart : below { best := Vector.replicate 6 none, highest := 0, pos := 1023, invalid := 0 })
    (hbelow : ∀ (a : Scan) (i : Fin 1024), i ≠ j → below a → below (a.slot i slots[i]))
    (hmeets : ∀ a : Scan, below a → at_ (a.slot j slots[j]))
    (hat : ∀ (a : Scan) (i : Fin 1024), i ≠ j → at_ a → at_ (a.slot i slots[i])) : at_ (scanSlots slots) := by
  rw [scanSlots_eq]
  exact (foldl_meets hbelow hmeets hat (List.finRange 1024) _ (List.nodup_finRange 1024)).2 (List.mem_finRange j) hstart

/-- A condition that holds before the walk and is kept at every slot holds after it. -/
theorem scanSlots_keeps (slots : Vector Slot 1024) {p : Scan → Prop}
    (hstart : p { best := Vector.replicate 6 none, highest := 0, pos := 1023, invalid := 0 })
    (hstep : ∀ (a : Scan) (i : Fin 1024), p a → p (a.slot i slots[i])) : p (scanSlots slots) := by
  rw [scanSlots_eq]
  exact List.foldlRecOn _ _ hstart (fun a ha i _ => hstep a i ha)

theorem slot_best (a : Scan) (i : Fin 1024) (x : Slot) (u : Fin 6) : (a.slot i x).best[u] = a.best[u]
    ∨ ∃ r, x.record = some r ∧ r.unit = u ∧ a.best[u].all (fun q => q.gen < r.gen) = true
      ∧ (a.slot i x).best[u] = some r := by
  cases hx : x.record with
  | none => exact .inl (by rw [slot_invalid hx])
  | some r =>
    rw [(slot_valid hx).1, keep_best]
    by_cases h : u = r.unit ∧ a.best[r.unit].all (fun q => q.gen < r.gen) = true
    · obtain ⟨rfl, hall⟩ := h
      exact .inr ⟨r, rfl, rfl, hall, by rw [if_pos ⟨rfl, hall⟩]⟩
    · exact .inl (by rw [if_neg h])

/-- A unit without a valid record has none after the scan. -/
theorem scanSlots_none {slots : Vector Slot 1024} {u : Fin 6}
    (h : ∀ i : Fin 1024, slots[i].record.all (fun q => q.unit != u) = true) : (scanSlots slots).best[u] = none := by
  refine scanSlots_keeps slots (p := fun a => a.best[u] = none) (Vector.getElem_replicate ..) (fun a i ha => ?_)
  rcases slot_best a i slots[i] u with hb | ⟨r, hr, hu, -, -⟩
  · rw [hb, ha]
  · have hi := h i
    rw [hr, Option.all_some, hu, bne_self_eq_false] at hi
    cases hi

/-- A unit's record of highest generation is the one the scan keeps. -/
theorem scanSlots_best {slots : Vector Slot 1024} {j : Fin 1024} {r : Ckpt} (hj : slots[j].record = some r)
    (h : ∀ i : Fin 1024, i ≠ j → slots[i].record.all (fun q => q.unit != r.unit || q.gen < r.gen) = true) :
    (scanSlots slots).best[r.unit] = some r := by
  have hlower (i : Fin 1024) (hi : i ≠ j) (q : Ckpt) (hq : slots[i].record = some q) (hu : q.unit = r.unit) :
      q.gen < r.gen := by
    have hall := h i hi
    rw [hq, Option.all_some, hu, bne_self_eq_false, Bool.false_or] at hall
    exact of_decide_eq_true hall
  refine scanSlots_meets slots j (below := fun a => a.best[r.unit].all (fun q => q.gen < r.gen) = true)
    (at_ := fun a => a.best[r.unit] = some r) ?_ (fun a i hi ha => ?_) (fun a ha => ?_) (fun a i hi ha => ?_)
  · rw [Fin.getElem_fin, Vector.getElem_replicate]
    rfl
  · rcases slot_best a i slots[i] r.unit with hb | ⟨q, hq, hu, -, hb⟩ <;> rw [hb]
    · exact ha
    · exact decide_eq_true (hlower i hi q hq hu)
  · rw [(slot_valid hj).1, keep_best, if_pos ⟨rfl, ha⟩]
  · rcases slot_best a i slots[i] r.unit with hb | ⟨q, hq, hu, hall, -⟩
    · rw [hb, ha]
    · rw [ha] at hall
      exact absurd (hlower i hi q hq hu) (Nat.lt_asymm (of_decide_eq_true hall))

theorem record_gen_pos {x : Slot} {r : Ckpt} (h : x.record = some r) : 0 < r.gen := by
  cases x with
  | erased => cases h
  | torn => cases h
  | bytes b =>
    have hb : Ckpt.ofBytes b = some r := h
    unfold Ckpt.ofBytes at hb
    split at hb
    · split at hb
      next hok =>
        obtain rfl := Option.some.inj hb
        exact of_decide_eq_true (Bool.and_eq_true_iff.mp hok).2
      next => cases hb
    · cases hb

/-- The highest generation of all, and its slot (R197). -/
theorem scanSlots_highest {slots : Vector Slot 1024} {j : Fin 1024} {r : Ckpt} (hj : slots[j].record = some r)
    (h : ∀ i : Fin 1024, i ≠ j → slots[i].record.all (fun q => q.gen < r.gen) = true) :
    (scanSlots slots).highest = r.gen ∧ (scanSlots slots).pos = j := by
  have hlower (i : Fin 1024) (hi : i ≠ j) (q : Ckpt) (hq : slots[i].record = some q) : q.gen < r.gen := by
    have hall := h i hi
    rw [hq] at hall
    exact of_decide_eq_true hall
  refine scanSlots_meets slots j (below := fun a => a.highest < r.gen)
    (at_ := fun a => a.highest = r.gen ∧ a.pos = j) (record_gen_pos hj) (fun a i hi ha => ?_) (fun a ha => ?_)
    (fun a i hi ha => ?_)
  · cases hq : slots[i].record with
    | none => rw [slot_invalid hq]; exact ha
    | some q =>
      rw [(slot_valid hq).2.2.1]
      split
      · exact hlower i hi q hq
      · exact ha
  · obtain ⟨-, -, hhighest, hpos⟩ := slot_valid (a := a) (i := j) hj
    rw [hhighest, hpos, if_pos ha, if_pos ha]
    exact ⟨rfl, rfl⟩
  · cases hq : slots[i].record with
    | none => rw [slot_invalid hq]; exact ha
    | some q =>
      obtain ⟨-, -, hhighest, hpos⟩ := slot_valid (a := a) (i := i) hq
      have hnot : ¬a.highest < q.gen := by
        rw [ha.1]
        exact Nat.lt_asymm (hlower i hi q hq)
      rw [hhighest, hpos, if_neg hnot, if_neg hnot]
      exact ha

theorem scanSlots_empty {slots : Vector Slot 1024} (h : ∀ i : Fin 1024, slots[i].record = none) :
    (scanSlots slots).highest = 0 ∧ (scanSlots slots).pos = 1023 := by
  refine scanSlots_keeps slots (p := fun a => a.highest = 0 ∧ a.pos = 1023) ⟨rfl, rfl⟩ (fun a i ha => ?_)
  rw [slot_invalid (h i)]
  exact ha

theorem foldl_slot_invalid (slots : Vector Slot 1024) : ∀ (l : List (Fin 1024)) (a : Scan),
    (l.foldl (fun a i => a.slot i slots[i]) a).invalid = a.invalid + l.countP (fun i => slots[i].record.isNone)
  | [], a => rfl
  | i :: l, a => by
    have hstep : (a.slot i slots[i]).invalid = a.invalid + if slots[i].record.isNone = true then 1 else 0 := by
      cases hq : slots[i].record with
      | none => rw [slot_invalid hq]; rfl
      | some q => rw [(slot_valid hq).2.1]; rfl
    rw [List.foldl_cons, foldl_slot_invalid slots l, hstep, List.countP_cons]
    omega

theorem scanSlots_invalid (slots : Vector Slot 1024) :
    (scanSlots slots).invalid = (List.finRange 1024).countP (fun i => slots[i].record.isNone) := by
  rw [scanSlots_eq, foldl_slot_invalid, Nat.zero_add]

end Sys2Proof.Proofs
end

section
/-! OBLIGATIONS. The cold start (R188). -/

namespace Sys2Proof.Proofs

open Sys2Proof Sys2Proof.Machine Sys2Proof.Safety

/-! ### The main domain's share of a cold start (R188, steps 8 to 10) -/

theorem imageLoad_limitTaken {s : State} (h : s.clock.state ≠ .holdover) : (imageLoad s).clock.limitTaken = false := by
  obtain ⟨t, b, -, honly, ht⟩ := imageLoad_parts s
  have hclock : t.clock = s.clock := honly.clock (by decide)
  have hst : (s.clock.state == ClockState.holdover) = false := beq_false_of_ne h
  rw [imageLoad_eq, ← ht]
  dsimp only
  rw [ageAtLimit, hclock, hst, Bool.false_and]

theorem booted_limitTaken {s : State} (h : s.clock.state ≠ .holdover) : (booted s).clock.limitTaken = false :=
  (congrArg Clock.limitTaken ((only_startPath (imageLoad s)).clock (by decide))).trans (imageLoad_limitTaken h)

/-- A cold start reports itself at the port that its path leaves quiet. -/
theorem coldMain_eq {s : State} (hlive : live s = true) : ∃ x, coldMain s = { booted s with
    shift := { s.shift with openRec := { s.shift.openRec with crew := (booted s).cfg.initialCrew } }
    supply := { s.supply with halted := none }, portS := { PortPath.empty with tx := some x }
    resp := { Responder.cold with noticeNo := 1 }
    cnt := {
      store := { invalidSlots := BitVec.ofNat 32 (scanSlots s.store.slots).invalid }, resp := { notices := 1 } } } := by
  have hshift := (only_booted s).shift (by decide)
  have hsup := (only_booted s).supply (by decide)
  have hport := (booted_ports s).2
  have hresp := booted_resp s
  have hb : startPath (imageLoad s) = booted s := rfl
  unfold coldMain
  rw [hb]
  generalize booted s = t at *
  extract_lets sc s0 u o sup s1
  have hlive1 : live s1 = true := by
    rw [live]
    unfold s1 sup
    dsimp only
    rw [hsup]
    exact hlive
  obtain ⟨x, hx⟩ := notice_quiet (s := s1) 0x86 (powerColdBody (sc.best.toList.map (fun r => r.map Ckpt.gen)) sc.invalid
    s1.store.configInvalid s1.clock.state.code (qualityClass s1).val) hlive1 hport (congrArg Responder.restartDue hresp)
  refine ⟨x, hx.trans ?_⟩
  unfold s1 sup o u
  dsimp only
  rw [hshift, hsup, hresp]
  rfl

theorem coldMain_halted (s : State) (x : Option HaltedStart) :
    coldMain { s with supply.halted := x } = coldMain s := by
  have hself := blind_booted s s.supply
  have hx := blind_booted s { s.supply with halted := x }
  have hb (v : State) : startPath (imageLoad v) = booted v := rfl
  unfold coldMain
  rw [hb, hb, hx, hself]

/-! ### Cold start (O42) -/

theorem coldStart_halts {s : State} (hdue : coldStartDue s = true) (hline : s.supply.resetLine = true) :
    exec .coldStart s = .next { coldRetained s with supply := { (coldRetained s).supply with halted := some .cold } } := by
  refine exec_next_inj ?_
  have hr : (coldRetained s).supply.resetLine = true := hline
  unfold Machine.coldStart
  rw [if_pos hdue]
  generalize coldRetained s = t at *
  dsimp only
  rw [if_pos hr]

theorem coldStart_goesOn {s : State} (hdue : coldStartDue s = true) (hline : s.supply.resetLine = false) :
    exec .coldStart s = .next (coldMain (coldRetained s)) := by
  refine exec_next_inj ?_
  have hr : ¬(coldRetained s).supply.resetLine = true := by
    rw [show (coldRetained s).supply.resetLine = false from hline]
    exact Bool.false_ne_true
  unfold Machine.coldStart
  rw [if_pos hdue]
  generalize coldRetained s = t at *
  dsimp only
  rw [if_neg hr]

/-- What a cold start sets of the retained domain and the store, whatever the main domain then does (R188, steps 1 to
7). -/
structure ColdRetained (s t : State) : Prop where
  tally : t.tally = (scanSlots s.store.slots).best.map UnitRec.restored
  highest : t.store.highestGen = (scanSlots s.store.slots).highest
  pos : t.store.writePos = (scanSlots s.store.slots).pos
  slots : t.store.slots = s.store.slots
  image : t.store.image = s.store.image
  writer : t.store.flags = Vector.replicate 6 none ∧ t.store.order = [] ∧ t.store.engine = .idle
    ∧ t.store.waiting = none
  clock : t.clock = Clock.cold
  recorder : t.recorder = Recorder.cold
  ann : t.ann = Vector.replicate 16 Group.cold
  shift : ∃ crew, t.shift = { ShiftUnit.cold (runSnapshot t) with
    openRec := { OpenShift.first (runSnapshot t) with crew := crew } }
  line : ∀ i : Fin 8, t.lines[i].cycle = none ∧ t.lines[i].pol = .a ∧ t.lines[i].pulse = .rest
    ∧ t.lines[i].target = none

theorem coldRetained_cold (s : State) : ColdRetained s (coldRetained s) where
  tally := rfl
  highest := rfl
  pos := rfl
  slots := rfl
  image := rfl
  writer := ⟨rfl, rfl, rfl, rfl⟩
  clock := rfl
  recorder := rfl
  ann := rfl
  shift := ⟨1, rfl⟩
  line i := by
    have h : (coldRetained s).lines = Vector.replicate 8 Line.cold := rfl
    rw [h, Fin.getElem_fin, Vector.getElem_replicate]
    exact ⟨rfl, rfl, rfl, rfl⟩

/-- The image load leaves a cold line without its dial. -/
theorem agreed_cold (s : State) (c : LineCfg) (l : Line) (h : l.cycle = none) : (agreed s c l).cycle = none := by
  unfold agreed
  split
  next cy _ => rw [h, if_neg (by nofun)]
  next => split <;> exact h

theorem ColdRetained.booted {s r t : State} (h : ColdRetained s r) {crew : Nat} (hboot : Only [.shift, .supply, .portS,
    .resp, .nStore, .nResp, .nClock, .nCal, .nPortU, .nPortS, .nCls, .nRecorder, .nAnn, .nTally, .nShift, .nLines]
      (booted r) t)
    (hshift : t.shift = { r.shift with openRec := { r.shift.openRec with crew := crew } }) : ColdRetained s t := by
  have hb := only_booted r
  have htally : t.tally = r.tally := (hboot.tally (by decide)).trans (hb.tally (by decide))
  have hstore := (hboot.store (by decide)).trans (booted_store r)
  have hclock : t.clock = Clock.cold := by
    have hlimit := booted_limitTaken (s := r) (by rw [h.clock]; decide)
    rw [hboot.clock (by decide), booted_clock, hlimit, h.clock]
    rfl
  obtain ⟨hflags, horder, hengine, hwaiting⟩ := h.writer
  refine ⟨htally.trans h.tally, ?_, ?_, ?_, ?_, ⟨?_, ?_, ?_, ?_⟩, hclock,
    ((hboot.recorder (by decide)).trans (hb.recorder (by decide))).trans h.recorder,
    ((hboot.ann (by decide)).trans (hb.ann (by decide))).trans h.ann, ?_, fun i => ?_⟩
  · rw [hstore]; exact h.highest
  · rw [hstore]; exact h.pos
  · rw [hstore]; exact h.slots
  · rw [hstore]; exact h.image
  · rw [hstore]; exact hflags
  · rw [hstore]; exact horder
  · rw [hstore]; exact hengine
  · rw [hstore]; exact hwaiting
  · obtain ⟨c, hc⟩ := h.shift
    refine ⟨crew, ?_⟩
    have hsnap : runSnapshot t = runSnapshot r := by rw [runSnapshot, runSnapshot, htally]
    rw [hshift, hc, hsnap]
  · obtain ⟨hcycle, hpol, hpulse, htarget⟩ := h.line i
    rw [hboot.lines (by decide), booted_line]
    refine ⟨agreed_cold _ _ _ hcycle, ?_, ?_, ?_⟩ <;> rw [agreed_eq]
    · exact hpol
    · exact hpulse
    · exact htarget

/-- The parts of the statement that the retained domain and the store settle. -/
theorem ColdRetained.spec {s t : State} (h : ColdRetained s t) (j : Fin 1024) (r : Ckpt) :
    (s.store.slots[j].record = some r →
      (∀ i : Fin 1024, i ≠ j → s.store.slots[i].record.all (fun q => q.unit != r.unit || q.gen < r.gen) = true) →
      t.tally[r.unit].run = r.run ∧ t.tally[r.unit].starts = r.starts ∧ t.tally[r.unit].stops = r.stops
        ∧ t.tally[r.unit].trips = r.trips)
    ∧ (∀ u : Fin 6, (∀ i : Fin 1024, s.store.slots[i].record.all (fun q => q.unit != u) = true) →
      t.tally[u].run = Vector.replicate 6 0 ∧ t.tally[u].starts = Vector.replicate 5 0
        ∧ t.tally[u].stops = Vector.replicate 5 0 ∧ t.tally[u].trips = 0)
    ∧ (∀ u : Fin 6, t.tally[u].mode = .unknown ∧ t.tally[u].test = false ∧ t.tally[u].start = 0
      ∧ t.tally[u].preOutage = none ∧ t.tally[u].hold = none ∧ t.tally[u].lastCkpt = 0)
    ∧ (s.store.slots[j].record = some r →
      (∀ i : Fin 1024, i ≠ j → s.store.slots[i].record.all (fun q => q.gen < r.gen) = true) →
      t.store.highestGen = r.gen ∧ t.store.writePos = j)
    ∧ ((∀ i : Fin 1024, s.store.slots[i].record = none) → t.store.highestGen = 0 ∧ t.store.writePos = 1023) := by
  have hunit (u : Fin 6) : t.tally[u] = UnitRec.restored (scanSlots s.store.slots).best[u] := by
    rw [h.tally, Fin.getElem_fin, Vector.getElem_map]
    rfl
  refine ⟨fun hj hall => ?_, fun u hall => ?_, fun u => ?_, fun hj hall => ?_, fun hall => ?_⟩
  · rw [hunit, scanSlots_best hj hall]
    exact ⟨rfl, rfl, rfl, rfl⟩
  · rw [hunit, scanSlots_none hall]
    exact ⟨rfl, rfl, rfl, rfl⟩
  · rw [hunit]
    cases (scanSlots s.store.slots).best[u] <;> exact ⟨rfl, rfl, rfl, rfl, rfl, rfl⟩
  · rw [h.highest, h.pos]
    exact scanSlots_highest hj hall
  · rw [h.highest, h.pos]
    exact scanSlots_empty hall

theorem ColdRetained.rest {s t : State} (h : ColdRetained s t) :
    t.store.slots = s.store.slots ∧ t.store.image = s.store.image
    ∧ t.store.flags = Vector.replicate 6 none ∧ t.store.order = [] ∧ t.store.engine = .idle
    ∧ t.store.waiting = none
    ∧ t.clock = Clock.cold
    ∧ t.recorder.list = [] ∧ t.recorder.nextSeq = 1
    ∧ (∀ n : Fin 64, t.recorder.slots[n].used = false ∧ t.recorder.slots[n].repeats = 0
        ∧ t.recorder.slots[n].stales = 0)
    ∧ (∀ g : Fin 16, t.ann[g] = { state := .quiet, ref := none, deadline := none, trips := 0, lost := false })
    ∧ t.shift.openRec.number = 1 ∧ t.shift.list = [] ∧ t.shift.state = .onShift
    ∧ (∀ u k : Fin 6, t.shift.openRec.snaps[u][k] = (t.tally[u].run[k] : Int))
    ∧ (∀ i : Fin 8, t.lines[i].cycle = none ∧ t.lines[i].pol = .a ∧ t.lines[i].pulse = .rest
        ∧ t.lines[i].target = none) := by
  obtain ⟨hflags, horder, hengine, hwaiting⟩ := h.writer
  obtain ⟨crew, hshift⟩ := h.shift
  refine ⟨h.slots, h.image, hflags, horder, hengine, hwaiting, h.clock, by rw [h.recorder]; rfl,
    by rw [h.recorder]; rfl, fun n => ?_, fun g => ?_, by rw [hshift]; rfl, by rw [hshift]; rfl, by rw [hshift]; rfl,
    fun u k => ?_, h.line⟩
  · have hslot : t.recorder.slots[n] = SourceSlot.cold := by
      rw [h.recorder]
      exact Vector.getElem_replicate ..
    rw [hslot]
    exact ⟨rfl, rfl, rfl⟩
  · rw [h.ann]
    exact Vector.getElem_replicate ..
  · have hsnap : t.shift.openRec.snaps = runSnapshot t := by rw [hshift]; rfl
    rw [hsnap, runSnapshot]
    simp

/-- Settles O42: the scan restores the tallies, the retained domain is cold, and the main domain starts on the image at
once or, under an asserted line, at its release, which does not read the supply monitor. -/
theorem coldStart : Obligations.ColdStart := by
  intro s j r hdue
  have hcold := coldRetained_cold s
  have hslots : (coldRetained s).store.slots = s.store.slots := rfl
  have hstore : (validImage (coldRetained s).store) = validImage s.store := rfl
  have hload : imageToLoad (coldRetained s).store = imageToLoad s.store := rfl
  have hsup : (coldRetained s).supply
      = { s.supply with state := .run, retention := true, backupEntry := none } := rfl
  by_cases hline : s.supply.resetLine = true
  · have hgoes := coldStart_goesOn (s := { s with supply.resetLine := false }) hdue rfl
    have hcr : coldRetained { s with supply.resetLine := false }
        = { coldRetained s with supply.resetLine := false } := rfl
    have hexec := coldStart_halts hdue hline
    rw [hcr] at hgoes
    clear hcr
    generalize coldRetained s = c at *
    have hrun : ({ c with supply := { c.supply with halted := some .cold } } : State).supply.state = .run := by
      show c.supply.state = .run
      rw [hsup]
    have hline' : ({ c with supply := { c.supply with halted := some .cold } } : State).supply.resetLine = true := by
      show c.supply.resetLine = true
      rw [hsup]
      exact hline
    have hreleased := resetReleased_run hrun hline'
    have hc : ColdRetained s { c with supply := { c.supply with halted := some .cold } } :=
      ⟨hcold.tally, hcold.highest, hcold.pos, hcold.slots, hcold.image, hcold.writer, hcold.clock, hcold.recorder,
        hcold.ann, hcold.shift, hcold.line⟩
    obtain ⟨h1, h2, h3, h4, h5⟩ := hc.spec j r
    obtain ⟨r1, r2, r3, r4, r5, r6, r7, r8, r9, r10, r11, r12, r13, r14, r15, r16⟩ := hc.rest
    refine ⟨_, hexec, h1, h2, h3, h4, h5, r1, r2, r3, r4, r5, r6, r7, r8, r9, r10, r11, r12, r13, r14, r15, r16, ?_,
      fun h => absurd (h.symm.trans hline) (by decide), fun _ => ?_⟩
    · dsimp only
      rw [hsup, if_pos hline]
    · rw [hgoes, hreleased]
      exact exec_next_inj (coldMain_halted { c with supply := { c.supply with resetLine := false } } (some .cold))
  · have hline' : s.supply.resetLine = false := Bool.eq_false_iff.mpr hline
    have hexec := coldStart_goesOn hdue hline'
    have hinvalid := scanSlots_invalid s.store.slots
    generalize coldRetained s = c at *
    have hlive : live c = true := by
      rw [live, hsup]
      dsimp only
      rw [hline']
      rfl
    obtain ⟨x, hx⟩ := coldMain_eq hlive
    have hcls := booted_cls c
    have hcfg := booted_cfg c
    have hst := booted_store c
    have hportU := (booted_ports c).1
    have hc : ColdRetained s (coldMain c) := by
      generalize coldMain c = t at hx
      subst hx
      refine hcold.booted (crew := (booted c).cfg.initialCrew) ?_ rfl
      generalize booted c = b
      constructor <;> intro h <;> first | rfl | exact absurd (by decide) h
    rw [hslots, hinvalid] at hx
    rw [hload] at hcls hcfg
    rw [hstore] at hst
    obtain ⟨h1, h2, h3, h4, h5⟩ := hc.spec j r
    obtain ⟨r1, r2, r3, r4, r5, r6, r7, r8, r9, r10, r11, r12, r13, r14, r15, r16⟩ := hc.rest
    refine ⟨_, hexec, h1, h2, h3, h4, h5, r1, r2, r3, r4, r5, r6, r7, r8, r9, r10, r11, r12, r13, r14, r15, r16, ?_,
      fun _ => ?_, fun h => absurd (h.symm.trans hline') (by decide)⟩
    · rw [hx, if_neg hline]
      dsimp only
      rw [hsup]
    · rw [hx]
      generalize booted c = b at *
      exact ⟨hcfg, (congrArg Classifier.active hcls).trans rfl, (congrArg Classifier.standby hcls).trans rfl,
        (congrArg Classifier.hits hcls).trans rfl, (congrArg Classifier.fault hcls).trans rfl,
        (congrArg Classifier.work hcls).trans rfl, (congrArg Classifier.pointer hcls).trans rfl,
        (congrArg Store.configInvalid hst).trans rfl, rfl, rfl, rfl, rfl, hportU, rfl, rfl, rfl, rfl, rfl, rfl⟩

end Sys2Proof.Proofs
end

section
/-! OBLIGATIONS. The programs of the checkpoint writer and of the configuration image (R193, R194, R196, R199). -/

namespace Sys2Proof.Proofs

open Sys2Proof Sys2Proof.Machine Sys2Proof.Safety

/-! ### Checkpoint programs (O46) -/

/-- A unit's snapshot: its interval credited, its last checkpoint now, the rest of it as it was (R136). -/
theorem checkpointSnapshot_unit (u v : Fin 6) (s : State) : (checkpointSnapshot u s).tally[v]
    = if v = u then { s.tally[u].credit s.clock.m with lastCkpt := s.clock.m, hourlyAsked := false }
      else s.tally[v] := by
  unfold checkpointSnapshot
  extract_lets t
  have hclock : t.clock = s.clock := (only_creditUnit u s).clock (by decide)
  have hset : (t.withUnit u { t.tally[u] with lastCkpt := t.clock.m, hourlyAsked := false }).tally[v]
      = if v = u then { t.tally[u] with lastCkpt := t.clock.m, hourlyAsked := false } else t.tally[v] :=
    getElem_set_fin ..
  have hunit (w : Fin 6) : t.tally[w] = if w = u then s.tally[u].credit s.clock.m else s.tally[w] :=
    creditUnit_unit u w s
  rw [hset, hunit, hunit, if_pos rfl, hclock]
  split <;> rfl

/-- The head of the order taken off it, its flag cleared (R193, steps 1 and 2). -/
def headTaken (u : Fin 6) (rest : List (Fin 6)) (s : State) : State :=
  { s with store.order := rest, store.flags := s.store.flags.set u none }

theorem ckptStart_eq {s : State} {u : Fin 6} {rest : List (Fin 6)} {why : Reason} (horder : s.store.order = u :: rest)
    (hflag : s.store.flags[u] = some why) :
    ckptStart s = { checkpointSnapshot u (headTaken u rest s) with
      store := { s.store with
        order := rest, flags := s.store.flags.set u none
        engine := .checkpoint u (s.store.writePos + 1) (s.store.highestGen + 1) why
          (ckptOf (s.store.highestGen + 1) u why (checkpointSnapshot u (headTaken u rest s)).tally[u]).encode
          ⟨s.clock.m + 3, s.clock.accNs⟩ } } := by
  have hstore := (only_checkpointSnapshot u (headTaken u rest s)).store (by decide)
  have hclock : (checkpointSnapshot u (headTaken u rest s)).clock = s.clock :=
    (only_checkpointSnapshot u (headTaken u rest s)).clock (by decide)
  unfold ckptStart
  rw [horder]
  dsimp only
  rw [hflag]
  have hh : ({ s with store.order := rest, store.flags := s.store.flags.set u none } : State) = headTaken u rest s := rfl
  rw [hh]
  generalize checkpointSnapshot u (headTaken u rest s) = t at *
  rw [hstore, State.now, hclock]
  rfl

/-- Settles O46: the start takes the head of the order and credits its unit, the completion fills the slot, and the
request asks for all six units, or finds them all pending. -/
theorem checkpointProgram : Obligations.CheckpointProgram := by
  intro s u rest why slot gen bytes e h body
  refine ⟨fun hlive hidle hwait horder hflag hgen => ?_, fun hlive hengine hreached => ?_, fun hs hclear => ?_,
    fun hs hset => ?_⟩
  · have hdue : ckptStartDue s = true := by
      simp [ckptStartDue, hlive, hidle, hwait, horder, exhausted, Config.countLimit, Nat.not_le.mpr hgen]
    refine ⟨ckptStart s, exec_next_inj (if_pos hdue), ?_⟩
    rw [ckptStart_eq horder hflag]
    have hunit (v : Fin 6) : (checkpointSnapshot u (headTaken u rest s)).tally[v]
        = if v = u then { s.tally[u].credit s.clock.m with lastCkpt := s.clock.m, hourlyAsked := false }
          else s.tally[v] := checkpointSnapshot_unit u v _
    have honly : Only [.tally, .nTally, .store] s (checkpointSnapshot u (headTaken u rest s)) :=
      (only_set_store s _).seq (only_checkpointSnapshot u (headTaken u rest s)) (by decide) (by decide)
    generalize checkpointSnapshot u (headTaken u rest s) = t at *
    have hu := (hunit u).trans (if_pos rfl)
    refine ⟨?_, fun k => ?_, ?_, ?_, ?_, ?_, fun v hv => ?_, honly.trans ((only_set_store t _).mono (by decide))⟩
    · dsimp only
      rw [ckptOf, hu]
      simp only [credit_starts, credit_stops, credit_trips]
    · dsimp only
      rw [hu]
      exact credit_run ..
    · dsimp only
      rw [hu]
    · dsimp only
      rw [hu]
      exact credit_start ..
    · dsimp only
      rw [hu]
      exact credit_mode ..
    · dsimp only
      rw [hu]
      exact credit_test ..
    · exact (hunit v).trans (if_neg hv)
  · have hdone : ckptDone s = true := by simp only [ckptDone, hlive, hengine, hreached, Bool.and_self]
    refine exec_next_inj ((if_pos hdone).trans ?_)
    unfold ckptComplete
    rw [hengine]
    rfl
  · refine exec_next_inj ((command_answered (u := requestAllCheckpoints .request (taken s)) hs.1 (fun _ => hs.2) rfl
      rfl).trans ?_)
    rw [requestAll_clear (s := taken s) hclear]
    rfl
  · refine exec_next_inj ((command_answered (u := requestAllCheckpoints .request (taken s)) hs.1 (fun _ => hs.2) rfl
      rfl).trans ?_)
    rw [requestAll_set (s := taken s) hset]
    rfl

/-! ### Image programs (O48) -/

theorem opStoreConfig_idle {s : State} {r : Request} (hengine : s.store.engine = .idle)
    (hwait : s.store.waiting = none) : opStoreConfig r s = (imageStart r s, none) := by
  unfold opStoreConfig
  rw [hengine, hwait]

theorem opStoreConfig_waits {s : State} {r : Request} (hengine : s.store.engine.code = 1)
    (hwait : s.store.waiting = none) : opStoreConfig r s = ({ s with store.waiting := some r }, none) := by
  unfold opStoreConfig
  rw [hwait]
  cases he : s.store.engine with
  | checkpoint => rfl
  | idle => rw [he] at hengine; cases hengine
  | image => rw [he] at hengine; cases hengine

theorem opStoreConfig_busy {s : State} {r : Request} (h : s.store.engine.code = 2 ∨ s.store.waiting.isSome = true) :
    opStoreConfig r s = refuse .busy s := by
  unfold opStoreConfig
  by_cases hw : s.store.waiting.isSome = true
  · obtain ⟨w, hw⟩ := Option.isSome_iff_exists.mp hw
    rw [hw]
    cases s.store.engine <;> rfl
  · cases he : s.store.engine with
    | image => rfl
    | idle => rw [he] at h; exact absurd (h.resolve_right hw) (by decide)
    | checkpoint => rw [he] at h; exact absurd (h.resolve_right hw) (Nat.succ_ne_succ_iff.mpr (by decide))

/-- An image program started with nothing else waiting. -/
theorem imageStart_eq {s : State} {r : Request} : imageStart r s = { s with
    store.engine := .image (imageBytes s.cfg s.cls.active) r
      (s.now.addMs (3 * (((imageBytes s.cfg s.cls.active).length + 63) / 64)))
    store.waiting := none } := rfl

/-- Settles O48: the three answers of a STORE_CONFIG by the engine and what waits, and the two programs. -/
theorem imageProgram : Obligations.ImageProgram := by
  intro s h body bytes r e
  refine ⟨fun hs hengine hwait => ?_, fun hs hengine hwait => ?_, fun hs hbusy => ?_, fun hlive hengine hwait => ?_,
    fun hlive hengine hreached => ?_⟩
  · refine exec_next_inj (command_silent hs.1 (fun _ => hs.2) ?_)
    rw [opStoreConfig_idle (s := taken s) hengine hwait, imageStart_eq, ← hwait]
    rfl
  · exact exec_next_inj (command_silent hs.1 (fun _ => hs.2) (opStoreConfig_waits (s := taken s) hengine hwait))
  · exact exec_next_inj (command_refused (st := .busy) hs.1 (fun _ => hs.2) (opStoreConfig_busy hbusy) rfl)
  · have hdue : imageStartDue s = true := by simp [imageStartDue, hlive, hengine, hwait]
    refine exec_next_inj ((if_pos hdue).trans ?_)
    unfold imageStartWaiting
    rw [hwait]
    exact imageStart_eq
  · have hdone : imageDone s = true := by simp only [imageDone, hlive, hengine, hreached, Bool.and_self]
    refine exec_next_inj ((if_pos hdone).trans ?_)
    unfold imageComplete
    rw [hengine]
    dsimp only
    rw [reply, if_neg (show ¬(Status.ok.refuses = true) from Bool.false_ne_true), replied, replyFrame, be_one]
    rfl

end Sys2Proof.Proofs
end

section
/-! OBLIGATIONS. A checkpoint record is read back whole (R191). -/

namespace Sys2Proof.Proofs

open Sys2Proof Sys2Proof.Machine Sys2Proof.Safety

/-! ### Numbers at offsets -/

theorem numAt_head {w n : Nat} (h : n < 256 ^ w) (l : List Byte) : numAt (be w n ++ l) 0 w = n := by
  rw [numAt, List.drop_zero, List.take_left' (be_length w n), ofBe_be_of_lt h]

theorem numAt_skip {w off : Nat} (h : w ≤ off) (n v : Nat) (l : List Byte) :
    numAt (be w n ++ l) off v = numAt l (off - w) v := by
  rw [numAt, numAt, List.drop_append, be_length, List.drop_of_length_le (by rw [be_length]; exact h), List.nil_append]

theorem msAt_skip {w off : Nat} (h : w ≤ off) (n : Nat) (l : List Byte) :
    msAt (be w n ++ l) off = msAt l (off - w) := by
  rw [msAt, msAt, numAt_skip h, numAt_skip (Nat.le_add_right_of_le h), Nat.sub_add_comm h]

/-- A run time within its limit is carried in seconds and milliseconds. -/
theorem msAt_head {n : Nat} (h : n ≤ Config.runLimit) (l : List Byte) :
    msAt (be 4 (n / 1000) ++ (be 2 (n % 1000) ++ l)) 0 = n := by
  have hs : n / 1000 < 256 ^ 4 := by
    unfold Config.runLimit at h
    omega
  have hm : n % 1000 < 256 ^ 2 := by omega
  rw [msAt, numAt_head hs, numAt_skip (by decide), numAt_head hm]
  omega

/-! ### The record (R191) -/

theorem encMs_length (w n : Nat) : (encMs w n).length = w + 2 := by
  rw [encMs, List.length_append, be_length, be_length]

theorem ckpt_body_length (c : Ckpt) : c.body.length = 86 := by
  unfold Ckpt.body
  simp only [List.length_append, be_length, encMs_length]

theorem checkAgrees_encode (c : Ckpt) : checkAgrees c.encode = true := by
  have hlen : c.encode.length = 88 := by rw [Ckpt.encode, List.length_append, ckpt_body_length, be_length]
  have htake : c.encode.take 86 = c.body := List.take_left' (ckpt_body_length c)
  have hcheck : numAt c.encode 86 2 = (recordCheck c.body).toNat := by
    rw [numAt, Ckpt.encode, List.drop_left' (ckpt_body_length c), List.take_of_length_le (by rw [be_length]),
      ofBe_be_of_lt (recordCheck c.body).isLt]
  rw [checkAgrees, hlen, htake, hcheck]
  simp

theorem reason_ofCode_code (r : Reason) : Reason.ofCode r.code = some r := by cases r <;> rfl

theorem vector5_eta {α : Type} (v : Vector α 5) : #v[v[0], v[1], v[2], v[3], v[4]] = v := by
  refine Vector.ext fun i hi => ?_
  interval_cases i <;> rfl

theorem vector6_eta {α : Type} (v : Vector α 6) : #v[v[0], v[1], v[2], v[3], v[4], v[5]] = v := by
  refine Vector.ext fun i hi => ?_
  interval_cases i <;> rfl

/-- The fields of a record one after another, each in its own bytes. -/
theorem ckpt_encode_eq (c : Ckpt) : c.encode =
    be 4 c.gen ++ (be 1 (unitNo c.unit) ++ (be 1 c.reason.code
      ++ (be 4 (c.run[0] / 1000) ++ (be 2 (c.run[0] % 1000) ++ (be 4 (c.run[1] / 1000) ++ (be 2 (c.run[1] % 1000)
      ++ (be 4 (c.run[2] / 1000) ++ (be 2 (c.run[2] % 1000) ++ (be 4 (c.run[3] / 1000) ++ (be 2 (c.run[3] % 1000)
      ++ (be 4 (c.run[4] / 1000) ++ (be 2 (c.run[4] % 1000)
      ++ (be 4 c.starts[0] ++ (be 4 c.starts[1] ++ (be 4 c.starts[2] ++ (be 4 c.starts[3] ++ (be 4 c.starts[4]
      ++ (be 4 c.stops[0] ++ (be 4 c.stops[1] ++ (be 4 c.stops[2] ++ (be 4 c.stops[3] ++ (be 4 c.stops[4]
      ++ (be 4 (c.run[5] / 1000) ++ (be 2 (c.run[5] % 1000) ++ (be 4 c.trips
      ++ be 2 (recordCheck c.body).toNat))))))))))))))))))))))))) := by
  unfold Ckpt.encode
  generalize recordCheck c.body = x
  unfold Ckpt.body encMs
  simp only [List.append_assoc]

/-- Settles O47: each field lies at its offset, and the check value is that of the bytes before it. -/
theorem checkpointRecordRoundTrip : Obligations.CheckpointRecordRoundTrip := by
  intro c hc
  obtain ⟨⟨hgen, hgen'⟩, hrun, hcounts, htrips⟩ := hc
  have hlen : c.encode.length = 88 := by rw [Ckpt.encode, List.length_append, ckpt_body_length, be_length]
  refine ⟨hlen, ?_⟩
  have hagrees := checkAgrees_encode c
  have hunit : unitNo c.unit < 256 ^ 1 := by
    have := c.unit.isLt
    unfold unitNo
    omega
  have hreason : c.reason.code < 256 ^ 1 := by cases c.reason <;> decide
  have hnum (n : Nat) (h : n < 2 ^ 32) (l : List Byte) : numAt (be 4 n ++ l) 0 4 = n := numAt_head h l
  have hone (n : Nat) (h : n < 256 ^ 1) (l : List Byte) : numAt (be 1 n ++ l) 0 1 = n := numAt_head h l
  have hr (k : Nat) (hk : k < 6) : c.run[k] ≤ Config.runLimit := hrun ⟨k, hk⟩
  have hst (k : Nat) (hk : k < 5) : c.starts[k] < 2 ^ 32 := (hcounts ⟨k, hk⟩).1
  have hsp (k : Nat) (hk : k < 5) : c.stops[k] < 2 ^ 32 := (hcounts ⟨k, hk⟩).2
  show Ckpt.ofBytes c.encode = some c
  unfold Ckpt.ofBytes
  rw [hagrees, ckpt_encode_eq]
  generalize (recordCheck c.body).toNat = x
  simp only [numAt_skip, msAt_skip, Nat.reduceSub, Nat.sub_self, Nat.reduceLeDiff, Nat.le_refl, hnum, hone, msAt_head,
    hgen', hunit, hreason, hr, hst, hsp, htrips]
  rw [show unitOfNo (unitNo c.unit) = some c.unit from unitOfNo_succ c.unit, reason_ofCode_code]
  simp only [hgen, decide_true, Bool.and_self, if_true, vector6_eta, vector5_eta]

end Sys2Proof.Proofs
end

section
/-! SUPPORT and OBLIGATIONS. Every entry is carried and read back whole (R80, R204). -/

namespace Sys2Proof.Proofs

open Sys2Proof Sys2Proof.Machine Sys2Proof.Safety

/-! ### The items of R204 read back -/

/-- A field of so many bits in enough bytes. -/
theorem rd_toNat {n w : Nat} (x : BitVec n) (h : 2 ^ n ≤ 256 ^ w) (l : List Byte) :
    rd w (be w x.toNat ++ l) = some (x.toNat, l) := rd_be (Nat.lt_of_lt_of_le x.isLt h) l

/-- The number of a two-valued item whose first value is the true one. -/
def setNo (b : Bool) : Nat := if b then 0 else 1

theorem rd_encSet (b : Bool) (l : List Byte) : rd 1 (encSet b ++ l) = some (setNo b, l) := by
  cases b <;> exact rd_one _ l

theorem firstIsTrue_setNo (b : Bool) : firstIsTrue (setNo b) = some b := by cases b <;> rfl

/-- The two numbers of an optional item. -/
def optItem : Option Nat → Nat × Nat
  | none => (0, 0)
  | some v => (1, v)

theorem be_zero (w : Nat) : be w 0 = List.replicate w 0 := by
  induction w with
  | zero => rfl
  | succ w ih => rw [be, ih, Nat.zero_div, List.replicate_succ]; rfl

theorem rdOpt_encOpt {w : Nat} (o : Option Nat) (h : ∀ v, o = some v → v < 256 ^ w) (l : List Byte) :
    rdOpt w (encOpt w (o.map (be w)) ++ l) = some (optItem o, l) := by
  cases o with
  | none =>
    have hz : rd w (List.replicate w 0 ++ l) = some (0, l) := by
      rw [← be_zero]
      exact rd_be (Nat.pow_pos (by decide)) l
    simp only [rdOpt, encOpt, Option.map_none, List.cons_append, rd_one, hz, Option.bind_eq_bind, Option.bind_some]
    rfl
  | some v =>
    have hv := rd_be (h v rfl) l
    simp only [rdOpt, encOpt, Option.map_some, List.cons_append, rd_one, hv, Option.bind_eq_bind, Option.bind_some]
    rfl

theorem present_optItem (o : Option Nat) : present (optItem o).1 (optItem o).2 = some o := by cases o <;> rfl

/-- An optional field of so many bits. -/
theorem rdOpt_field {n w : Nat} (hw : 2 ^ n ≤ 256 ^ w) (o : Option (BitVec n)) (l : List Byte) :
    rdOpt w (encOpt w (o.map (fun a => be w a.toNat)) ++ l) = some (optItem (o.map BitVec.toNat), l) := by
  have h : o.map (fun a => be w a.toNat) = (o.map BitVec.toNat).map (be w) := by rw [Option.map_map]; rfl
  rw [h]
  refine rdOpt_encOpt _ (fun v hv => ?_) l
  obtain ⟨a, -, rfl⟩ := Option.map_eq_some_iff.mp hv
  exact Nat.lt_of_lt_of_le a.isLt hw

theorem map_ofNat_toNat {n : Nat} (o : Option (BitVec n)) : (o.map BitVec.toNat).map (BitVec.ofNat n) = o := by
  cases o <;> simp

theorem rdList_flatMap {α β : Type} {f : List Byte → Option (β × List Byte)} {enc : α → List Byte} {g : α → β} :
    ∀ (as : List α) (l : List Byte), (∀ a ∈ as, ∀ l, f (enc a ++ l) = some (g a, l)) →
      rdList f as.length (as.flatMap enc ++ l) = some (as.map g, l)
  | [], _, _ => rfl
  | a :: as, l, h => by
    have ha := h a List.mem_cons_self (as.flatMap enc ++ l)
    have has := rdList_flatMap as l (fun b hb => h b (List.mem_cons_of_mem a hb))
    simp only [List.length_cons, rdList, List.flatMap_cons, List.append_assoc, ha, has, Option.bind_eq_bind,
      Option.bind_some, List.map_cons]

theorem allSome_map {α : Type} (as : List α) : allSome (as.map some) = some as := by
  induction as with
  | nil => rfl
  | cons a as ih => rw [List.map_cons, allSome, ih]; rfl

/-! ### Enumerations -/

theorem portFilter_ofCode (f : PortFilter) : PortFilter.ofCode f.code = some f := by cases f <;> rfl
theorem stampFormat_ofCode (f : StampFormat) : StampFormat.ofCode f.code = some f := by cases f <;> rfl
theorem entryOrigin_ofCode (o : EntryOrigin) : EntryOrigin.ofCode o.code = some o := by cases o <;> rfl
theorem relation_ofCode (r : Relation) : Relation.ofCode r.code = some r := by cases r <;> rfl
theorem mode_ofMapCode {m : Mode} (h : m ≠ .unknown) : Mode.ofMapCode m.code = some m := by
  cases m <;> first | rfl | exact absurd rfl h

theorem rd_filter (f : PortFilter) (l : List Byte) : rd 1 (be 1 f.code ++ l) = some (f.code, l) :=
  rd_be (by cases f <;> decide) l
theorem rd_format (f : StampFormat) (l : List Byte) : rd 1 (be 1 f.code ++ l) = some (f.code, l) :=
  rd_be (by cases f <;> decide) l
theorem rd_origin (o : EntryOrigin) (l : List Byte) : rd 1 (be 1 o.code ++ l) = some (o.code, l) :=
  rd_be (by cases o <;> decide) l
theorem rd_relation (r : Relation) (l : List Byte) : rd 1 (be 1 r.code ++ l) = some (r.code, l) :=
  rd_be (by cases r <;> decide) l
theorem rd_mode (m : Mode) (l : List Byte) : rd 1 (be 1 m.code ++ l) = some (m.code, l) :=
  rd_be (by cases m <;> decide) l
theorem rd_action (a : Action) (l : List Byte) : rd 1 (be 1 a.code ++ l) = some (a.code, l) :=
  rd_be (by cases a <;> simp [Action.code]) l

/-! ### The parts of an entry -/

theorem rdTest_encode (t : ByteTest) (l : List Byte) : rdTest (t.encode ++ l) = some (some t, l) := by
  simp only [rdTest, ByteTest.encode, List.append_assoc, rd_toNat, Nat.reducePow, Nat.le_refl, rd_relation,
    Option.bind_eq_bind, Option.bind_some, relation_ofCode, Option.map_some, BitVec.ofNat_toNat, BitVec.setWidth_eq]

theorem rdWrite_encode (w : StampWrite) (l : List Byte) : rdWrite (w.encode ++ l) = some (some w, l) := by
  simp only [rdWrite, StampWrite.encode, List.append_assoc, rd_toNat, Nat.reducePow, Nat.le_refl, rd_format,
    Option.bind_eq_bind, Option.bind_some, stampFormat_ofCode, Option.map_some, BitVec.ofNat_toNat, BitVec.setWidth_eq]

theorem rdOptWrite_encode (w : Option StampWrite) (l : List Byte) :
    rdOptWrite (encOpt 3 (w.map StampWrite.encode) ++ l) = some (some w, l) := by
  cases w with
  | none => rfl
  | some w =>
    simp only [rdOptWrite, encOpt, Option.map_some, List.cons_append, rd_one, rdWrite_encode, Option.bind_eq_bind,
      Option.bind_some]
    rfl

theorem embeddedFits_of {o : EntryOrigin} {e : Option (BitVec 16)} (h : (e.isSome == (o == .embedded)) = true) :
    embeddedFits o (e.map BitVec.toNat) = true := by
  cases o <;> cases e <;> first | rfl | exact absurd h (by simp)

/-- One step of a reader. -/
theorem read_step {α β : Type} {o : Option α} {a : α} {f : α → Option β} {r : Option β} (h : o = some a)
    (hr : f a = r) : (o >>= f) = r := by
  rw [h]
  exact hr

theorem rdTrip_encode (p : TripParams) (h : (p.embedded.isSome == (p.origin == .embedded)) = true) (l : List Byte) :
    rdTrip (p.encode ++ l) = some (some p, l) := by
  have henc : p.encode ++ l = be 1 p.source.toNat ++ (be 1 p.group.toNat
      ++ (encOpt 1 (p.unit.map (fun u => be 1 u.toNat)) ++ (be 2 p.stateOffset.toNat ++ (be 2 p.codeOffset.toNat
      ++ (be 1 p.codeWidth.toNat ++ (be 2 p.clearCode.toNat ++ (be 1 p.origin.code
      ++ (encOpt 2 (p.embedded.map (fun o => be 2 o.toNat)) ++ (be 2 p.compensation.toNat ++ (encSet p.unitStop
      ++ (encOpt 3 (p.write.map StampWrite.encode) ++ l))))))))))) := by
    simp only [TripParams.encode, List.append_assoc]
  rw [henc]
  refine read_step (rd_toNat p.source (by decide) _) (read_step (rd_toNat p.group (by decide) _)
    (read_step (rdOpt_field (by decide) p.unit _) (read_step (rd_toNat p.stateOffset (by decide) _)
    (read_step (rd_toNat p.codeOffset (by decide) _) (read_step (rd_toNat p.codeWidth (by decide) _)
    (read_step (rd_toNat p.clearCode (by decide) _) (read_step (rd_origin p.origin _)
    (read_step (rdOpt_field (by decide) p.embedded _) (read_step (rd_toNat p.compensation (by decide) _)
    (read_step (rd_encSet p.unitStop _) (read_step (rdOptWrite_encode p.write l) ?_)))))))))))
  simp only [present_optItem, entryOrigin_ofCode, firstIsTrue_setNo, embeddedFits_of h, Option.bind_eq_bind,
    Option.bind_some, if_true, map_ofNat_toNat, BitVec.ofNat_toNat, BitVec.setWidth_eq]

theorem rdPair_encode {q : Byte × Mode} (h : q.2 ≠ .unknown) (l : List Byte) :
    rdPair (be 1 q.1.toNat ++ be 1 q.2.code ++ l) = some (some q, l) := by
  simp only [rdPair, List.append_assoc, rd_toNat, Nat.reducePow, Nat.le_refl, rd_mode, Option.bind_eq_bind,
    Option.bind_some, mode_ofMapCode h, Option.map_some, BitVec.ofNat_toNat, BitVec.setWidth_eq]

/-- The test pick of a UNIT entry: presence, offset and mask. -/
theorem rd_testPick (t : Option (BitVec 16 × Byte)) (l : List Byte) : ∃ p o k l1 l2,
    rd 1 (encOpt 3 (t.map (fun t => be 2 t.1.toNat ++ be 1 t.2.toNat)) ++ l) = some (p, l1)
    ∧ rd 2 l1 = some (o, l2) ∧ rd 1 l2 = some (k, l)
    ∧ (p = 0 ∧ t = none ∨ p = 1 ∧ t = some (BitVec.ofNat 16 o, BitVec.ofNat 8 k)) := by
  cases t with
  | none => exact ⟨0, 0, 0, _, _, rfl, rfl, rfl, .inl ⟨rfl, rfl⟩⟩
  | some t =>
    refine ⟨1, t.1.toNat, t.2.toNat, be 2 t.1.toNat ++ (be 1 t.2.toNat ++ l), be 1 t.2.toNat ++ l, ?_,
      rd_toNat t.1 (by decide) _, rd_toNat t.2 (by decide) _, ?_⟩
    · simp only [encOpt, Option.map_some, List.cons_append, List.append_assoc]
      exact rd_one 1 _
    · exact .inr ⟨rfl, by simp⟩

theorem rdUnit_encode (p : UnitParams) (hlen : p.codeMap.length ≤ 8) (hmap : ∀ q ∈ p.codeMap, q.2 ≠ .unknown)
    (l : List Byte) : rdUnit (p.encode ++ l) = some (some p, l) := by
  have hpairs (l : List Byte) : rdList rdPair p.codeMap.length
      (p.codeMap.flatMap (fun q => be 1 q.1.toNat ++ be 1 q.2.code) ++ l) = some (p.codeMap.map some, l) :=
    rdList_flatMap p.codeMap l (fun q hq l => rdPair_encode (hmap q hq) l)
  have hcount (l : List Byte) : rd 1 (be 1 p.codeMap.length ++ l) = some (p.codeMap.length, l) :=
    rd_be (by omega) l
  obtain ⟨q, o, k, l1, l2, hq, ho, hk, ht⟩ := rd_testPick p.test l
  have henc : p.encode ++ l = be 1 p.unit.toNat ++ (be 2 p.modeOffset.toNat ++ (be 1 p.codeMap.length
      ++ (p.codeMap.flatMap (fun q => be 1 q.1.toNat ++ be 1 q.2.code)
      ++ (encOpt 3 (p.test.map (fun t => be 2 t.1.toNat ++ be 1 t.2.toNat)) ++ l)))) := by
    simp only [UnitParams.encode, List.append_assoc]
  rw [henc]
  refine read_step (rd_toNat p.unit (by decide) _) (read_step (rd_toNat p.modeOffset (by decide) _)
    (read_step (hcount _) ?_))
  dsimp only
  rw [if_neg (Nat.not_lt.mpr hlen)]
  refine read_step (hpairs _) (read_step hq (read_step ho (read_step hk ?_)))
  dsimp only
  rw [allSome_map]
  rcases ht with ⟨rfl, ht⟩ | ⟨rfl, ht⟩ <;>
    simp only [Option.bind_eq_bind, Option.bind_some, if_true, if_neg Nat.one_ne_zero, BitVec.ofNat_toNat,
      BitVec.setWidth_eq, ← ht]

theorem rdAction_encode {e : Entry} (h : carriable e = true) (l : List Byte) :
    rdAction e.action.code (e.action.encode ++ l) = some (some e.action, l) := by
  have hact := (Bool.and_eq_true_iff.mp h).2
  cases ha : e.action with
  | pass => rfl
  | drop => rfl
  | stamp w => simp only [Action.code, Action.encode, rdAction, rdWrite_encode, Option.map_some]
  | trip p =>
    rw [ha] at hact
    simp only [Action.code, Action.encode, rdAction, rdTrip_encode p hact, Option.map_some]
  | unit p =>
    rw [ha] at hact
    obtain ⟨hlen, hmap⟩ := Bool.and_eq_true_iff.mp hact
    have hmap' : ∀ q ∈ p.codeMap, q.2 ≠ .unknown := fun q hq => bne_iff_ne.mp (List.all_eq_true.mp hmap q hq)
    simp only [Action.code, Action.encode, rdAction, rdUnit_encode p (of_decide_eq_true hlen) hmap', Option.map_some]
  | beacon o =>
    simp only [Action.code, Action.encode, rdAction, rd_toNat, Nat.reducePow, Nat.le_refl, Option.map_some,
      BitVec.ofNat_toNat, BitVec.setWidth_eq]
  | handover v c o =>
    simp only [Action.code, Action.encode, rdAction, List.append_assoc]
    refine read_step (rd_toNat v (by decide) _) (read_step (rd_toNat c (by decide) _)
      (read_step (rd_toNat o (by decide) _) ?_))
    simp only [BitVec.ofNat_toNat, BitVec.setWidth_eq]

/-! ### The entry (O20) -/

/-- The numbers of an entry's fields before its action kind. -/
def headOf (e : Entry) : EntryHead :=
  ⟨setNo e.enabled, e.filter.code, optItem (e.source.map BitVec.toNat), optItem (e.type.map BitVec.toNat),
    e.tests.map some⟩

theorem rdEntryHead_encode {e : Entry} (h : e.tests.length ≤ 4) (l : List Byte) :
    rdEntryHead (encSet e.enabled ++ (be 1 e.filter.code ++ (encOpt 6 (e.source.map (fun a => be 6 a.toNat))
      ++ (encOpt 2 (e.type.map (fun t => be 2 t.toNat)) ++ (be 1 e.tests.length
      ++ (e.tests.flatMap ByteTest.encode ++ l)))))) = some (headOf e, l) := by
  have htests : rdList rdTest e.tests.length (e.tests.flatMap ByteTest.encode ++ l) = some (e.tests.map some, l) :=
    rdList_flatMap e.tests l (fun t _ l => rdTest_encode t l)
  refine read_step (rd_encSet e.enabled _) (read_step (rd_filter e.filter _)
    (read_step (rdOpt_field (by decide) e.source _) (read_step (rdOpt_field (by decide) e.type _)
    (read_step (rd_be (show e.tests.length < 256 ^ 1 by omega) _) ?_))))
  dsimp only
  rw [if_neg (Nat.not_lt.mpr h)]
  exact read_step htests rfl

theorem rdEntryTail_encode {e : Entry} (h : carriable e = true) (l : List Byte) :
    rdEntryTail e.action.code (encSet e.forward ++ (encSet e.urgent
      ++ (encOpt 1 (e.chain.map (fun c => be 1 c.toNat)) ++ (e.action.encode ++ l))))
    = some ((setNo e.forward, setNo e.urgent, optItem (e.chain.map BitVec.toNat), some e.action), l) :=
  read_step (rd_encSet e.forward _) (read_step (rd_encSet e.urgent _)
    (read_step (rdOpt_field (by decide) e.chain _) (read_step (rdAction_encode h l) rfl)))

theorem entryOf_fields (e : Entry) : entryOf (headOf e)
    (setNo e.forward, setNo e.urgent, optItem (e.chain.map BitVec.toNat), some e.action) = some e := by
  simp only [entryOf, headOf, firstIsTrue_setNo, portFilter_ofCode, present_optItem, allSome_map, map_ofNat_toNat,
    Option.bind_eq_bind, Option.bind_some]

theorem action_code_le (a : Action) : ¬6 < a.code := by cases a <;> simp [Action.code]

/-- Settles O20: head, action kind and tail are each read back from their bytes. -/
theorem entryLayoutRoundTrip : Obligations.EntryLayoutRoundTrip := by
  intro e rest h
  have hlen : e.tests.length ≤ 4 := of_decide_eq_true (Bool.and_eq_true_iff.mp h).1
  have henc : e.encode [] ++ rest = encSet e.enabled ++ (be 1 e.filter.code
      ++ (encOpt 6 (e.source.map (fun a => be 6 a.toNat)) ++ (encOpt 2 (e.type.map (fun t => be 2 t.toNat))
      ++ (be 1 e.tests.length ++ (e.tests.flatMap ByteTest.encode ++ (be 1 e.action.code
      ++ (encSet e.forward ++ (encSet e.urgent ++ (encOpt 1 (e.chain.map (fun c => be 1 c.toNat))
      ++ (e.action.encode ++ rest)))))))))) := by
    simp only [Entry.encode, List.append_nil, List.append_assoc]
  rw [henc, readEntryBytes, rdEntryHead_encode hlen]
  dsimp only
  rw [rd_action]
  dsimp only
  rw [if_neg (action_code_le e.action), rdEntryTail_encode h]
  dsimp only
  rw [entryOf_fields]

end Sys2Proof.Proofs
end

section
/-! SUPPORT. Every setting of the catalogue is carried and read back whole (R196, R208). -/

namespace Sys2Proof.Proofs

open Sys2Proof Sys2Proof.Machine Sys2Proof.Safety

/-! ### Numbers within their ranges -/

theorem held_within {lo hi n : Nat} (hlo : lo ≤ n) (hhi : n ≤ hi) : (held lo hi n).1 = n := by
  unfold held clampNat
  omega

theorem clampInt_within {lo hi n : Int} (hlo : lo ≤ n) (hhi : n ≤ hi) : clampInt lo hi n = n := by
  unfold clampInt
  omega

/-- A signed byte is read back. -/
theorem ofByteSigned_beInt {i : Int} (hlo : -128 ≤ i) (hhi : i ≤ 127) :
    ofByteSigned (BitVec.ofNat 8 (ofBe (beInt 1 i))) = i := by
  have hmod : ofBe (beInt 1 i) = (i % 256).toNat := ofBe_be_of_lt (show (i % 256).toNat < 256 by omega)
  rw [hmod, ofByteSigned, BitVec.toInt_eq_toNat_cond, BitVec.toNat_ofNat]
  split <;> omega

theorem secondIsTrue_encYes (b : Bool) : secondIsTrue (ofBe (encYes b)) = some b := by cases b <;> rfl

theorem unitOfNo_unitNo (u : Fin 6) : unitOfNo (unitNo u) = some u := unitOfNo_succ u

theorem lineFunction_ofCode (f : LineFunction) : LineFunction.ofCode f.code = some f := by cases f <;> rfl

theorem firstIsTrue_encSet (b : Bool) : firstIsTrue (ofBe (encSet b)) = some b := by cases b <;> rfl

theorem maskOfCode_toNat (m : BitVec 7) : maskOfCode m.toNat = some m := by
  rw [maskOfCode, if_pos m.isLt, BitVec.ofNat_toNat, BitVec.setWidth_eq]

theorem hourOfCode_getD {h : Option Nat} (hh : h.all (fun n => n ≤ 23) = true) :
    hourOfCode (h.getD 255) = some h := by
  cases h with
  | none => rfl
  | some n =>
    have hn : n ≤ 23 := of_decide_eq_true hh
    rw [Option.getD_some, hourOfCode, if_pos hn]

/-- A station address whose bit 40, the group bit, is clear. -/
theorem station_single {a : Addr} (h : a.getLsbD 40 = false) : ¬a.toNat / 2 ^ 40 % 2 = 1 := by
  rw [BitVec.getLsbD, Nat.testBit_eq_decide_div_mod_eq] at h
  exact of_decide_eq_false h

/-! ### One setting carried from one configuration into another -/

/-- A transition's field carried over. -/
def carryTransition (k : Fin 4) (c d : Transition) : Transition := d.withField k (c.field k)

/-- A line's field carried over. -/
def carryLine (f : Fin 7) (c d : LineCfg) : LineCfg :=
  match f with
  | 0 => { d with function := c.function }
  | 1 => { d with width := c.width }
  | 2 => { d with gap := c.gap }
  | 3 => { d with hold := c.hold }
  | 4 => { d with unit := c.unit }
  | 5 => { d with modes := c.modes }
  | 6 => { d with test := c.test }

/-- `d` with one setting of `c`, a schedule entry whole. -/
def carry (c : Settings) (p : Param) (d : Settings) : Settings :=
  match p with
  | .clock k => { d with clock := d.clock.withField k (c.clock.field k) }
  | .offset => { d with cal.offset := c.cal.offset }
  | .enabled => { d with cal.enabled := c.cal.enabled }
  | .amount => { d with cal.amount := c.cal.amount }
  | .start k => { d with cal.start := carryTransition k c.cal.start d.cal.start }
  | .stop k => { d with cal.stop := carryTransition k c.cal.stop d.cal.stop }
  | .lead => { d with cal.lead := c.cal.lead }
  | .entry e _ => { d with cal.entries := d.cal.entries.set e c.cal.entries[e] }
  | .plausibility => { d with plausibility := c.plausibility }
  | .window g => { d with windows := d.windows.set g c.windows[g] }
  | .holdLen u => { d with holdLen := d.holdLen.set u c.holdLen[u] }
  | .totalSel u => { d with totalSel := d.totalSel.set u c.totalSel[u] }
  | .overdueLen => { d with overdueLen := c.overdueLen }
  | .lapseLen => { d with lapseLen := c.lapseLen }
  | .initialCrew => { d with initialCrew := c.initialCrew }
  | .line n f => { d with lines := d.lines.set n (carryLine f c.lines[n] d.lines[n]) }
  | .station => { d with net.station := c.net.station }
  | .mtype => { d with net.mtype := c.net.mtype }
  | .mgmtU => { d with net.mgmtU := c.net.mgmtU }
  | .noticeDst => { d with net.notice := c.net.notice }

/-- The settings the image holds: each schedule entry whole. -/
def Param.whole : Param → Bool
  | .entry _ f => f == 5
  | _ => true

theorem get_length (p : Param) (c : Settings) (h : Param.whole p = true) : (p.get c).length = p.width := by
  cases p with
  | clock k => exact be_length _ _
  | enabled => rfl
  | entry e f =>
    obtain rfl := eq_of_beq h
    rfl
  | line n f => fin_cases f <;> first | exact be_length _ _ | rfl
  | mgmtU => rfl
  | _ => exact be_length _ _

theorem wholeEntry_get {e : ScheduleEntry} (hhour : e.hour.all (fun n => n ≤ 23) = true) (hmin : e.minute ≤ 59)
    (hcrew : 1 ≤ e.crew) (hcrew' : e.crew ≤ 15) : ∃ b, wholeEntry (e.field 5) = some (e, b) := by
  have hcode : e.hour.getD 255 < 256 := by
    cases hh : e.hour with
    | none => decide
    | some n =>
      rw [hh] at hhour
      have hn : n ≤ 23 := of_decide_eq_true hhour
      show n < 256
      omega
  have hfield : e.field 5 = encYes e.enabled ++ [BitVec.ofNat 8 e.mask.toNat, BitVec.ofNat 8 (e.hour.getD 255),
      BitVec.ofNat 8 e.minute, BitVec.ofNat 8 e.crew] := by
    simp [ScheduleEntry.field, be]
  have h0 : ofBe (((e.field 5).drop 0).take 1) = ofBe (encYes e.enabled) := by rw [hfield]; cases e.enabled <;> rfl
  have hone (n : Nat) (h : n < 256) : ofBe [BitVec.ofNat 8 n] = n := by
    simp [ofBe, Nat.mod_eq_of_lt h]
  have h1 : ofBe (((e.field 5).drop 1).take 1) = e.mask.toNat := by
    rw [hfield]
    exact hone _ (Nat.lt_trans e.mask.isLt (by decide))
  have h2 : ofBe (((e.field 5).drop 2).take 1) = e.hour.getD 255 := by rw [hfield]; exact hone _ hcode
  have h3 : ofBe (((e.field 5).drop 3).take 1) = e.minute := by rw [hfield]; exact hone _ (by omega)
  have h4 : ofBe (((e.field 5).drop 4).take 1) = e.crew := by rw [hfield]; exact hone _ (by omega)
  refine ⟨(held 0 59 e.minute).2 || (held 1 15 e.crew).2, ?_⟩
  unfold wholeEntry
  simp only [h0, h1, h2, h3, h4]
  refine read_step (secondIsTrue_encYes e.enabled) (read_step (maskOfCode_toNat e.mask)
    (read_step (hourOfCode_getD hhour) ?_))
  rw [held_within (Nat.zero_le _) hmin, held_within hcrew hcrew']

theorem lineChange_get {c : LineCfg} (hw : 1 ≤ c.width ∧ c.width ≤ 2000) (hg : 200 ≤ c.gap ∧ c.gap ≤ 5000)
    (hh : c.hold ≤ 360) (f : Fin 7) (d : LineCfg) :
    ∃ ch b, lineChangeOf f (ofBe (c.field f)) = some (ch, b) ∧ d.apply ch = carryLine f c d := by
  have hone (n : Nat) (h : n < 256) : ofBe (be 1 n) = n := ofBe_be_of_lt h
  have htwo (n : Nat) (h : n < 65536) : ofBe (be 2 n) = n := ofBe_be_of_lt h
  have hcode : c.function.code < 256 := by cases c.function <;> decide
  have hunit : unitNo c.unit < 256 := by unfold unitNo; omega
  have hmodes := c.modes.isLt
  match f with
  | 0 => exact ⟨_, _, by rw [LineCfg.field, hone _ hcode, lineChangeOf, lineFunction_ofCode]; rfl, rfl⟩
  | 1 => exact ⟨_, _, by rw [LineCfg.field, htwo _ (by omega), lineChangeOf, held_within hw.1 hw.2], rfl⟩
  | 2 => exact ⟨_, _, by rw [LineCfg.field, htwo _ (by omega), lineChangeOf, held_within hg.1 hg.2], rfl⟩
  | 3 => exact ⟨_, _, by rw [LineCfg.field, htwo _ (by omega), lineChangeOf, held_within (Nat.zero_le _) hh], rfl⟩
  | 4 => exact ⟨_, _, by rw [LineCfg.field, hone _ hunit, lineChangeOf, unitOfNo_unitNo]; rfl, rfl⟩
  | 5 =>
    refine ⟨_, _, by rw [LineCfg.field, hone _ (by omega), lineChangeOf, if_pos hmodes], ?_⟩
    rw [BitVec.ofNat_toNat, BitVec.setWidth_eq]
    rfl
  | 6 => exact ⟨_, _, by rw [LineCfg.field, lineChangeOf, firstIsTrue_encSet]; rfl, rfl⟩

theorem transitionRange_of {t : Transition} (h : transitionOk t) (k : Fin 4) :
    (transitionRange k).1 ≤ t.field k ∧ t.field k ≤ (transitionRange k).2 ∧ t.field k < 256 := by
  obtain ⟨⟨hm, hm'⟩, ⟨hw, hw'⟩, ⟨hd, hd'⟩, hh⟩ := h
  match k with
  | 0 => exact ⟨hm, hm', Nat.lt_of_le_of_lt hm' (by decide)⟩
  | 1 => exact ⟨hw, hw', Nat.lt_of_le_of_lt hw' (by decide)⟩
  | 2 => exact ⟨hd, hd', Nat.lt_of_le_of_lt hd' (by decide)⟩
  | 3 => exact ⟨Nat.zero_le _, hh, Nat.lt_of_le_of_lt hh (by decide)⟩

theorem exists_snd {α β : Type} {o : Option (α × β)} {a : α} (h : o.map Prod.fst = some a) :
    ∃ b, o = some (a, b) := by
  obtain ⟨x, hx, rfl⟩ := Option.map_eq_some_iff.mp h
  exact ⟨x.2, hx⟩

/-- A setting read from its own bytes. -/
theorem set_get {c : Settings} (h : settingsOk c) (p : Param) (hp : Param.whole p = true) (d : Settings) :
    ∃ b, p.set (p.get c) d = some (carry c p d, b) := by
  obtain ⟨⟨hwin, hwin'⟩, ⟨hstep, hstep'⟩, ⟨hlock, hlock'⟩, hki, hkp, ⟨hlim, hlim'⟩, ⟨hoff, hoff'⟩, hamt, hlead, hstart,
    hstop, hentries, ⟨hpl, hpl'⟩, hwindows, hhold, ⟨hov, hov'⟩, ⟨hla, hla'⟩, ⟨hcr, hcr'⟩, hlines, hstation⟩ := h
  have hone (n : Nat) (h : n < 256) : ofBe (be 1 n) = n := ofBe_be_of_lt h
  have hfour (n : Nat) (h : n < 4294967296) : ofBe (be 4 n) = n := ofBe_be_of_lt h
  have hsix (a : Addr) : ofBe (be 6 a.toNat) = a.toNat := ofBe_be_of_lt a.isLt
  refine exists_snd ?_
  cases p with
  | clock k =>
    have hk : ofBe (be (Param.clock k).width (c.clock.field k)) = c.clock.field k
        ∧ (clockRange k).1 ≤ c.clock.field k ∧ c.clock.field k ≤ (clockRange k).2 := by
      match k with
      | 0 => exact ⟨hfour _ (Nat.lt_of_le_of_lt hwin' (by decide)), hwin, hwin'⟩
      | 1 => exact ⟨hfour _ (Nat.lt_of_le_of_lt hstep' (by decide)), hstep, hstep'⟩
      | 2 => exact ⟨hfour _ (Nat.lt_of_le_of_lt hlock' (by decide)), hlock, hlock'⟩
      | 3 => exact ⟨hone _ (Nat.lt_of_le_of_lt hki (by decide)), Nat.zero_le _, hki⟩
      | 4 => exact ⟨hone _ (Nat.lt_of_le_of_lt hkp (by decide)), Nat.zero_le _, hkp⟩
      | 5 => exact ⟨hfour _ (Nat.lt_of_le_of_lt hlim' (by decide)), hlim, hlim'⟩
    simp only [Param.set, Param.get, carry, Option.map_some, hk.1, held_within hk.2.1 hk.2.2]
  | offset =>
    simp only [Param.set, Param.get, carry, Option.map_some,
      ofByteSigned_beInt (show -128 ≤ c.cal.offset by omega)
      (show c.cal.offset ≤ 127 by omega),
      clampInt_within hoff hoff']
  | enabled => simp only [Param.set, Param.get, carry, Option.map_some, secondIsTrue_encYes]
  | amount =>
    simp only [Param.set, Param.get, carry, Option.map_some, hone _ (show c.cal.amount < 256 by omega),
      held_within (Nat.zero_le _) hamt]
  | start k =>
    obtain ⟨hlo, hhi, hlt⟩ := transitionRange_of hstart k
    simp only [Param.set, Param.get, carry, Option.map_some, carryTransition, hone _ hlt, held_within hlo hhi]
  | stop k =>
    obtain ⟨hlo, hhi, hlt⟩ := transitionRange_of hstop k
    simp only [Param.set, Param.get, carry, Option.map_some, carryTransition, hone _ hlt, held_within hlo hhi]
  | lead =>
    simp only [Param.set, Param.get, carry, Option.map_some, hone _ (show c.cal.lead < 256 by omega),
      held_within (Nat.zero_le _) hlead]
  | entry e f =>
    obtain rfl := eq_of_beq hp
    obtain ⟨hhour, hmin, hcrew, hcrew'⟩ := hentries e
    obtain ⟨b, hb⟩ := wholeEntry_get hhour hmin hcrew hcrew'
    simp only [Param.set, Param.get, carry, Option.map_some, ScheduleEntry.withField, hb]
  | plausibility =>
    have hn : ofBe (be 2 c.plausibility) = c.plausibility := ofBe_be_of_lt (show c.plausibility < 65536 by omega)
    simp only [Param.set, Param.get, carry, Option.map_some, hn, held_within hpl hpl']
  | window g =>
    have hg := hwindows g
    simp only [Param.set, Param.get, carry, Option.map_some, hone _ (show c.windows[g] < 256 by omega),
      held_within (Nat.zero_le _) hg]
  | holdLen u =>
    have hu := hhold u
    simp only [Param.set, Param.get, carry, Option.map_some, hone _ (show c.holdLen[u] < 256 by omega),
      held_within (Nat.zero_le _) hu]
  | totalSel u =>
    have hu := c.totalSel[u].isLt
    simp only [Param.set, Param.get, carry, Option.map_some, hone _ (Nat.lt_trans hu (by decide)), if_pos hu,
      BitVec.ofNat_toNat, BitVec.setWidth_eq]
  | overdueLen =>
    simp only [Param.set, Param.get, carry, Option.map_some, hone _ (show c.overdueLen < 256 by omega),
      held_within hov hov']
  | lapseLen =>
    simp only [Param.set, Param.get, carry, Option.map_some, hone _ (show c.lapseLen < 256 by omega),
      held_within hla hla']
  | initialCrew =>
    simp only [Param.set, Param.get, carry, Option.map_some, hone _ (show c.initialCrew < 256 by omega),
      held_within hcr hcr']
  | line n f =>
    obtain ⟨hw, hg, hh⟩ := hlines n
    obtain ⟨ch, b, hch, happ⟩ := lineChange_get hw hg hh f d.lines[n]
    simp only [Param.set, Param.get, carry, Option.map_some, hch, happ]
  | station =>
    simp only [Param.set, Param.get, carry, Option.map_some, hsix, if_neg (station_single hstation),
      BitVec.ofNat_toNat, BitVec.setWidth_eq]
  | mtype =>
    have hn : ofBe (be 2 c.net.mtype.toNat) = c.net.mtype.toNat := ofBe_be_of_lt c.net.mtype.isLt
    simp only [Param.set, Param.get, carry, Option.map_some, hn, BitVec.ofNat_toNat, BitVec.setWidth_eq]
  | mgmtU => simp only [Param.set, Param.get, carry, Option.map_some, secondIsTrue_encYes]
  | noticeDst =>
    simp only [Param.set, Param.get, carry, Option.map_some, hsix, BitVec.ofNat_toNat, BitVec.setWidth_eq]

end Sys2Proof.Proofs
end

section
/-! OBLIGATIONS. The configuration image is read back whole (R196, R198). -/

namespace Sys2Proof.Proofs

open Sys2Proof Sys2Proof.Machine Sys2Proof.Safety

/-! ### The settings of the image -/

theorem readParams_get {c : Settings} (h : settingsOk c) : ∀ (ps : List Param) (d : Settings) (l : List Byte),
    (∀ p ∈ ps, Param.whole p = true) →
    readParams ps (ps.flatMap (fun p => p.get c) ++ l) d = some (ps.foldl (fun d p => carry c p d) d, l)
  | [], d, l, _ => rfl
  | p :: ps, d, l, hps => by
    have hp := hps p List.mem_cons_self
    have hlen := get_length p c hp
    obtain ⟨b, hb⟩ := set_get h p hp d
    have hrest := readParams_get h ps (carry c p d) l (fun q hq => hps q (List.mem_cons_of_mem p hq))
    have hshort : ¬((p.get c ++ (ps.flatMap (fun p => p.get c) ++ l)).length < p.width) := by
      rw [List.length_append, hlen]
      omega
    rw [List.flatMap_cons, List.append_assoc, readParams, if_neg hshort, List.take_left' hlen, List.drop_left' hlen, hb]
    exact hrest

/-- A vector with some of its places taken from another. -/
def setFrom {α : Type} {n : Nat} (w : Vector α n) (is : List (Fin n)) (v : Vector α n) : Vector α n :=
  is.foldl (fun v (i : Fin n) => v.set i w[i]) v

theorem setFrom_getElem {α : Type} {n : Nat} (w : Vector α n) (j : Fin n) : ∀ (is : List (Fin n)) (v : Vector α n),
    (setFrom w is v)[j] = if j ∈ is then w[j] else v[j]
  | [], v => by simp [setFrom]
  | i :: is, v => by
    rw [setFrom, List.foldl_cons, ← setFrom, setFrom_getElem w j is, getElem_set_fin]
    by_cases hj : j = i
    · subst hj
      simp
    · simp [hj]

theorem setFrom_all {α : Type} {n : Nat} {is : List (Fin n)} (h : ∀ j : Fin n, j ∈ is) (w v : Vector α n) :
    setFrom w is v = w := by
  refine Vector.ext fun j hj => ?_
  have e := setFrom_getElem w ⟨j, hj⟩ is v
  rw [if_pos (h _)] at e
  exact e

theorem carry_entries (c : Settings) : ∀ (is : List (Fin 8)) (d : Settings),
    (is.map (Param.entry · 5)).foldl (fun d p => carry c p d) d
      = { d with cal.entries := setFrom c.cal.entries is d.cal.entries }
  | [], _ => rfl
  | i :: is, d => carry_entries c is { d with cal.entries := d.cal.entries.set i c.cal.entries[i] }

theorem carry_windows (c : Settings) : ∀ (is : List (Fin 16)) (d : Settings),
    (is.map Param.window).foldl (fun d p => carry c p d) d
      = { d with windows := setFrom c.windows is d.windows }
  | [], _ => rfl
  | i :: is, d => carry_windows c is { d with windows := d.windows.set i c.windows[i] }

theorem carry_holdLen (c : Settings) : ∀ (is : List (Fin 6)) (d : Settings),
    (is.map Param.holdLen).foldl (fun d p => carry c p d) d
      = { d with holdLen := setFrom c.holdLen is d.holdLen }
  | [], _ => rfl
  | i :: is, d => carry_holdLen c is { d with holdLen := d.holdLen.set i c.holdLen[i] }

theorem carry_totalSel (c : Settings) : ∀ (is : List (Fin 6)) (d : Settings),
    (is.map Param.totalSel).foldl (fun d p => carry c p d) d
      = { d with totalSel := setFrom c.totalSel is d.totalSel }
  | [], _ => rfl
  | i :: is, d => carry_totalSel c is { d with totalSel := d.totalSel.set i c.totalSel[i] }

theorem carry_lineFields (c : Settings) (n : Fin 8) : ∀ (fs : List (Fin 7)) (d : Settings),
    (fs.map (Param.line n)).foldl (fun d p => carry c p d) d
      = { d with lines := d.lines.set n (fs.foldl (fun l f => carryLine f c.lines[n] l) d.lines[n]) }
  | [], d => by
    have h : d.lines.set n d.lines[n] = d.lines := Vector.set_getElem_self ..
    rw [List.map_nil, List.foldl_nil, List.foldl_nil, h]
  | f :: fs, d => by
    rw [List.map_cons, List.foldl_cons, carry_lineFields c n fs]
    simp only [carry, List.foldl_cons, Fin.getElem_fin, Vector.getElem_set_self, Vector.set_set]

/-- The seven fields of a line carry the line. -/
theorem carry_line (c : Settings) (n : Fin 8) (d : Settings) :
    ([(0 : Fin 7), 1, 2, 3, 4, 5, 6].map (Param.line n)).foldl (fun d p => carry c p d) d
      = { d with lines := d.lines.set n c.lines[n] } := by
  rw [carry_lineFields]
  rfl

theorem carry_lines (c : Settings) : ∀ (is : List (Fin 8)) (d : Settings),
    (is.flatMap (fun n => [(0 : Fin 7), 1, 2, 3, 4, 5, 6].map (Param.line n))).foldl (fun d p => carry c p d) d
      = { d with lines := setFrom c.lines is d.lines }
  | [], _ => rfl
  | i :: is, d => by
    rw [List.flatMap_cons, List.foldl_append, carry_line, carry_lines c is]
    rfl

theorem carry_clock (c d : Settings) :
    ([(0 : Fin 6), 1, 2, 3, 4, 5].map Param.clock).foldl (fun d p => carry c p d) d = { d with clock := c.clock } := rfl

theorem carry_start (c d : Settings) :
    ([(0 : Fin 4), 1, 2, 3].map Param.start).foldl (fun d p => carry c p d) d
      = { d with cal.start := c.cal.start } := rfl

theorem carry_stop (c d : Settings) :
    ([(0 : Fin 4), 1, 2, 3].map Param.stop).foldl (fun d p => carry c p d) d = { d with cal.stop := c.cal.stop } := rfl

theorem carry_seasons (c d : Settings) : [Param.offset, .enabled, .amount].foldl (fun d p => carry c p d) d
    = { d with cal.offset := c.cal.offset, cal.enabled := c.cal.enabled, cal.amount := c.cal.amount } := rfl

theorem carry_lead (c d : Settings) :
    [Param.lead].foldl (fun d p => carry c p d) d = { d with cal.lead := c.cal.lead } := rfl

theorem carry_plausibility (c d : Settings) :
    [Param.plausibility].foldl (fun d p => carry c p d) d = { d with plausibility := c.plausibility } := rfl

theorem carry_handover (c d : Settings) : [Param.overdueLen, .lapseLen, .initialCrew].foldl (fun d p => carry c p d) d
    = { d with overdueLen := c.overdueLen, lapseLen := c.lapseLen, initialCrew := c.initialCrew } := rfl

theorem carry_net (c d : Settings) :
    [Param.station, .mtype, .mgmtU, .noticeDst].foldl (fun d p => carry c p d) d = { d with net := c.net } := rfl

/-- The image's settings carry a whole configuration but for the masks. -/
theorem carry_catalogue (c d : Settings) : catalogue.foldl (fun d p => carry c p d) d = { c with masks := d.masks } := by
  have hlines : ∀ j : Fin 8, j ∈ allLines := by decide
  have hgroups : ∀ j : Fin 16, j ∈ allGroups := by decide
  have hunits : ∀ j : Fin 6, j ∈ allUnits := by decide
  simp only [catalogue, List.flatten_cons, List.flatten_nil, List.append_nil, List.foldl_append, carry_clock,
    carry_start, carry_stop, carry_lines, carry_entries, carry_windows, carry_holdLen, carry_totalSel,
    carry_seasons, carry_lead, carry_plausibility, carry_handover, carry_net, setFrom_all hlines, setFrom_all hgroups,
    setFrom_all hunits]

/-! ### The image (O49) -/

theorem readImageEntry_encode {e : Entry} (h : carriable e = true) (l : List Byte) :
    readImageEntry (e.encode [] ++ l) = some (e, l) := by
  rw [readImageEntry, entryLayoutRoundTrip e l h]

theorem carriable_mem {bank : Vector Entry 128} (h : ∀ i : Fin 128, carriable bank[i] = true) :
    ∀ e ∈ bank.toList, carriable e = true := by
  intro e he
  obtain ⟨i, hi, rfl⟩ := List.getElem_of_mem he
  have hi' : i < 128 := by simpa using hi
  simpa using h ⟨i, hi'⟩

/-- Settles O49: settings, masks and entries are read one after another, and the check value is that of the bytes they
took. -/
theorem imageRoundTrip : Obligations.ImageRoundTrip := by
  intro serial c bank hc hbank
  have hwhole : ∀ p ∈ catalogue, Param.whole p = true := by decide
  have hbytes : ∃ pad, imageBytes c bank = imageBody c bank ++ (fcs (imageBody c bank) ++ pad) :=
    ⟨_, by rw [← List.append_assoc]; rfl⟩
  obtain ⟨pad, hpad⟩ := hbytes
  have hcheck : (fcs (imageBody c bank)).length = 4 := rfl
  have hentries (l : List Byte) : rdList readImageEntry 128 (bank.toList.flatMap (Entry.encode []) ++ l)
      = some (bank.toList, l) := by
    have h := rdList_flatMap (g := id) bank.toList l
      (fun e he l => readImageEntry_encode (carriable_mem hbank e he) l)
    rw [Vector.length_toList, List.map_id] at h
    exact h
  have hbody : imageBody c bank ++ (fcs (imageBody c bank) ++ pad)
      = catalogue.flatMap (fun p => p.get c) ++ (be 2 c.masks.toNat ++ (bank.toList.flatMap (Entry.encode [])
        ++ (fcs (imageBody c bank) ++ pad))) := by
    generalize fcs (imageBody c bank) = chk
    rw [imageBody, List.append_assoc, List.append_assoc]
  have hused : (imageBody c bank ++ (fcs (imageBody c bank) ++ pad)).length - (fcs (imageBody c bank) ++ pad).length
      = (imageBody c bank).length := by
    rw [List.length_append]
    omega
  have hbank' : Vector.ofFn (fun i : Fin 128 => bank.toList.getD i.val Entry.empty) = bank := by
    refine Vector.ext fun i hi => ?_
    simp
  rw [hpad]
  unfold readImage
  refine read_step (by rw [hbody]; exact readParams_get hc catalogue _ _ hwhole)
    (read_step (rd_toNat (w := 2) c.masks (by decide) _) (read_step (hentries _) ?_))
  dsimp only
  rw [hused, List.take_left' hcheck, List.take_left, if_pos rfl, hbank', carry_catalogue]
  simp only [BitVec.ofNat_toNat, BitVec.setWidth_eq]

end Sys2Proof.Proofs
end

section
/-! OBLIGATIONS. Entries loaded, read and committed, the fault record, and the commission line (R79 to R83, R202). -/

namespace Sys2Proof.Proofs

open Sys2Proof Sys2Proof.Machine Sys2Proof.Safety

/-! ### The commission line (O51) -/

/-- A request that is taken at once and refused with items: counted, answered, and what its operation changes. -/
theorem command_refusedWith {auth : Authority} {op : Request → State → Served} {code : Byte} {h : ReqHead}
    {body : List Byte} {s u : State} {st : Status} {data : List Byte} (ha : answering s)
    (hauth : auth = .engineer → s.supply.commission = true)
    (hop : op ⟨h, code, body⟩ (taken s) = (u, some ⟨st, data⟩)) (hst : st.refuses = true) :
    command code auth op h body s = replied h code.toNat st.code data (refusedOnce u) := by
  obtain ⟨hlive, hready, hnone⟩ := ha
  have hcond : ¬(auth = .engineer ∧ s.supply.commission = false) :=
    fun ⟨he, hc⟩ => absurd ((hauth he).symm.trans hc) (by decide)
  have hop' : op ⟨h, code, body⟩ (s.countResp (fun c => { c with taken := c.taken + 1 })) = (u, some ⟨st, data⟩) := hop
  simp only [command, hlive, hready, hnone, if_true, conduct, countResp_supply, if_neg hcond, hop', reply, hst,
    replied, replyFrame, be_one]
  rfl

/-- Without the commission line an engineer request is refused before it is carried out. -/
theorem command_notCommissioned {op : Request → State → Served} {code : Byte} {h : ReqHead} {body : List Byte}
    {s : State} (ha : answering s) (hc : s.supply.commission = false) :
    command code .engineer op h body s = replied h code.toNat 0x12 []
      (refusedOnce { taken s with cnt.resp.authority := s.cnt.resp.authority + 1 }) := by
  obtain ⟨hlive, hready, hnone⟩ := ha
  simp only [command, hlive, hready, hnone, if_true, conduct, countResp_supply, hc, and_self, reply,
    show (Answer.refusal .notCommissioning).status.refuses = true from rfl, replied, replyFrame, be_one]
  rfl

/-- Settles O51: each of the eleven is an engineer request. -/
theorem engineerNeedsCommission : Obligations.EngineerNeedsCommission := by
  rintro s h body u ha hc rfl
  refine ⟨?_, ?_, ?_, ?_, ?_, ?_, ?_, ?_, ?_, ?_, ?_⟩ <;> exact exec_next_inj (command_notCommissioned ha hc)

/-! ### Loading and reading entries (O19) -/

theorem rd_index {i : Nat} (hi : i < 256) (l : List Byte) : rd 1 (BitVec.ofNat 8 i :: l) = some (i, l) := by
  rw [rd_one, BitVec.toNat_ofNat, Nat.mod_eq_of_lt hi]

theorem opLoadEntry_read {h : ReqHead} {i : Nat} {e : Entry} {body pad : List Byte} (hi : i < 256)
    (hread : readEntryBytes body = .ok (e, pad)) (s : State) :
    opLoadEntry ⟨h, 0x10, BitVec.ofNat 8 i :: body⟩ s = if hi : i < 128 then
      ({ s with cls.standby := s.cls.standby.set i e hi }, some ⟨.ok, []⟩) else refuse .badValue s := by
  unfold opLoadEntry
  dsimp only
  rw [rd_index hi]
  dsimp only
  rw [hread]

theorem opReadEntry_body {h : ReqHead} {b : Byte} {i : Nat} (hi : i < 256) (pad : List Byte) (s : State) :
    opReadEntry ⟨h, 0x11, b :: BitVec.ofNat 8 i :: pad⟩ s = if h : i < 128 then
      if b.toNat = 0 then (s, some ⟨.ok, s.cls.active[i].encode (be 4 s.cls.hits[i].toNat)⟩)
      else if b.toNat = 1 then (s, some ⟨.ok, s.cls.standby[i].encode (be 4 0)⟩)
      else refuse .badValue s
    else refuse .badValue s := by
  have hmod : (b.toNat * 256 + i) % 256 = i := by omega
  have hdiv : (b.toNat * 256 + i) / 256 = b.toNat := by omega
  unfold opReadEntry
  dsimp only
  rw [rd_two, BitVec.toNat_ofNat, Nat.mod_eq_of_lt (show i < 2 ^ 8 from hi)]
  simp only [hmod, hdiv]

/-- Settles O19: the index and the bank decide, and the entry is the one read. -/
theorem loadAndReadEntry : Obligations.LoadAndReadEntry := by
  intro s h i e body pad hs hread
  refine ⟨fun hi => exec_next_inj ?_, fun hlo hhi => exec_next_inj ?_, fun hi he => exec_next_inj ?_,
    fun hi => exec_next_inj ?_, fun hlo hhi => exec_next_inj ?_⟩
  · refine command_answered (st := .ok) hs.1 (fun _ => hs.2) ?_ rfl
    rw [opLoadEntry_read (by omega) hread, dif_pos hi]
    rfl
  · refine command_refused (st := .badValue) hs.1 (fun _ => hs.2) ?_ rfl
    rw [opLoadEntry_read hhi hread, dif_neg (by omega)]
  · refine command_answered (st := .ok) hs.1 (fun _ => hs.2) ?_ rfl
    rw [opReadEntry_body (by omega), dif_pos hi, if_neg (by decide), if_pos (by decide), ← he]
    rfl
  · refine command_answered (st := .ok) hs.1 (fun _ => hs.2) ?_ rfl
    rw [opReadEntry_body (by omega), dif_pos hi, if_pos (by decide)]
    rfl
  · refine command_refused (st := .badValue) hs.1 (fun _ => hs.2) ?_ rfl
    rw [opReadEntry_body hhi, dif_neg (by omega)]

/-! ### The checks of a commit (O21) -/

theorem chainValid_iff (i : Nat) (e : Entry) :
    chainValid i e = true ↔ ∀ c, e.chain = some c → i < c.toNat ∧ c.toNat ≤ 127 := by
  unfold chainValid
  cases e.chain with
  | none => simp
  | some c => simp

theorem testValid_iff (x : ByteTest) : testValid x = true ↔ x.offset.toNat ≤ 511
    ∧ (x.width = 1 ∧ x.mask.toNat < 0x100 ∧ x.value.toNat < 0x100
      ∨ x.width = 2 ∧ x.mask.toNat < 0x10000 ∧ x.value.toNat < 0x10000 ∨ x.width = 4) := by
  unfold testValid
  rw [Bool.and_eq_true, decide_eq_true_eq]
  refine and_congr_right fun _ => ?_
  by_cases h1 : x.width = 1
  · rw [if_pos h1, h1, Bool.and_eq_true, decide_eq_true_eq, decide_eq_true_eq]
    simp
  · by_cases h2 : x.width = 2
    · rw [if_neg h1, if_pos h2, h2, Bool.and_eq_true, decide_eq_true_eq, decide_eq_true_eq]
      simp
    · rw [if_neg h1, if_neg h2, decide_eq_true_eq]
      exact ⟨fun h => .inr (.inr h),
        fun h => (h.resolve_left (fun h' => h1 h'.1)).resolve_left (fun h' => h2 h'.1)⟩

/-- The bytes a stamp of each format takes (R57, R58). -/
def stampSpan : StampFormat → Nat
  | .binary => 9
  | .bcd => 11

theorem writeValid_iff (w : StampWrite) : writeValid w = true ↔ w.offset.toNat + stampSpan w.format ≤ 1504 := by
  unfold writeValid
  cases w.format <;> exact decide_eq_true_iff

theorem pickValid_iff (o : BitVec 16) (w : Nat) : pickValid o w = true ↔ o.toNat + w ≤ 1504 := decide_eq_true_iff

theorem unitNoValid_iff (u : Byte) : unitNoValid u = true ↔ 1 ≤ u.toNat ∧ u.toNat ≤ 6 := by
  rw [unitNoValid, Bool.and_eq_true, decide_eq_true_eq, decide_eq_true_eq]

/-- A check of an optional item. -/
theorem optional_iff {α : Type} {p : α → Bool} {q : α → Prop} (h : ∀ a, p a = true ↔ q a) (o : Option α) :
    o.all p = true ↔ ∀ a, o = some a → q a := by
  cases o with
  | none => simp
  | some a => simp [h]

theorem tripValid_eq (p : TripParams) : tripValid p = (p.source.toNat ≤ 63 && p.group.toNat ≤ 15
    && p.unit.all unitNoValid
    && (p.codeWidth == 1 || p.codeWidth == 2) && (p.codeWidth == 2 || p.clearCode.toNat < 0x100)
    && pickValid p.stateOffset 2 && pickValid p.codeOffset p.codeWidth.toNat
    && p.embedded.all (fun o => pickValid o 8) && p.write.all writeValid) := by
  unfold tripValid
  cases p.unit <;> cases p.embedded <;> cases p.write <;> rfl

theorem tripValid_iff (p : TripParams) : tripValid p = true ↔ p.source.toNat ≤ 63 ∧ p.group.toNat ≤ 15
    ∧ (∀ u, p.unit = some u → 1 ≤ u.toNat ∧ u.toNat ≤ 6)
    ∧ (p.codeWidth = 1 ∧ p.clearCode.toNat < 0x100 ∨ p.codeWidth = 2)
    ∧ p.stateOffset.toNat + 2 ≤ 1504 ∧ p.codeOffset.toNat + p.codeWidth.toNat ≤ 1504
    ∧ (∀ o, p.embedded = some o → o.toNat + 8 ≤ 1504)
    ∧ (∀ wr, p.write = some wr → wr.offset.toNat + stampSpan wr.format ≤ 1504) := by
  have hcode : ((p.codeWidth == 1 || p.codeWidth == 2) && (p.codeWidth == 2 || p.clearCode.toNat < 0x100)) = true
      ↔ p.codeWidth = 1 ∧ p.clearCode.toNat < 0x100 ∨ p.codeWidth = 2 := by
    simp only [Bool.and_eq_true, Bool.or_eq_true, beq_iff_eq, decide_eq_true_eq]
    constructor
    · rintro ⟨h1 | h2, h2' | hc⟩
      · exact .inr h2'
      · exact .inl ⟨h1, hc⟩
      · exact .inr h2
      · exact .inr h2
    · rintro (⟨h1, hc⟩ | h2)
      · exact ⟨.inl h1, .inr hc⟩
      · exact ⟨.inr h2, .inl h2⟩
  rw [tripValid_eq, ← optional_iff unitNoValid_iff, ← optional_iff (fun o => pickValid_iff o 8),
    ← optional_iff writeValid_iff, ← hcode, ← pickValid_iff, ← pickValid_iff]
  simp only [Bool.and_eq_true, decide_eq_true_eq, and_assoc]

theorem unitValid_eq (p : UnitParams) : unitValid p = (unitNoValid p.unit && !p.codeMap.isEmpty
    && pickValid p.modeOffset 1 && p.test.all (fun t => pickValid t.1 1)) := by
  unfold unitValid
  cases p.test <;> rfl

theorem unitValid_iff (p : UnitParams) : unitValid p = true ↔ 1 ≤ p.unit.toNat ∧ p.unit.toNat ≤ 6 ∧ p.codeMap ≠ []
    ∧ p.modeOffset.toNat + 1 ≤ 1504 ∧ (∀ t, p.test = some t → t.1.toNat + 1 ≤ 1504) := by
  rw [unitValid_eq, ← optional_iff (fun t : BitVec 16 × Byte => pickValid_iff t.1 1), ← pickValid_iff]
  simp only [Bool.and_eq_true, unitNoValid_iff, Bool.not_eq_true', List.isEmpty_eq_false_iff, ne_eq, and_assoc]

theorem firstInvalid_some {b : Vector Entry 128} {i : Fin 128} (hi : entryValid i b[i] = false)
    (hmin : ∀ j : Fin 128, j < i → entryValid j b[j] = true) : firstInvalid b = some i.val := by
  refine (firstIndex_eq_some b (fun p => !entryValid p.2 p.1) i.val).mpr ⟨i.isLt, ?_, fun j hj => ?_⟩
  · exact congrArg Bool.not hi
  · exact congrArg Bool.not (hmin ⟨j, hj.trans i.isLt⟩ hj)

theorem firstInvalid_none {b : Vector Entry 128} (h : ∀ j : Fin 128, entryValid j b[j] = true) :
    firstInvalid b = none := by
  cases hf : firstInvalid b with
  | none => rfl
  | some k =>
    obtain ⟨hk, hp, -⟩ := (firstIndex_eq_some b (fun p => !entryValid p.2 p.1) k).mp hf
    have hv : entryValid k b[k] = true := h ⟨k, hk⟩
    rw [hv] at hp
    cases hp

/-- Settles O21: the checks row by row, the first bad entry, and the two ways a valid bank becomes active. -/
theorem commitBank : Obligations.CommitBank := by
  intro s h body i r e
  refine ⟨?_, fun hs hi hmin => exec_next_inj ?_, fun hs hall hwork => exec_next_inj ?_,
    fun hs hall hwork => exec_next_inj ?_, fun hlive hwait hwork hin hcode hnone => exec_next_inj ?_⟩
  · have htests : e.tests.all testValid = true ↔ _ :=
      List.all_eq_true.trans (forall₂_congr fun x _ => testValid_iff x)
    rw [entryValid, Bool.and_eq_true, Bool.and_eq_true, and_assoc, chainValid_iff, htests]
    refine and_congr_right fun _ => and_congr_right fun _ => ?_
    cases e.action with
    | pass => exact iff_of_true rfl trivial
    | drop => exact iff_of_true rfl trivial
    | stamp w =>
      obtain ⟨o, f⟩ := w
      cases f <;> exact writeValid_iff _
    | trip p =>
      refine (tripValid_iff p).trans (and_congr_right fun _ => and_congr_right fun _ => and_congr_right fun _ =>
        and_congr_right fun _ => and_congr_right fun _ => and_congr_right fun _ => and_congr_right fun _ =>
        forall₂_congr fun w _ => ?_)
      cases w.format <;> exact Iff.rfl
    | unit p => exact unitValid_iff p
    | beacon o => exact pickValid_iff o 4
    | handover v c o =>
      show (pickValid v 1 && pickValid c 1 && pickValid o 2) = true ↔ _
      rw [Bool.and_eq_true, Bool.and_eq_true, pickValid_iff, pickValid_iff, pickValid_iff, and_assoc]
  · have hop : opCommitBank ⟨h, 0x12, body⟩ (taken s) = (taken s, some ⟨.commitInvalid, be 1 i.val⟩) := by
      unfold opCommitBank
      rw [firstInvalid_some (b := (taken s).cls.standby) hi hmin]
    rw [← be_one_ofNat]
    exact command_refusedWith (st := .commitInvalid) hs.1 (fun _ => hs.2) hop rfl
  · have hop : opCommitBank ⟨h, 0x12, body⟩ (taken s) = (activateBank (taken s), some ⟨.ok, []⟩) := by
      unfold opCommitBank
      rw [firstInvalid_none (b := (taken s).cls.standby) hall]
      exact if_pos (by rw [show (taken s).cls.work = none from hwork]; rfl)
    exact command_answered (st := .ok) hs.1 (fun _ => hs.2) hop rfl
  · refine command_silent hs.1 (fun _ => hs.2) ?_
    unfold opCommitBank
    rw [firstInvalid_none (b := (taken s).cls.standby) hall]
    refine if_neg (fun hn => ?_)
    have hidle : s.cls.work = none := Option.isNone_iff_eq_none.mp hn
    rw [hidle] at hwork
    cases hwork
  · have hdue : commitDue s = true := by simp [commitDue, hlive, hwait, hwork]
    refine (if_pos hdue).trans ?_
    unfold commitActivated
    rw [hin]
    dsimp only
    rw [reply, if_neg (show ¬Status.ok.refuses = true from Bool.false_ne_true)]
    have hf : replyFrame r ⟨.ok, []⟩ (activateBank { s with resp.state := .ready, resp.inProgress := none })
        = buildFrame r.head.src s.cfg.net.station s.cfg.net.mtype
            (be 2 r.head.tag.toNat ++ be 1 0x12 ++ be 1 0x00 ++ []) := by
      rw [replyFrame, hcode]
      rfl
    rw [hf]
    refine settleHanded_known ?_
    have hresp := (only_place r.head.port .notice ⟨buildFrame r.head.src s.cfg.net.station s.cfg.net.mtype
      (be 2 r.head.tag.toNat ++ be 1 0x12 ++ be 1 0x00 ++ []), false⟩
      (activateBank { s with resp.state := .ready, resp.inProgress := none })).resp (by decide)
    rw [hresp]
    show s.resp.handed.all _ = true
    rw [hnone]
    rfl

/-! ### The fault record (O22) -/

/-- What READ_FAULT carries of a captured fault (R78, log 12). -/
theorem encOpt_fault (f : FaultRecord) : encOpt 18 (some (be 1 f.kind.code ++ be 1 f.index ++ encPort f.port
      ++ be 6 f.source.toNat ++ encStamp f.stamp))
    = (1 : Byte) :: (be 1 (match f.kind with | .chainLimit => 0 | .pickOutside => 1) ++ be 1 f.index
      ++ be 1 (match f.port with | .u => 0 | .s => 1) ++ be 6 f.source.toNat
      ++ be 4 f.stamp.sec.toNat ++ be 4 f.stamp.ns ++ be 1 f.stamp.cls.val) := by
  obtain ⟨kind, index, port, source, stamp⟩ := f
  cases kind <;> cases port <;>
    simp only [encOpt, FaultKind.code, encPort, encStamp, be_one_ofNat, List.append_assoc] <;> rfl

/-- A counter block that exists is read, and cleared where the option asks for it. -/
theorem opReadCounters_block {h : ReqHead} {sel option : Byte} {l : List Count} {clear : Bool} {s : State}
    (hblock : counterBlock s sel.toNat = some l) (hopt : secondIsTrue option.toNat = some clear) (body : List Byte) :
    opReadCounters ⟨h, 0x03, sel :: option :: body⟩ s = (if clear then clearBlock s sel.toNat else s,
      some ⟨.ok, sel :: be 2 l.length ++ l.flatMap (fun c => be 4 c.toNat)⟩) := by
  have hdiv : (sel.toNat * 256 + option.toNat) / 256 = sel.toNat := by omega
  have hmod : (sel.toNat * 256 + option.toNat) % 256 = option.toNat := by omega
  unfold opReadCounters
  dsimp only
  rw [rd_two]
  dsimp only
  rw [hdiv, hmod, hblock, hopt]
  dsimp only
  rw [be_one]
  rfl

/-- Settles O22: the record is one optional item, and its counters are block 4. -/
theorem faultRecord : Obligations.FaultRecord := by
  intro s h body hs
  have hread : opReadFault ⟨h, 0x04, body⟩ (taken s) = (taken s, some ⟨.ok, encOpt 18 (s.cls.fault.map (fun f =>
      be 1 f.kind.code ++ be 1 f.index ++ encPort f.port ++ be 6 f.source.toNat ++ encStamp f.stamp))⟩) := rfl
  have hclear : opClearFault ⟨h, 0x05, body⟩ (taken s) = ({ taken s with cls.fault := none }, some ⟨.ok, []⟩) := rfl
  refine ⟨exec_next_inj ((command_answered (st := .ok) hs operator_authority hread rfl).trans ?_),
    exec_next_inj (command_answered (st := .ok) hs operator_authority hclear rfl),
    exec_next_inj (command_answered (st := .ok) hs operator_authority
      (opReadCounters_block (sel := 4) (option := 1) (s := taken s) rfl rfl body) rfl)⟩
  cases s.cls.fault with
  | none => rfl
  | some f => exact congrArg (fun l => replied h 0x04 0x00 l (taken s)) (encOpt_fault f)

end Sys2Proof.Proofs
end

section
/-! OBLIGATIONS. The state after reset (R25, R42, R60, R188, R197, R198). -/

namespace Sys2Proof.Proofs

open Sys2Proof Sys2Proof.Machine Sys2Proof.Safety

/-! ### A cold start of a part that was never programmed -/

theorem scanSlots_erased : scanSlots (Vector.replicate 1024 .erased)
    = { best := Vector.replicate 6 none, highest := 0, pos := 1023, invalid := 1024 } := by
  have herased (i : Fin 1024) : (Vector.replicate 1024 Slot.erased)[i].record = none :=
    congrArg Slot.record (Vector.getElem_replicate i.isLt)
  obtain ⟨hhighest, hpos⟩ := scanSlots_empty herased
  have hbest : (scanSlots (Vector.replicate 1024 .erased)).best = Vector.replicate 6 none := by
    ext1 u hu
    rw [Vector.getElem_replicate]
    exact scanSlots_none (u := ⟨u, hu⟩) (fun i => by rw [herased i]; rfl)
  have hinvalid : (scanSlots (Vector.replicate 1024 .erased)).invalid = 1024 := by
    rw [scanSlots_invalid]
    simp only [herased, Option.isNone_none, List.countP_true, List.length_finRange]
  generalize scanSlots (Vector.replicate 1024 .erased) = a at *
  obtain ⟨best, highest, pos, invalid⟩ := a
  rw [Scan.mk.injEq]
  exact ⟨hbest, hhighest, hpos, hinvalid⟩

/-- A part that was never programmed, its supply come back (R188, steps 1 to 7). -/
def powered : State :=
  { State.unpowered 0 with supply := { (State.unpowered 0).supply with state := .run, retention := true } }

theorem coldRetained_unpowered : coldRetained (State.unpowered 0) = powered := by
  have htally : (Vector.replicate 6 (none : Option Ckpt)).map UnitRec.restored = Vector.replicate 6 UnitRec.cold :=
    Vector.map_replicate
  have hsnaps : (Vector.replicate 6 UnitRec.cold).map (fun u => u.run.map Int.ofNat)
      = Vector.replicate 6 (Vector.replicate 6 0) := by
    rw [Vector.map_replicate]
    exact congrArg (Vector.replicate 6) Vector.map_replicate
  unfold coldRetained
  rw [show (State.unpowered 0).store.slots = Vector.replicate 1024 .erased from rfl, scanSlots_erased]
  dsimp only
  unfold runSnapshot
  dsimp only
  rw [htally, hsnaps]
  rfl

theorem agree_off {i : Fin 8} {s : State} (h : s.cfg.lines[i].function = .off) : agree i s = s := by
  unfold agree
  dsimp only
  rw [h]
  exact if_neg (fun hm => absurd hm.1 (by decide))

theorem agreeAll_off {s : State} (h : ∀ i : Fin 8, s.cfg.lines[i].function = .off) : agreeAll s = s := by
  have hfold : ∀ l : List (Fin 8), l.foldl (fun s i => agree i s) s = s := by
    intro l
    induction l with
    | nil => rfl
    | cons i l ih => rw [List.foldl_cons, agree_off (h i), ih]
  exact hfold allLines

theorem imageLoad_powered : imageLoad powered = powered := by
  have hload : loaded powered = powered := rfl
  have hagree : agreeAll powered = powered := agreeAll_off (by decide)
  have hstart : calendarStart powered = powered := by
    unfold calendarStart
    have hfields : localTime powered.cfg.cal powered.clock.sec = powered.cal.fields := by decide
    have hflag : inForce powered.cfg.cal powered.clock.sec = powered.cal.flag := by decide
    rw [hfields, hflag]
    exact if_pos rfl
  rw [imageLoad_eq, hload, hagree, hstart]
  rfl

theorem coldStart_unpowered : exec .coldStart (State.unpowered 0) = .next State.reset := by
  rw [coldStart_goesOn rfl rfl, coldRetained_unpowered]
  have hmain : coldMain powered = notice 0x86 (powerColdBody (List.replicate 6 none) 1024 true 0 3)
      { powered with cnt := { store := { invalidSlots := 1024 } } } := by
    unfold coldMain
    rw [show powered.store.slots = Vector.replicate 1024 .erased from rfl, scanSlots_erased, imageLoad_powered]
    rfl
  rw [hmain, notice, if_pos (show live _ = true from rfl), place_quiet _ _ rfl rfl]
  rfl

theorem allOk_reset : allOk State.reset :=
  ⟨by decide, by decide, by decide, by decide, by decide, by decide, by decide, by decide, by decide, by decide,
    by decide⟩

/-- Settles O53: the values are those of the record, and the cold start reaches it. -/
theorem resetValues : Obligations.ResetValues := by
  have hentry (i : Fin 128) : (Vector.replicate 128 Entry.empty)[i] = Entry.empty := Vector.getElem_replicate i.isLt
  refine ⟨rfl, rfl, rfl, rfl, rfl, by decide, fun i => ⟨hentry i, hentry i, Vector.getElem_replicate i.isLt⟩,
    rfl, rfl, rfl, rfl, fun n => congrArg SourceSlot.used (Vector.getElem_replicate n.isLt), rfl, rfl,
    by decide, by decide, rfl, rfl, rfl, rfl, by decide, rfl, rfl, rfl, rfl, rfl, rfl, rfl, rfl, rfl, rfl,
    allOk_reset, by decide, coldStart_unpowered⟩

end Sys2Proof.Proofs
end

section
/-! SUPPORT. What the reading requests carry, item by item (R103, R118, R140, R162, R163, R180, R205 to R207). -/

namespace Sys2Proof.Proofs

open Sys2Proof Sys2Proof.Machine Sys2Proof.Safety

/-! ### Items -/

/-- Two lists of items agree when their heads and their last items do. -/
theorem items_congr {a b x y : List Byte} (hhead : a = b) (hitem : x = y) : a ++ x = b ++ y :=
  congrArg₂ (· ++ ·) hhead hitem

theorem encSet_eq (b : Bool) : encSet b = be 1 (if b then 0 else 1) := by cases b <;> rfl

theorem encYes_eq (b : Bool) : encYes b = be 1 (if b then 1 else 0) := by cases b <;> rfl

theorem encSet_of_iff {b : Bool} {p : Prop} [Decidable p] (h : b = true ↔ p) : encSet b = be 1 (if p then 0 else 1) := by
  rw [encSet_eq]
  simp only [h]

/-! ### The clock (R205) -/

theorem heldItem (o : Option HeldLabel) : encOpt 1 (o.map (fun h => be 1 h.origin)) = (match o with
    | none => be 1 0 ++ be 1 0
    | some (.beacon _ _) => be 1 1 ++ be 1 0
    | some (.manual _) => be 1 1 ++ be 1 1) := by
  cases o with
  | none => rfl
  | some h => cases h <;> rfl

/-! ### The status (R206) -/

theorem statusView_eq {s : State} (hrun : s.supply.state = .run) : statusView s
    = [0, if s.supply.retention then 0 else 1, if s.store.configInvalid then 0 else 1,
          if 4294967295 ≤ s.store.highestGen then 1 else 0, if s.supply.commission then 1 else 0,
          if s.cfg.net.mgmtU then 1 else 0, if s.cls.fault.isSome then 1 else 0]
      ++ be 1 s.shift.state.code ++ be 1 s.store.engine.code ++ be 1 s.store.order.length
      ++ be 1 (if s.store.waiting.isSome then 1 else 0) := by
  unfold statusView
  rw [hrun]
  refine items_congr (items_congr (items_congr (items_congr ?_ rfl) rfl) rfl) (encYes_eq _)
  simp only [encSet, encYes, exhausted, decide_eq_true_eq]
  rfl

/-! ### The counters (R207) -/

theorem counterBlock_none {n : Nat} (s : State) (h : 11 < n) : counterBlock s n = none := by
  unfold counterBlock
  split <;> first | omega | rfl

theorem secondIsTrue_none {n : Nat} (h : 1 < n) : secondIsTrue n = none := by
  unfold secondIsTrue
  split <;> first | omega | rfl

theorem opReadCounters_refused {h : ReqHead} {sel option : Byte} (hbad : 11 < sel.toNat ∨ 1 < option.toNat)
    (body : List Byte) (s : State) : opReadCounters ⟨h, 0x03, sel :: option :: body⟩ s = refuse .badValue s := by
  have hdiv : (sel.toNat * 256 + option.toNat) / 256 = sel.toNat := by omega
  have hmod : (sel.toNat * 256 + option.toNat) % 256 = option.toNat := by omega
  unfold opReadCounters
  dsimp only
  rw [rd_two]
  dsimp only
  rw [hdiv, hmod]
  rcases hbad with hsel | hopt
  · rw [counterBlock_none s hsel]
  · rw [secondIsTrue_none hopt]
    cases counterBlock s sel.toNat <;> rfl

/-! ### The trip list and the closed shifts (R103, R163) -/

theorem held_count (hi n : Nat) :
    held 1 hi n = (max 1 (min hi n), decide (¬(1 ≤ n ∧ n ≤ hi))) := by
  refine Prod.ext ?_ ?_
  · simp only [held, clampNat]
  · simp only [held]
    rw [Bool.eq_iff_iff, Bool.or_eq_true]
    simp only [decide_eq_true_eq]
    omega

theorem okOr_held (p : Prop) [Decidable p] : (okOr (decide (¬p))).code = if p then 0x00 else 0x01 := by
  rw [okOr_code]
  by_cases h : p <;> simp [h]

theorem tripsFrom_eq (q n : Nat) (l : List TripRecord) : tripsFrom q n l
    = (l.dropWhile (fun r => 2147483647 < seqSteps q r.seq.toNat)).take n := by
  have h (r : TripRecord) : (!seqFrom q r) = decide (2147483647 < seqSteps q r.seq.toNat) := by
    rw [seqFrom, ← decide_not]
    exact decide_eq_decide.mpr Nat.not_le
  simp only [tripsFrom, h]

theorem tripsGap_eq (q : Nat) (l : List TripRecord) :
    encYes (tripsGap q l) = be 1 (if l.head?.any (fun r => r.seq.toNat != q) then 1 else 0) := by
  rw [encYes_eq]
  cases l <;> rfl

theorem shiftsGap_eq (q : Nat) (l : List ClosedShift) :
    encYes (shiftsGap q l) = be 1 (if l.head?.any (fun c => c.base.number != q) then 1 else 0) := by
  rw [encYes_eq]
  cases l <;> rfl

theorem opReadTrips_items {h : ReqHead} {q : Nat} (hq : q < 2 ^ 32) (n : Byte) (pad : List Byte) (s : State) :
    opReadTrips ⟨h, 0x06, be 4 q ++ n :: pad⟩ s = (s, some ⟨okOr (held 1 8 n.toNat).2,
      encYes (tripsGap q (tripsFrom q (held 1 8 n.toNat).1 s.recorder.list)) ++ be 4 s.recorder.nextSeq.toNat
        ++ be 2 s.recorder.list.length ++ be 1 (tripsFrom q (held 1 8 n.toNat).1 s.recorder.list).length
        ++ (tripsFrom q (held 1 8 n.toNat).1 s.recorder.list).flatMap TripRecord.encode⟩) := by
  unfold opReadTrips
  dsimp only
  rw [rd_be (show q < 256 ^ 4 from hq)]
  dsimp only
  rw [rd_one]

theorem opReadShifts_items {h : ReqHead} {q : Nat} (hq : q < 2 ^ 32) (n : Byte) (pad : List Byte) (s : State) :
    opReadShifts ⟨h, 0x0D, be 4 q ++ n :: pad⟩ s = (s, some ⟨okOr (held 1 4 n.toNat).2,
      encYes (shiftsGap q (shiftsFrom q (held 1 4 n.toNat).1 s.shift.list)) ++ be 4 s.shift.openRec.number
        ++ be 1 s.shift.list.length ++ be 1 (shiftsFrom q (held 1 4 n.toNat).1 s.shift.list).length
        ++ (shiftsFrom q (held 1 4 n.toNat).1 s.shift.list).flatMap ClosedShift.encode⟩) := by
  unfold opReadShifts
  dsimp only
  rw [rd_be (show q < 256 ^ 4 from hq)]
  dsimp only
  rw [rd_one]

/-! ### The groups (R118) -/

theorem highestAnnounced_eq (s : State) : highestAnnounced s
    = ((List.finRange 16).find? (fun g => s.ann[g].state == .announced)).map Fin.val := by
  have h : s.ann.toList.zipIdx = (List.finRange 16).map (fun g => (s.ann[g], g.val)) := by
    refine List.ext_getElem (by simp) (fun n h1 h2 => ?_)
    simp
  rw [highestAnnounced, h, List.find?_map, Option.map_map]
  rfl

/-! ### The units (R140) -/

theorem reportedSaturated_iff (u : UnitRec) (m : Elapsed) (k : Fin 6) :
    u.reportedSaturated m k = true ↔ u.saturated[k] = true ∨ u.value m k = 3599999999999 := by
  rw [UnitRec.reportedSaturated, Bool.or_eq_true, beq_iff_eq]
  rfl

theorem opReadTally_unit {h : ReqHead} (i : Fin 6) (pad : List Byte) (s : State) :
    opReadTally ⟨h, 0x0B, BitVec.ofNat 8 (i.val + 1) :: pad⟩ s = (s, some ⟨.ok, tallyView s i⟩) := by
  unfold opReadTally
  dsimp only
  rw [rd_one, BitVec.toNat_ofNat, Nat.mod_eq_of_lt (by omega)]
  dsimp only
  rw [unitOfNo_succ]

theorem opReadTally_refused {h : ReqHead} {n : Byte} (hn : n = 0 ∨ 6 < n.toNat) (pad : List Byte) (s : State) :
    opReadTally ⟨h, 0x0B, n :: pad⟩ s = refuse .badValue s := by
  have hnone : unitOfNo n.toNat = none := by
    refine dif_neg (fun hin => ?_)
    rcases hn with rfl | h6
    · exact absurd hin.1 (by decide)
    · omega
  unfold opReadTally
  dsimp only
  rw [rd_one]
  dsimp only
  rw [hnone]

/-- The items of one running mode. -/
theorem modeItems (u : UnitRec) (m : Elapsed) (k : Fin 5) :
    encMs 4 (u.value m k.castSucc) ++ encSet (u.reportedSaturated m k.castSucc) ++ be 4 u.starts[k] ++ be 4 u.stops[k]
    = be 4 (u.value m k.castSucc / 1000) ++ be 2 (u.value m k.castSucc % 1000)
      ++ be 1 (if u.saturated[k.castSucc] = true ∨ u.value m k.castSucc = 3599999999999 then 0 else 1)
      ++ be 4 u.starts[k] ++ be 4 u.stops[k] :=
  items_congr (items_congr (items_congr rfl (encSet_of_iff (reportedSaturated_iff u m _))) rfl) rfl

theorem tallyView_eq (s : State) (i : Fin 6) : tallyView s i
    = be 1 s.tally[i].mode.code ++ be 1 (if s.tally[i].test then 0 else 1)
      ++ (match s.tally[i].preOutage with
        | none => be 1 0 ++ be 1 0
        | some p => be 1 1 ++ be 1 p.code)
      ++ (match s.tally[i].hold with
        | none => be 1 0 ++ be 6 0
        | some d => be 1 1 ++ be 6 (if reachedM d s.clock.m then 0 else (d - s.clock.m).toNat))
      ++ ([0, 1, 2, 3, 4] : List (Fin 5)).flatMap (fun k =>
        be 4 (s.tally[i].value s.clock.m k.castSucc / 1000) ++ be 2 (s.tally[i].value s.clock.m k.castSucc % 1000)
          ++ be 1 (if s.tally[i].saturated[k.castSucc] = true
            ∨ s.tally[i].value s.clock.m k.castSucc = 3599999999999 then 0 else 1)
          ++ be 4 s.tally[i].starts[k] ++ be 4 s.tally[i].stops[k])
      ++ be 4 (s.tally[i].value s.clock.m 5 / 1000) ++ be 2 (s.tally[i].value s.clock.m 5 % 1000)
      ++ be 1 (if s.tally[i].saturated[5] = true ∨ s.tally[i].value s.clock.m 5 = 3599999999999 then 0 else 1)
      ++ be 4 s.tally[i].trips
      ++ be 6 (totalRun s.tally[i] s.clock.m s.cfg.totalSel[i] / 1000)
      ++ be 2 (totalRun s.tally[i] s.clock.m s.cfg.totalSel[i] % 1000)
      ++ be 1 s.cfg.totalSel[i].toNat ++ be 6 s.clock.m.toNat := by
  have hmodes := congrArg (fun f => List.flatMap f ([0, 1, 2, 3, 4] : List (Fin 5)))
    (funext (modeItems s.tally[i] s.clock.m))
  have hms (l : List Byte) (w n : Nat) : l ++ encMs w n = l ++ be w (n / 1000) ++ be 2 (n % 1000) :=
    (List.append_assoc _ _ _).symm
  unfold tallyView
  dsimp only
  rw [hms, hms]
  refine items_congr (items_congr (items_congr (items_congr (items_congr (items_congr (items_congr (items_congr
    (items_congr (items_congr (items_congr (items_congr rfl (encSet_eq _)) ?_) ?_) hmodes) rfl) rfl)
    (encSet_of_iff (reportedSaturated_iff _ _ _))) rfl) rfl) rfl) rfl) rfl
  · cases s.tally[i].preOutage <;> rfl
  · cases s.tally[i].hold <;> rfl

/-! ### The shifts (R162) -/

theorem units_flatMap {α : Type} (v : Vector α 6) (f : α → List Byte) :
    v.toList.flatMap f = ([0, 1, 2, 3, 4, 5] : List (Fin 6)).flatMap (fun k => f v[k]) := by
  conv_lhs => rw [← vector6_eta v]
  rfl

theorem openShift_encode (o : OpenShift) : o.encode
    = be 4 o.number ++ be 1 o.crew ++ encStamp o.opened ++ be 6 o.openedElapsed.toNat
      ++ (match o.incoming with
        | none => be 1 0 ++ be 2 0
        | some x => be 1 1 ++ be 2 x.toNat)
      ++ (match o.entry with
        | none => be 1 0 ++ be 1 0
        | some e => be 1 1 ++ be 1 e.val)
      ++ be 1 (if o.overdue then 0 else 1) ++ be 2 o.inherited.toNat ++ be 4 o.trips ++ be 4 o.late
      ++ be 2 o.firstOut.toNat
      ++ ([0, 1, 2, 3, 4, 5] : List (Fin 6)).flatMap (fun v =>
        ([0, 1, 2, 3, 4, 5] : List (Fin 6)).flatMap (fun k => beInt 6 o.snaps[v][k])) := by
  refine items_congr (items_congr (items_congr (items_congr (items_congr (items_congr (items_congr (items_congr
    rfl (by cases o.incoming <;> rfl)) (by cases o.entry <;> rfl)) (encSet_eq _)) rfl) rfl) rfl) rfl) ?_
  rw [units_flatMap]
  exact congrArg (fun f => List.flatMap f ([0, 1, 2, 3, 4, 5] : List (Fin 6))) (funext fun v => units_flatMap _ _)

theorem shiftView_eq (s : State) : shiftView s
    = s.shift.openRec.encode
      ++ ([0, 1, 2, 3, 4, 5] : List (Fin 6)).flatMap (fun v =>
        ([0, 1, 2, 3, 4, 5] : List (Fin 6)).flatMap (fun k =>
          be 4 ((((s.tally[v].value s.clock.m k : Int) - s.shift.openRec.snaps[v][k]).tdiv 1000).toNat)))
      ++ be 6 (s.clock.m - s.shift.openRec.openedElapsed).toNat ++ be 1 s.shift.state.code
      ++ (match s.shift.expected with
        | none => be 1 0 ++ be 1 0
        | some c => be 1 1 ++ be 1 c)
      ++ (match s.shift.window with
        | none => be 1 0 ++ be 1 0
        | some e => be 1 1 ++ be 1 e.val)
      ++ be 1 (if s.shift.overdue then 0 else 1)
      ++ (match s.shift.warned with
        | none => be 1 0 ++ be 2 0
        | some e => be 1 1 ++ (be 1 e.1.val ++ be 1 e.2))
      ++ (match s.shift.offer with
        | none => be 1 0 ++ be 2 0
        | some x => be 1 1 ++ be 2 x.toNat)
      ++ (match s.shift.accept with
        | none => be 1 0 ++ (be 6 0 ++ be 6 0)
        | some a => be 1 1 ++ (be 1 a.crew ++ be 2 a.operator.toNat ++ encStamp a.stamp))
      ++ (match s.shift.overdueAt with
        | none => be 1 0 ++ be 6 0
        | some d => be 1 1 ++ be 6 (if reachedM d s.clock.m then 0 else (d - s.clock.m).toNat))
      ++ (match s.shift.lapseAt with
        | none => be 1 0 ++ be 6 0
        | some d => be 1 1 ++ be 6 (if reachedM d s.clock.m then 0 else (d - s.clock.m).toNat)) :=
  items_congr (items_congr (items_congr (items_congr (items_congr (items_congr (items_congr (items_congr rfl
    (by cases s.shift.expected <;> rfl)) (by cases s.shift.window <;> rfl)) (encSet_eq _)) (by cases s.shift.warned <;> rfl)) (by cases s.shift.offer <;> rfl))
    (by cases s.shift.accept <;> rfl)) (by cases s.shift.overdueAt <;> rfl)) (by cases s.shift.lapseAt <;> rfl)

/-! ### The lines (R180) -/

theorem lineFields_eq (c : LineCfg) : ([0, 1, 2, 3, 4, 5, 6] : List (Fin 7)).flatMap c.field
    = be 1 c.function.code ++ be 2 c.width ++ be 2 c.gap ++ be 2 c.hold ++ be 1 (c.unit.val + 1) ++ be 1 c.modes.toNat
      ++ be 1 (if c.test then 0 else 1) := by
  simp only [List.flatMap_cons, List.flatMap_nil, List.append_nil, List.append_assoc, LineCfg.field, encSet_eq, unitNo]

/-- The items of a line in the groups the rule names. -/
theorem lineView_eq (s : State) (i : Fin 8) : lineView s i
    = ([0, 1, 2, 3, 4, 5, 6] : List (Fin 7)).flatMap s.cfg.lines[i].field ++ encYes (!s.lines[i].pending.isEmpty)
      ++ (be 1 s.lines[i].pulse.code ++ encOpt 1 (s.lines[i].pulse.wire.map (fun w => be 1 w.code))
        ++ encOpt 6 (s.lines[i].pulse.ends.map (fun e => be 6 (remaining e s.clock.m))))
      ++ (be 1 (cycleCode s.lines[i].cycle) ++ encOpt 2 (s.lines[i].cycle.map (fun _ => be 2 s.lines[i].pos)))
      ++ be 1 s.lines[i].pol.code ++ encOpt 5 (dialView s i) ++ be 6 s.lines[i].mark
      ++ encOpt 3 (s.lines[i].basis.map Selection.encode)
      ++ encOpt 6 (if s.cfg.lines[i].function = .hourMeter then some (be 6 (tallySecs s s.cfg.lines[i].selection))
          else none) := by
  simp only [lineView, List.append_assoc]

theorem pendingItem (l : List LineChange) : encYes (!l.isEmpty) = be 1 (if l = [] then 0 else 1) := by
  cases l with
  | nil => rfl
  | cons x l => rw [if_neg (List.cons_ne_nil x l), encYes_eq, List.isEmpty_cons, Bool.not_false, if_pos rfl]

theorem dialItem (s : State) (i : Fin 8) : encOpt 5 (dialView s i)
    = (if s.cfg.lines[i].function.cycle.isSome = true ∧ s.clock.state ≠ .unset then
        (match s.lines[i].cycle, s.lines[i].target with
          | some cy, some t => be 1 1 ++ be 2 t ++ be 2 ((t + cy.steps - s.lines[i].pos) % cy.steps)
            ++ be 1 (if (t + cy.steps - s.lines[i].pos) % cy.steps = 0 then 0
              else if (t + cy.steps - s.lines[i].pos) % cy.steps ≤ cy.steps - s.cfg.lines[i].holdSteps then 1 else 2)
          | none, _ => be 1 0 ++ be 5 0
          | some _, none => be 1 0 ++ be 5 0)
      else be 1 0 ++ be 5 0) := by
  have hcond : (s.cfg.lines[i].function.cycle.isSome && s.clock.state != .unset) = true
      ↔ s.cfg.lines[i].function.cycle.isSome = true ∧ s.clock.state ≠ .unset := by
    rw [Bool.and_eq_true, bne_iff_ne]
  unfold dialView
  dsimp only
  by_cases h : s.cfg.lines[i].function.cycle.isSome = true ∧ s.clock.state ≠ .unset
  · rw [if_pos h, if_pos (hcond.mpr h)]
    cases s.lines[i].cycle <;> cases s.lines[i].target <;> rfl
  · rw [if_neg h, if_neg (fun hb => h (hcond.mp hb))]
    rfl

theorem pulseItems (p : Pulse) (now : Elapsed) : be 1 p.code ++ encOpt 1 (p.wire.map (fun w => be 1 w.code))
      ++ encOpt 6 (p.ends.map (fun e => be 6 (remaining e now)))
    = (match p with
      | .rest => be 1 0 ++ be 1 0 ++ be 1 0 ++ be 1 0 ++ be 6 0
      | .drive w d => be 1 1 ++ be 1 1 ++ be 1 w.code ++ be 1 1
        ++ be 6 (if reachedM d now then 0 else (d - now).toNat)
      | .gap d => be 1 2 ++ be 1 0 ++ be 1 0 ++ be 1 1
        ++ be 6 (if reachedM d now then 0 else (d - now).toNat)) := by
  cases p <;> rfl

theorem cycleItems (o : Option Cycle) (pos : Nat) :
    be 1 (cycleCode o) ++ encOpt 2 (o.map (fun _ => be 2 pos)) = (match o with
      | none => be 1 2 ++ be 1 0 ++ be 2 0
      | some .c720 => be 1 0 ++ be 1 1 ++ be 2 pos
      | some .c1440 => be 1 1 ++ be 1 1 ++ be 2 pos) := by
  cases o with
  | none => rfl
  | some cy => cases cy <;> rfl

theorem basisItem (o : Option Selection) : encOpt 3 (o.map Selection.encode) = (match o with
    | none => be 1 0 ++ be 3 0
    | some z => be 1 1 ++ be 1 (z.unit.val + 1) ++ be 1 z.modes.toNat ++ be 1 (if z.test then 0 else 1)) := by
  cases o with
  | none => rfl
  | some z => exact congrArg (fun x => be 1 1 ++ be 1 (z.unit.val + 1) ++ be 1 z.modes.toNat ++ x) (encSet_eq z.test)

theorem meterItem {p : Prop} [Decidable p] (n : Nat) :
    encOpt 6 (if p then some (be 6 n) else none) = if p then be 1 1 ++ be 6 n else be 1 0 ++ be 6 0 := by
  by_cases h : p
  · rw [if_pos h, if_pos h]
    rfl
  · rw [if_neg h, if_neg h]
    rfl

end Sys2Proof.Proofs
end

section
/-! OBLIGATIONS. The reading requests (R103, R118, R140, R162, R163, R180, R205 to R207). -/

namespace Sys2Proof.Proofs

open Sys2Proof Sys2Proof.Machine Sys2Proof.Safety

/-- A reading request is answered with its view, and the machine stays as it was. -/
theorem view_answered {code : Byte} {op : Request → State → Served} {h : ReqHead} {body : List Byte} {s : State}
    {view data : List Byte} (hs : answering s) (hop : op ⟨h, code, body⟩ (taken s) = (taken s, some ⟨.ok, view⟩))
    (hview : view = data) : command code .operator op h body s = replied h code.toNat 0x00 data (taken s) :=
  hview ▸ command_answered (st := .ok) hs operator_authority hop rfl

theorem groupView_eq (s : State) (g : Fin 16) : groupView s g
    = be 1 s.ann[g].state.code ++ be 1 (if s.cfg.masks.getLsbD g.val then 0 else 1) ++ be 1 s.cfg.windows[g]
      ++ (match s.ann[g].ref with
        | none => be 1 0 ++ be 4 0
        | some x => be 1 1 ++ be 4 x.toNat)
      ++ be 2 s.ann[g].trips ++ be 1 (if s.ann[g].lost then 0 else 1) :=
  items_congr (items_congr (items_congr (items_congr (items_congr rfl (encSet_eq _)) rfl)
    (by cases s.ann[g].ref <;> rfl)) rfl) (encSet_eq _)

/-- The block a selector names, and what its clear option leaves: block by block. -/
theorem block_named {s u : State} {sel : Byte} {counts : List Count}
    (h : counterBlock s sel.toNat = some counts ∧ clearBlock s sel.toNat = u) {option : Byte}
    (ho : option = 0 ∨ option = 1) (head : ReqHead) (body : List Byte) :
    opReadCounters ⟨head, 0x03, sel :: option :: body⟩ s = (if option = 1 then u else s,
      some ⟨.ok, sel :: be 2 counts.length ++ counts.flatMap (fun c => be 4 c.toNat)⟩) := by
  obtain ⟨hblock, rfl⟩ := h
  rcases ho with rfl | rfl
  · exact opReadCounters_block (clear := false) hblock rfl body
  · exact opReadCounters_block (clear := true) hblock rfl body

/-- Settles O52: each view is the list of its items. -/
theorem readingRequests : Obligations.ReadingRequests := by
  intro s h l i q n pad trips shifts hs hq
  have hrun : s.supply.state = .run := by
    have hl : live s = true := hs.1
    exact beq_iff_eq.mp (Bool.and_eq_true_iff.mp hl).1
  refine ⟨fun hl => exec_next_inj ?_, exec_next_inj ?_, fun ht => exec_next_inj ?_, exec_next_inj ?_,
    fun u value hu hv => exec_next_inj ?_, fun hn => exec_next_inj ?_, exec_next_inj ?_,
    fun o u hu ho => exec_next_inj ?_, fun ht => exec_next_inj ?_, fun c x hc hx => exec_next_inj ?_,
    fun sel opt k u counts hk hsel hopt => exec_next_inj ?_, fun sel opt hbad => exec_next_inj ?_, exec_next_inj ?_⟩
  · rw [hl]
    exact view_answered hs (view := clockView s) rfl (items_congr (items_congr rfl (encSet_eq _)) (heldItem _))
  · exact view_answered hs (view := statusView s) rfl (statusView_eq hrun)
  · have hlist : tripsFrom q (held 1 8 n.toNat).1 s.recorder.list = trips := by rw [tripsFrom_eq, held_count, ht]
    have hop := opReadTrips_items (h := h) hq n pad (taken s)
    refine (command_answered (st := okOr (held 1 8 n.toNat).2) hs operator_authority hop (okOr_refuses _)).trans ?_
    rw [show (taken s).recorder = s.recorder from rfl, hlist, tripsGap_eq, held_count]
    dsimp only
    rw [okOr_held]
    rfl
  · refine view_answered hs (view := allGroups.flatMap (groupView s) ++ encOpt 1 ((highestAnnounced s).map (be 1)))
      rfl (items_congr ?_ ?_)
    · exact congrArg (fun f => List.flatMap f allGroups) (funext (groupView_eq s))
    · rw [highestAnnounced_eq]
      cases (List.finRange 16).find? (fun g => s.ann[g].state == .announced) <;> rfl
  · obtain rfl : value = s.tally[i].value s.clock.m := funext fun k => (hv k).trans (by rw [hu])
    subst hu
    exact view_answered hs (opReadTally_unit i pad (taken s)) (tallyView_eq s i)
  · exact command_refused (st := .badValue) hs operator_authority (opReadTally_refused hn pad (taken s)) rfl
  · exact command_refused (st := .badRequest) hs operator_authority rfl rfl
  · subst hu ho
    refine view_answered hs (view := shiftView s) rfl ((shiftView_eq s).trans ?_)
    refine items_congr (items_congr (items_congr (items_congr (items_congr (items_congr (items_congr (items_congr
      (items_congr (items_congr (items_congr (openShift_encode _) rfl) rfl) rfl) ?_) ?_) rfl) ?_) ?_) ?_) ?_) ?_
    · cases s.shift.expected <;> rfl
    · cases s.shift.window <;> rfl
    · cases s.shift.warned <;> rfl
    · cases s.shift.offer <;> rfl
    · cases s.shift.accept <;> rfl
    · cases s.shift.overdueAt <;> rfl
    · cases s.shift.lapseAt <;> rfl
  · have hlist : shiftsFrom q (held 1 4 n.toNat).1 s.shift.list = shifts := by rw [held_count, ht, shiftsFrom]
    have hop := opReadShifts_items (h := h) hq n pad (taken s)
    refine (command_answered (st := okOr (held 1 4 n.toNat).2) hs operator_authority hop (okOr_refuses _)).trans ?_
    rw [show (taken s).shift = s.shift from rfl, hlist, shiftsGap_eq, held_count]
    dsimp only
    rw [okOr_held]
    rfl
  · obtain rfl : c = fun j => s.cfg.lines[j] := funext hc
    obtain rfl : x = fun j => s.lines[j] := funext hx
    refine view_answered hs (view := allLines.flatMap (lineView s)) rfl
      (congrArg (fun f => List.flatMap f allLines) (funext fun j => (lineView_eq s j).trans ?_))
    refine items_congr (items_congr (items_congr (items_congr (items_congr (items_congr (items_congr (items_congr
      (lineFields_eq _) (pendingItem _)) ?_) ?_) rfl) ?_) rfl) ?_) (meterItem _)
    · exact (pulseItems _ _).trans (by cases s.lines[j].pulse <;> rfl)
    · exact (cycleItems _ _).trans (by rcases s.lines[j].cycle with _ | _ | _ <;> rfl)
    · exact dialItem s j
    · exact (basisItem _).trans (by cases s.lines[j].basis <;> rfl)
  · have hnamed : counterBlock (taken s) sel.toNat = some counts ∧ clearBlock (taken s) sel.toNat = u := by
      subst hk
      rcases hsel with ⟨rfl, rfl, rfl⟩ | ⟨rfl, rfl, rfl⟩ | ⟨rfl, rfl, rfl⟩ | ⟨rfl, rfl, rfl⟩ | ⟨rfl, rfl, rfl⟩
        | ⟨rfl, rfl, rfl⟩ | ⟨rfl, rfl, rfl⟩ | ⟨rfl, rfl, rfl⟩ | ⟨rfl, rfl, rfl⟩ | ⟨rfl, rfl, rfl⟩
        | ⟨rfl, rfl, rfl⟩ | ⟨rfl, rfl, rfl⟩ <;> exact ⟨rfl, rfl⟩
    exact command_answered (st := .ok) hs operator_authority (block_named hnamed hopt h pad) rfl
  · exact command_refused (st := .badValue) hs operator_authority (opReadCounters_refused hbad pad (taken s)) rfl
  · exact command_refused (st := .badRequest) hs operator_authority rfl rfl

end Sys2Proof.Proofs
end

section
/-! SUPPORT. SET_PARAM judged, applied and answered (R201, R208). -/

namespace Sys2Proof.Proofs

open Sys2Proof Sys2Proof.Machine Sys2Proof.Safety

/-! ### The request -/

theorem ofBe_one (b : Byte) : ofBe [b] = b.toNat := by simp [ofBe]

/-- An identifier of the catalogue, and the setting it names. -/
abbrev Names (id : Nat) (p : Param) : Prop := id < 65536 ∧ Param.ofId id = some p

/-- A setting named and carried in its width. -/
theorem opSetParam_named {id : Nat} {p : Param} {val body pad : List Byte} {h : ReqHead}
    (hid : Names id p) (hbody : body = be 2 id ++ (val ++ pad)) (hlen : val.length = p.width) (s : State) :
    opSetParam ⟨h, 0x13, body⟩ s = Machine.setParam id p val s := by
  subst hbody
  have hlong : ¬(val ++ pad).length < p.width := by
    rw [List.length_append]
    omega
  unfold opSetParam
  dsimp only
  rw [rd_be (show id < 256 ^ 2 from hid.1)]
  dsimp only
  rw [hid.2]
  dsimp only
  rw [if_neg hlong, List.take_left' hlen]

theorem setParam_line (id : Nat) (i : Fin 8) (f : Fin 7) (b : List Byte) (s : State) :
    Machine.setParam id (.line i f) b s = match lineChangeOf f (ofBe b) with
      | none => refuse .badValue s
      | some (ch, clamped) =>
        if lineBusy i s then refuse .busy s
        else (takeChange i ch s, some (paramReply id (.line i f) clamped (takeChange i ch s))) := rfl

/-- A setting of the line family, taken or judged as a change. -/
def Param.ofLine : Param → Bool
  | .line _ _ => true
  | _ => false

theorem get_inForce {p : Param} (hp : Param.ofLine p = false) (s : State) :
    p.get (settingsInForce s) = p.get s.cfg := by
  cases p with
  | line i f => cases hp
  | _ => rfl

theorem setParam_taken {id : Nat} {p : Param} {b : List Byte} {s : State} {c : Settings} {clamped : Bool}
    (hp : Param.ofLine p = false) (hset : p.set b s.cfg = some (c, clamped)) :
    Machine.setParam id p b s = (settingTakesEffect p s { s with cfg := c },
      some (paramReply id p clamped (settingTakesEffect p s { s with cfg := c }))) := by
  cases p with
  | line i f => cases hp
  | _ =>
    unfold Machine.setParam
    dsimp only
    rw [hset]

theorem setParam_refused {id : Nat} {p : Param} {b : List Byte} {s : State}
    (hp : Param.ofLine p = false) (hset : p.set b s.cfg = none) :
    Machine.setParam id p b s = refuse .badValue s := by
  cases p with
  | line i f => cases hp
  | _ =>
    unfold Machine.setParam
    dsimp only
    rw [hset]

/-! ### The answer -/

section
variable {s : State} {h : ReqHead} {id : Nat} {p : Param} {val body pad : List Byte}

/-- A setting that is taken is answered with the value then in force. -/
theorem setting_taken {c : Settings} {clamped : Bool} {u : State} {data : List Byte} (hs : commissioned s)
    (hid : Names id p) (hp : Param.ofLine p = false) (hbody : body = be 2 id ++ (val ++ pad))
    (hlen : val.length = p.width) (hset : p.set val s.cfg = some (c, clamped))
    (hu : settingTakesEffect p (taken s) { taken s with cfg := c } = u) (hdata : p.get u.cfg = data) :
    exec (.setParam h body) s
      = .next (replied h 0x13 (if clamped then 0x01 else 0x00) (be 2 id ++ data) u) := by
  have hop : opSetParam ⟨h, 0x13, body⟩ (taken s) = (u, some ⟨okOr clamped, be 2 id ++ data⟩) := by
    rw [opSetParam_named hid hbody hlen, setParam_taken (s := taken s) hp hset, hu, paramReply, get_inForce hp, hdata]
  refine exec_next_inj ((command_answered hs.1 (fun _ => hs.2) hop (okOr_refuses _)).trans ?_)
  rw [okOr_code]
  rfl

/-- A value outside its set is refused. -/
theorem setting_refused (hs : commissioned s) (hid : Names id p) (hp : Param.ofLine p = false)
    (hbody : body = be 2 id ++ (val ++ pad)) (hlen : val.length = p.width) (hset : p.set val s.cfg = none) :
    exec (.setParam h body) s = .next (replied h 0x13 0x11 [] (refusedOnce (taken s))) := by
  refine exec_next_inj (command_refused (st := .badValue) hs.1 (fun _ => hs.2) ?_ rfl)
  rw [opSetParam_named hid hbody hlen, setParam_refused (s := taken s) hp hset]

/-- A setting that is only stored: nothing but the configuration changes. -/
theorem setting_stored {c : Settings} {clamped : Bool} {data : List Byte} (hs : commissioned s)
    (hid : Names id p) (hp : Param.ofLine p = false) (hbody : body = be 2 id ++ (val ++ pad))
    (hlen : val.length = p.width) (hset : p.set val s.cfg = some (c, clamped))
    (hquiet : settingTakesEffect p (taken s) { taken s with cfg := c } = { taken s with cfg := c })
    (hdata : p.get c = data) :
    exec (.setParam h body) s
      = .next (replied h 0x13 (if clamped then 0x01 else 0x00) (be 2 id ++ data) { taken s with cfg := c }) :=
  setting_taken hs hid hp hbody hlen hset hquiet hdata

/-- A value from a set is stored as it is carried. -/
theorem setting_chosen {c : Settings} {data : List Byte} (hs : commissioned s)
    (hid : Names id p) (hp : Param.ofLine p = false) (hbody : body = be 2 id ++ (val ++ pad))
    (hlen : val.length = p.width) (hset : p.set val s.cfg = some (c, false))
    (hquiet : settingTakesEffect p (taken s) { taken s with cfg := c } = { taken s with cfg := c })
    (hdata : p.get c = data) :
    exec (.setParam h body) s = .next (replied h 0x13 0x00 (be 2 id ++ data) { taken s with cfg := c }) := by
  have hex := setting_stored (h := h) hs hid hp hbody hlen hset hquiet hdata
  rw [if_neg Bool.false_ne_true] at hex
  exact hex

end

theorem heldClamped (lo hi n : Nat) : (if (held lo hi n).2 then 0x01 else 0x00) = if n < lo ∨ hi < n then 0x01 else 0x00 := by
  simp only [held, Bool.or_eq_true, decide_eq_true_eq]

end Sys2Proof.Proofs
end

section
/-! SUPPORT. SET_PARAM family by family: numbers, values from a set, schedule entries, the seasonal settings (R208). -/

namespace Sys2Proof.Proofs

open Sys2Proof Sys2Proof.Machine Sys2Proof.Safety

/-! ### Values from a set -/

theorem bit_cases {b : Byte} (h : b.toNat ≤ 1) : b = 0 ∨ b = 1 := by bv_omega

theorem secondIsTrue_bit {b : Byte} (h : b.toNat ≤ 1) : secondIsTrue b.toNat = some (b == 1) := by
  rcases bit_cases h with rfl | rfl <;> rfl

theorem encYes_bit {b : Byte} (h : b.toNat ≤ 1) : encYes (b == 1) = [b] := by
  rcases bit_cases h with rfl | rfl <;> rfl

theorem maskOfCode_byte {b : Byte} (h : b.toNat < 128) : maskOfCode b.toNat = some (BitVec.ofNat 7 b.toNat) := if_pos h

theorem maskOfCode_none {n : Nat} (h : 127 < n) : maskOfCode n = none := if_neg (by omega)

theorem be_ofNat {w n : Nat} {b : Byte} (hn : n = b.toNat) (h : n < 2 ^ w) : be 1 (BitVec.ofNat w n).toNat = [b] := by
  rw [BitVec.toNat_ofNat, Nat.mod_eq_of_lt h, hn, be_one]

theorem hourOfCode_byte {b : Byte} (h : b.toNat ≤ 23 ∨ b = 0xFF) :
    hourOfCode b.toNat = some (if b = 0xFF then none else some b.toNat) := by
  rcases h with hle | rfl
  · have hne : b ≠ 0xFF := by
      rintro rfl
      exact absurd hle (by decide)
    rw [hourOfCode, if_pos hle, if_neg hne]
  · rfl

theorem hourOfCode_none {n : Nat} (hlo : 23 < n) (hhi : n < 255) : hourOfCode n = none := by
  rw [hourOfCode, if_neg (by omega), if_neg (by omega)]

theorem be_hour (b : Byte) : be 1 ((if b = 0xFF then none else some b.toNat).getD 255) = [b] := by
  by_cases hb : b = 0xFF
  · rw [if_pos hb, hb]
    rfl
  · rw [if_neg hb, Option.getD_some, be_one]

/-! ### Numbers -/

section
variable {s : State} {h : ReqHead} {id : Nat} {p : Param} {body pad : List Byte} {width lo hi n : Nat}
  {f : Nat → Settings}

/-- A numeric setting, clamped to its range. -/
theorem number_taken {u : State} (hs : commissioned s) (hid : Names id p) (hp : Param.ofLine p = false)
    (hw : p.width = width) (hn : n < 256 ^ width) (hbody : body = be 2 id ++ (be width n ++ pad))
    (hset : ∀ b, p.set b s.cfg = some (f (held lo hi (ofBe b)).1, (held lo hi (ofBe b)).2))
    (hu : settingTakesEffect p (taken s) { taken s with cfg := f (max lo (min hi n)) } = u)
    (hget : p.get u.cfg = be width (max lo (min hi n))) :
    exec (.setParam h body) s = .next (replied h 0x13 (if n < lo ∨ hi < n then 0x01 else 0x00)
      (be 2 id ++ be width (max lo (min hi n))) u) := by
  have hval := hset (be width n)
  rw [ofBe_be_of_lt hn] at hval
  rw [← heldClamped]
  exact setting_taken hs hid hp hbody (by rw [be_length, hw]) hval hu hget

/-- A numeric setting that is only stored. -/
theorem number_stored (hs : commissioned s) (hid : Names id p) (hp : Param.ofLine p = false)
    (hw : p.width = width) (hn : n < 256 ^ width) (hbody : body = be 2 id ++ (be width n ++ pad))
    (hset : ∀ b, p.set b s.cfg = some (f (held lo hi (ofBe b)).1, (held lo hi (ofBe b)).2))
    (hquiet : ∀ t u, settingTakesEffect p t u = u) (hget : ∀ x, p.get (f x) = be width x) :
    exec (.setParam h body) s = .next (replied h 0x13 (if n < lo ∨ hi < n then 0x01 else 0x00)
      (be 2 id ++ be width (max lo (min hi n))) { taken s with cfg := f (max lo (min hi n)) }) :=
  number_taken hs hid hp hw hn hbody hset (hquiet _ _) (hget _)

end

/-! ### Whole schedule entries -/

/-- The entry that five bytes in their sets carry. -/
def entryCarried (en mask hour minute crew : Byte) : ScheduleEntry :=
  ⟨en == 1, BitVec.ofNat 7 mask.toNat, if hour = 0xFF then none else some hour.toNat, min 59 minute.toNat,
    max 1 (min 15 crew.toNat)⟩

theorem wholeEntry_carried {en mask hour : Byte} (minute crew : Byte) (hen : en.toNat ≤ 1) (hmask : mask.toNat < 128)
    (hhour : hour.toNat ≤ 23 ∨ hour = 0xFF) : wholeEntry [en, mask, hour, minute, crew]
      = some (entryCarried en mask hour minute crew, (held 0 59 minute.toNat).2 || (held 1 15 crew.toNat).2) := by
  unfold wholeEntry
  simp only [List.drop_succ_cons, List.drop_zero, List.take_succ_cons, List.take_zero, ofBe_one]
  refine read_step (secondIsTrue_bit hen) (read_step (maskOfCode_byte hmask) (read_step (hourOfCode_byte hhour) ?_))
  rw [entryCarried, ← Nat.zero_max (min 59 minute.toNat)]
  rfl

theorem wholeEntry_none {en mask hour minute crew : Byte}
    (hbad : 1 < en.toNat ∨ 127 < mask.toNat ∨ 23 < hour.toNat ∧ hour.toNat < 255) :
    wholeEntry [en, mask, hour, minute, crew] = none := by
  unfold wholeEntry
  simp only [List.drop_succ_cons, List.drop_zero, List.take_succ_cons, List.take_zero, ofBe_one]
  rcases hbad with hen | hmask | ⟨hlo, hhi⟩
  · rw [secondIsTrue_none hen]
    rfl
  · rw [maskOfCode_none hmask]
    cases secondIsTrue en.toNat <;> rfl
  · rw [hourOfCode_none hlo hhi]
    cases secondIsTrue en.toNat <;> cases maskOfCode mask.toNat <;> rfl

theorem entryCarried_field {en mask : Byte} (hour minute crew : Byte) (hen : en.toNat ≤ 1) (hmask : mask.toNat < 128) :
    (entryCarried en mask hour minute crew).field 5
      = [en, mask, hour] ++ be 1 (min 59 minute.toNat) ++ be 1 (max 1 (min 15 crew.toNat)) := by
  show encYes (en == 1) ++ be 1 (BitVec.ofNat 7 mask.toNat).toNat
    ++ be 1 ((if hour = 0xFF then none else some hour.toNat).getD 255) ++ be 1 _ ++ be 1 _ = _
  rw [encYes_bit hen, be_ofNat rfl hmask, be_hour]
  rfl

/-! ### The seasonal settings -/

/-- What a seasonal setting changes: the calendar takes it up at once. -/
theorem seasonal_taken {s : State} (c : Settings) :
    (calendarEvent true { taken s with cfg := c }).cfg = c
      ∧ (calendarEvent true { taken s with cfg := c }).cal.flag = inForce c.cal s.clock.sec
      ∧ (calendarEvent true { taken s with cfg := c }).cal.fields = localTime c.cal s.clock.sec
      ∧ Only [.cfg, .cal, .nCal, .shift, .nShift, .portS, .resp, .nPortS, .nResp] (taken s)
          (calendarEvent true { taken s with cfg := c }) := by
  have honly := only_calendarEvent true { taken s with cfg := c }
  obtain ⟨hfields, hflag⟩ := calendarEvent_fields true { taken s with cfg := c }
  exact ⟨honly.cfg (by decide), hflag, hfields,
    ((only_set_cfg (taken s) c).mono (by decide)).trans (honly.mono (by decide))⟩

end Sys2Proof.Proofs
end

section
/-! SUPPORT. SET_PARAM of the holdover limit (R15, log 14). -/

namespace Sys2Proof.Proofs

open Sys2Proof Sys2Proof.Machine Sys2Proof.Safety

theorem ageAtLimit_holdover {s : State} {t0 : Instant} (hst : s.clock.state = .holdover)
    (hm : s.clock.lastMarker = some t0) (limit : Nat) :
    ageAtLimit s limit = decide (limit * 1000000000 ≤ elapsedNs t0 s.now) := by
  simp only [ageAtLimit, holdoverAge, hst, hm, beq_self_eq_true, Bool.true_and]

theorem ageAtLimit_other {s : State} (hst : s.clock.state ≠ .holdover) (limit : Nat) : ageAtLimit s limit = false := by
  rw [ageAtLimit, beq_false_of_ne hst, Bool.false_and]

theorem qualityClass_holdover {s : State} {t0 : Instant} (hst : s.clock.state = .holdover)
    (hm : s.clock.lastMarker = some t0) :
    qualityClass s = if s.cfg.clock.holdLimit * 1000000000 ≤ elapsedNs t0 s.now then 2 else 1 := by
  rw [qualityClass, hst]
  dsimp only
  rw [ageAtLimit_holdover hst hm]
  simp only [decide_eq_true_eq]

/-- In other states than HOLDOVER the class does not depend on the limit. -/
theorem qualityClass_other {s t : State} (hst : s.clock.state ≠ .holdover) (heq : t.clock.state = s.clock.state) :
    qualityClass t = qualityClass s := by
  rw [qualityClass, qualityClass, heq]
  cases h : s.clock.state <;> first | exact absurd h hst | rfl

/-- What a new holdover limit leaves (R15). -/
def limitSet (s : State) (limit : Nat) : State :=
  limitChanged (taken s) { taken s with cfg := { s.cfg with clock.holdLimit := limit } }

/-- The limit's own event, still due, taken first. -/
def limitFirst (s : State) (limit : Nat) : State :=
  if holdoverLimitDue (taken s) then
    { holdoverLimitReached (taken s) with cfg := { s.cfg with clock.holdLimit := limit } }
  else { taken s with cfg := { s.cfg with clock.holdLimit := limit } }

/-- The event's mark renewed against the new limit. -/
def limitMarked (s : State) (limit : Nat) : State :=
  { limitFirst s limit with clock.limitTaken := ageAtLimit (limitFirst s limit) (limitFirst s limit).cfg.clock.holdLimit }

theorem limitSet_eq (s : State) (limit : Nat) : limitSet s limit = finishClock (taken s) 0 (limitMarked s limit) := rfl

theorem limitSet_only (s : State) (limit : Nat) :
    Only [.cfg, .clock, .nClock, .portS, .resp, .nPortS, .nResp] (taken s) (limitSet s limit) :=
  only_limitChanged (taken s) _

theorem holdoverLimitReached_clock (s : State) :
    (holdoverLimitReached s).clock = { s.clock with limitTaken := true }
      ∧ (holdoverLimitReached s).cnt.clock
        = { s.cnt.clock with holdoverLimit := s.cnt.clock.holdoverLimit + 1 } := by
  unfold holdoverLimitReached
  dsimp only
  exact ⟨(only_notice _ _ _).clock (by decide), (only_notice _ _ _).nClock (by decide)⟩

theorem limitFirst_clock (s : State) (limit : Nat) : (limitFirst s limit).cfg = { s.cfg with clock.holdLimit := limit }
    ∧ (∃ b, (limitFirst s limit).clock = { s.clock with limitTaken := b })
    ∧ (limitFirst s limit).cnt.clock = { s.cnt.clock with
        holdoverLimit := s.cnt.clock.holdoverLimit + (if holdoverLimitDue (taken s) then 1 else 0) } := by
  obtain ⟨hclock, hcnt⟩ := holdoverLimitReached_clock (taken s)
  have hzero : s.cnt.clock.holdoverLimit + 0 = s.cnt.clock.holdoverLimit := BitVec.add_zero _
  unfold limitFirst
  by_cases h : holdoverLimitDue (taken s) = true
  · rw [if_pos h, if_pos h]
    exact ⟨rfl, ⟨true, hclock⟩, hcnt⟩
  · rw [if_neg h, if_neg h, hzero]
    exact ⟨rfl, ⟨s.clock.limitTaken, rfl⟩, rfl⟩

theorem limitSet_clock (s : State) (limit : Nat) : (limitSet s limit).cfg = { s.cfg with clock.holdLimit := limit }
    ∧ (limitSet s limit).clock = { s.clock with limitTaken := (limitSet s limit).clock.limitTaken }
    ∧ (limitSet s limit).cnt.clock = { s.cnt.clock with
        holdoverLimit := s.cnt.clock.holdoverLimit + (if holdoverLimitDue (taken s) then 1 else 0) } := by
  obtain ⟨hcfg, ⟨b, hclock⟩, hcnt⟩ := limitFirst_clock s limit
  have ho := only_finishClock_zero (taken s) (limitMarked s limit)
  have hc : (limitSet s limit).clock = (limitMarked s limit).clock := ho.clock (by decide)
  refine ⟨(ho.cfg (by decide)).trans hcfg, ?_, (ho.nClock (by decide)).trans hcnt⟩
  have hm : (limitMarked s limit).clock
      = { (limitFirst s limit).clock with limitTaken := (limitMarked s limit).clock.limitTaken } := rfl
  rw [hc]
  exact hm.trans (by rw [hclock])

theorem holdoverLimitDue_iff {s : State} {t0 : Instant} (hlive : live s = true) (hst : s.clock.state = .holdover)
    (hm : s.clock.lastMarker = some t0) : holdoverLimitDue (taken s) = true ↔
      s.clock.limitTaken = false ∧ s.cfg.clock.holdLimit * 1000000000 ≤ elapsedNs t0 s.now := by
  have hrun : s.supply.state = .run := beq_iff_eq.mp (Bool.and_eq_true_iff.mp hlive).1
  have hticks : ticks (taken s) = true := by
    rw [ticks, show (taken s).supply = s.supply from rfl, hrun]
  have hage := ageAtLimit_holdover (s := taken s) hst hm s.cfg.clock.holdLimit
  rw [holdoverLimitDue, hticks, Bool.true_and, Bool.and_eq_true, Bool.not_eq_true',
    show (taken s).cfg.clock.holdLimit = s.cfg.clock.holdLimit from rfl, hage, decide_eq_true_eq]
  rfl

theorem finishClock_class {b s : State} (h : qualityClass s ≠ qualityClass b) :
    finishClock b 0 s = notice 0x83 (clockNoticeBody 0 s) s := by
  rw [finishClock]
  simp [h]

/-- In HOLDOVER the class follows at once, and a change of class alone emits the notice. -/
theorem limitSet_holdover {s : State} {t0 : Instant} {limit : Nat} (hlive : live s = true)
    (hst : s.clock.state = .holdover) (hm : s.clock.lastMarker = some t0) :
    qualityClass (limitSet s limit) = (if limit * 1000000000 ≤ elapsedNs t0 s.now then 2 else 1)
      ∧ (¬(s.clock.limitTaken = false ∧ s.cfg.clock.holdLimit * 1000000000 ≤ elapsedNs t0 s.now) →
        (limitSet s limit).resp.noticeNo
          = s.resp.noticeNo + (if qualityClass (limitSet s limit) = qualityClass s then 0 else 1)) := by
  obtain ⟨hcfg, hclock, -⟩ := limitSet_clock s limit
  have hstate : (limitSet s limit).clock.state = .holdover := (congrArg Clock.state hclock).trans hst
  have hmarker : (limitSet s limit).clock.lastMarker = some t0 := (congrArg Clock.lastMarker hclock).trans hm
  have hnow : (limitSet s limit).now = s.now := by
    rw [State.now, hclock]
    rfl
  refine ⟨?_, fun hnot => ?_⟩
  · rw [qualityClass_holdover hstate hmarker, hcfg, hnow]
  · have hmarked : limitMarked s limit = { taken s with
        cfg := { s.cfg with clock.holdLimit := limit }, clock := (limitMarked s limit).clock } := by
      have hfirst : limitFirst s limit = { taken s with cfg := { s.cfg with clock.holdLimit := limit } } :=
        if_neg (fun h => hnot ((holdoverLimitDue_iff hlive hst hm).mp h))
      rw [limitMarked, hfirst]
    have ho := only_finishClock_zero (taken s) (limitMarked s limit)
    have hsame : qualityClass (limitSet s limit) = qualityClass (limitMarked s limit) :=
      qualityClass_congr (ho.clock (by decide)) (ho.cfg (by decide))
    have hstate' : (limitMarked s limit).clock.state = (taken s).clock.state :=
      (congrArg Clock.state (ho.clock (by decide))).symm.trans (hstate.trans hst.symm)
    have hresp : (limitMarked s limit).resp = s.resp := by rw [hmarked]; rfl
    have hsupply : live (limitMarked s limit) = true := by
      rw [hmarked]
      exact hlive
    rw [hsame, limitSet_eq]
    by_cases hq : qualityClass (limitMarked s limit) = qualityClass s
    · rw [if_pos hq, finishClock_quiet hstate' hq, hresp]
      exact (BitVec.add_zero _).symm
    · rw [if_neg hq, finishClock_class (b := taken s) hq, notice_noticeNo _ _ hsupply, hresp]

/-- In the other states a new limit is only stored. -/
theorem limitSet_other {s : State} {limit : Nat} (hst : s.clock.state ≠ .holdover) :
    (limitSet s limit).cnt.clock = s.cnt.clock ∧ (limitSet s limit).resp = s.resp := by
  have hnot : ¬holdoverLimitDue (taken s) = true := by
    rw [holdoverLimitDue, ageAtLimit_other (s := taken s) hst, Bool.and_false]
    exact Bool.false_ne_true
  have hfirst : limitFirst s limit = { taken s with cfg := { s.cfg with clock.holdLimit := limit } } := if_neg hnot
  have hquiet : limitSet s limit = limitMarked s limit := by
    have hstate : (limitMarked s limit).clock.state = (taken s).clock.state := by rw [limitMarked, hfirst]
    exact (limitSet_eq s limit).trans (finishClock_quiet hstate (qualityClass_other (s := taken s) hst hstate))
  rw [hquiet, limitMarked, hfirst]
  exact ⟨rfl, rfl⟩

end Sys2Proof.Proofs
end

section
/-! SUPPORT. SET_PARAM of a line's settings: between pulses, behind a drive, and their values (R169, R170, R179). -/

namespace Sys2Proof.Proofs

open Sys2Proof Sys2Proof.Machine Sys2Proof.Safety

/-! ### A change applied to a line that is not driven -/

/-- A line, its configuration and the realignment count as given. -/
def lineAt (s : State) (i : Fin 8) (c : LineCfg) (l : Line) (n : Count) : State :=
  { s with
    cfg.lines := s.cfg.lines.set i c
    lines := s.lines.set i l
    cnt.lines.realign := s.cnt.lines.realign + n }

theorem lineAt_cfgLine (s : State) (i : Fin 8) (c : LineCfg) (l : Line) (n : Count) :
    (lineAt s i c l n).cfg.lines[i] = c := by
  show (s.cfg.lines.set i c)[i] = c
  rw [getElem_set_fin, if_pos rfl]

theorem lineAt_line (s : State) (i : Fin 8) (c : LineCfg) (l : Line) (n : Count) :
    (lineAt s i c l n).lines[i] = l := by
  show (s.lines.set i l)[i] = l
  rw [getElem_set_fin, if_pos rfl]

theorem lineAt_self (s : State) (i : Fin 8) : lineAt s i s.cfg.lines[i] s.lines[i] 0 = s := by
  have hc : s.cfg.lines.set i s.cfg.lines[i] = s.cfg.lines := set_getElem_fin s.cfg.lines i
  have hl : s.lines.set i s.lines[i] = s.lines := set_getElem_fin s.lines i
  have hn : s.cnt.lines.realign + 0 = s.cnt.lines.realign := BitVec.add_zero _
  rw [lineAt, hc, hl, hn]

theorem withLine_eq (s : State) (i : Fin 8) (l : Line) : s.withLine i l = lineAt s i s.cfg.lines[i] l 0 := by
  have hc : s.cfg.lines.set i s.cfg.lines[i] = s.cfg.lines := set_getElem_fin s.cfg.lines i
  have hn : s.cnt.lines.realign + 0 = s.cnt.lines.realign := BitVec.add_zero _
  rw [lineAt, hc, hn, State.withLine]

theorem realign_eq (s : State) (i : Fin 8) : realign i s = lineAt s i s.cfg.lines[i]
    { s.lines[i] with
      mark := tallySecs s s.cfg.lines[i].selection / 36 * 36, basis := some s.cfg.lines[i].selection } 1 := by
  have hc : s.cfg.lines.set i s.cfg.lines[i] = s.cfg.lines := set_getElem_fin s.cfg.lines i
  rw [lineAt, hc]
  rfl

/-- A line's records brought into agreement, whatever its pulse. -/
theorem agree_eq (s : State) (i : Fin 8) : agree i s = lineAt s i s.cfg.lines[i]
    (recordsAgreed s s.cfg.lines[i] s.lines[i])
    (if s.cfg.lines[i].function == .hourMeter && s.lines[i].basis != some s.cfg.lines[i].selection then 1 else 0) := by
  unfold agree
  dsimp only
  cases hcy : s.cfg.lines[i].function.cycle with
  | some cy =>
    have hm : (s.cfg.lines[i].function == .hourMeter) = false := beq_false_of_ne (cycle_ne_hourMeter hcy).1
    dsimp only
    simp only [recordsAgreed, hcy, hm, Bool.false_and, Bool.false_eq_true, if_false]
    by_cases hl : s.lines[i].cycle = some cy
    · rw [if_pos hl, if_pos (.inr hl.symm)]
      exact (lineAt_self s i).symm
    · rw [if_neg hl, if_neg (not_or.mpr ⟨nofun, fun e => hl e.symm⟩), withLine_eq]
  | none =>
    simp only [recordsAgreed, hcy, true_or, if_true]
    by_cases hr : s.cfg.lines[i].function = .hourMeter ∧ s.lines[i].basis ≠ some s.cfg.lines[i].selection
    · have hb : (s.cfg.lines[i].function == .hourMeter
          && s.lines[i].basis != some s.cfg.lines[i].selection) = true := by
        rw [Bool.and_eq_true, beq_iff_eq, bne_iff_ne]
        exact hr
      rw [if_pos hr, realign_eq]
      simp only [hb, if_true]
    · have hb : (s.cfg.lines[i].function == .hourMeter
          && s.lines[i].basis != some s.cfg.lines[i].selection) = false := by
        rw [← Bool.not_eq_true, Bool.and_eq_true, beq_iff_eq, bne_iff_ne]
        exact hr
      rw [if_neg hr]
      simp only [hb, Bool.false_eq_true, if_false]
      exact (lineAt_self s i).symm

/-- The target a new function takes (R172, R173, log 20). -/
def targetTaken (s : State) (i : Fin 8) (c : LineCfg) : Option Nat :=
  if c.function = s.cfg.lines[i].function then s.lines[i].target
  else if s.clock.state = .unset then none else slaveTarget c.function s.cal.fields

/-- The line after a change, its records in agreement. -/
def lineChanged (s : State) (i : Fin 8) (c : LineCfg) : Line :=
  recordsAgreed s c { s.lines[i] with target := targetTaken s i c }

/-- Whether the change realigns an hour meter. -/
def realignedBy (s : State) (i : Fin 8) (c : LineCfg) : Bool :=
  c.function == .hourMeter && s.lines[i].basis != some c.selection

theorem agree_lineAt (s : State) (i : Fin 8) (c : LineCfg) (l : Line) (hl : l.basis = s.lines[i].basis) :
    agree i (lineAt s i c l 0) = lineAt s i c (recordsAgreed s c l) (if realignedBy s i c then 1 else 0) := by
  have hn (n : Count) : s.cnt.lines.realign + 0 + n = s.cnt.lines.realign + n :=
    congrArg (· + n) (BitVec.add_zero _)
  have ht (d : LineCfg) : recordsAgreed (lineAt s i c l 0) d l = recordsAgreed s d l := rfl
  rw [agree_eq, lineAt_cfgLine, lineAt_line, ht, hl]
  simp only [lineAt, Vector.set_set, hn, realignedBy]
  rfl

theorem lineChanged_sameFunction {s : State} {i : Fin 8} {c : LineCfg} (hc : c.function = s.cfg.lines[i].function) :
    lineChanged s i c = recordsAgreed s c s.lines[i] := by
  rw [lineChanged, targetTaken, if_pos hc]

/-- A configuration change applied (R170). -/
theorem applyChange_eq (s : State) (i : Fin 8) {ch : LineChange} (hd : ∀ p w, ch ≠ .dial p w) :
    applyChange i ch s = lineAt s i (s.cfg.lines[i].apply ch) (lineChanged s i (s.cfg.lines[i].apply ch))
      (if realignedBy s i (s.cfg.lines[i].apply ch) then 1 else 0) := by
  have hcfg (c : LineCfg) (l : Line) : (s.withLineCfg i c).withLine i l = lineAt s i c l 0 := by
    have hn : s.cnt.lines.realign + 0 = s.cnt.lines.realign := BitVec.add_zero _
    rw [lineAt, hn]
    rfl
  have hstays (c : LineCfg) : s.withLineCfg i c = lineAt s i c s.lines[i] 0 := by
    rw [← hcfg, State.withLine]
    exact congrArg (fun v => { s.withLineCfg i c with lines := v }) (set_getElem_fin s.lines i).symm
  cases ch with
  | dial p w => exact absurd rfl (hd p w)
  | function f =>
    unfold applyChange
    dsimp only
    by_cases hf : s.cfg.lines[i].function = f
    · rw [if_pos hf, hstays, agree_lineAt s i _ _ rfl, lineChanged_sameFunction (s := s) (i := i)
        (c := s.cfg.lines[i].apply (.function f)) hf.symm]
    · have hrenew : renewTarget i (s.withLineCfg i (s.cfg.lines[i].apply (.function f)))
          = lineAt s i (s.cfg.lines[i].apply (.function f))
              { s.lines[i] with target := targetTaken s i (s.cfg.lines[i].apply (.function f)) } 0 := by
        have hfun : (s.withLineCfg i (s.cfg.lines[i].apply (.function f))).cfg.lines[i]
            = s.cfg.lines[i].apply (.function f) := (getElem_set_fin _ _ _ _).trans (if_pos rfl)
        unfold renewTarget
        dsimp only
        have hnew : ¬(s.cfg.lines[i].apply (.function f)).function = s.cfg.lines[i].function := fun h => hf h.symm
        rw [hfun, hcfg, targetTaken, if_neg hnew]
        rfl
      rw [if_neg hf, hrenew]
      exact agree_lineAt s i _ { s.lines[i] with target := _ } rfl
  | _ =>
    unfold applyChange
    dsimp only
    rw [hstays, agree_lineAt s i _ _ rfl, lineChanged_sameFunction (c := s.cfg.lines[i].apply _) rfl]

/-! ### No pulse is called for -/

theorem decideLine_onTarget {s : State} {i : Fin 8} {cy : Cycle} (hf : s.cfg.lines[i].function.cycle = some cy)
    (ht : s.lines[i].target = some s.lines[i].pos) : decideLine i s = s := by
  cases hc : s.lines[i].cycle with
  | none => exact decideLine_slave_lost hf (.inr (.inl hc))
  | some cy' =>
    unfold decideLine
    simp only [(cycle_ne_hourMeter hf).1, if_false, hc, ht, Nat.add_sub_cancel_left, Nat.mod_self]
    have hno : ¬(1 ≤ 0 ∧ 0 ≤ cy'.steps - s.cfg.lines[i].holdSteps) := fun h => absurd h.1 (by decide)
    rw [if_neg hno, ite_self, ite_self]

/-- Where neither a dial nor a meter calls for a pulse. -/
theorem decideLine_uncalled {s : State} {i : Fin 8}
    (h : s.cfg.lines[i].function = .off ∨ s.cfg.lines[i].function = .secondMark
      ∨ s.cfg.lines[i].function = .hourMeter ∧ tallySecs s s.cfg.lines[i].selection < s.lines[i].mark + 36
      ∨ s.cfg.lines[i].function.cycle.isSome = true
        ∧ (s.clock.state = .unset ∨ s.lines[i].cycle = none ∨ s.lines[i].target = none
          ∨ s.lines[i].target = some s.lines[i].pos)) : decideLine i s = s := by
  rcases h with hoff | hmark | ⟨hmeter, hless⟩ | ⟨hslave, hdial⟩
  · exact decideLine_other (.inl hoff)
  · exact decideLine_other (.inr hmark)
  · exact decideLine_meter_waits hmeter hless
  · obtain ⟨cy, hcy⟩ := Option.isSome_iff_exists.mp hslave
    rcases hdial with hu | hc | ht | ht
    · exact decideLine_slave_lost hcy (.inl hu)
    · exact decideLine_slave_lost hcy (.inr (.inl hc))
    · exact decideLine_slave_lost hcy (.inr (.inr ht))
    · exact decideLine_onTarget hcy ht

/-- A configuration change at a line that is not driven and then calls for no pulse. -/
theorem takeChange_settled {s : State} {i : Fin 8} {ch : LineChange} (hd : ∀ p w, ch ≠ .dial p w)
    (hp : s.lines[i].pulse.wire.isSome = false)
    (hq : s.lines[i].pulse.ends.isSome = true ∨ (s.cfg.lines[i].apply ch).function = .off
      ∨ (s.cfg.lines[i].apply ch).function = .secondMark
      ∨ (s.cfg.lines[i].apply ch).function = .hourMeter
        ∧ tallySecs s (s.cfg.lines[i].apply ch).selection < (lineChanged s i (s.cfg.lines[i].apply ch)).mark + 36
      ∨ (s.cfg.lines[i].apply ch).function.cycle.isSome = true
        ∧ (s.clock.state = .unset ∨ (lineChanged s i (s.cfg.lines[i].apply ch)).cycle = none
          ∨ (lineChanged s i (s.cfg.lines[i].apply ch)).target = none
          ∨ (lineChanged s i (s.cfg.lines[i].apply ch)).target
            = some (lineChanged s i (s.cfg.lines[i].apply ch)).pos)) :
    takeChange i ch s = lineAt s i (s.cfg.lines[i].apply ch) (lineChanged s i (s.cfg.lines[i].apply ch))
      (if realignedBy s i (s.cfg.lines[i].apply ch) then 1 else 0) := by
  unfold takeChange
  cases hpulse : s.lines[i].pulse with
  | drive w e =>
    rw [hpulse] at hp
    cases hp
  | gap e => exact applyChange_eq s i hd
  | rest =>
    dsimp only
    rw [applyChange_eq s i hd]
    refine decideLine_uncalled ?_
    rw [lineAt_cfgLine, lineAt_line]
    rcases hq with hq | hq
    · rw [hpulse] at hq
      cases hq
    · exact hq

theorem takeChange_driven {s : State} {i : Fin 8} (hp : s.lines[i].pulse.wire.isSome = true) (ch : LineChange) :
    takeChange i ch s = s.withLine i { s.lines[i] with pending := s.lines[i].pending ++ [ch] } := by
  unfold takeChange
  cases hpulse : s.lines[i].pulse with
  | drive w e => rfl
  | _ =>
    rw [hpulse] at hp
    cases hp

end Sys2Proof.Proofs
end

section
/-! SUPPORT. SET_PARAM of a line's settings: the values carried and the answers (R169, R170, R208, log 31). -/

namespace Sys2Proof.Proofs

open Sys2Proof Sys2Proof.Machine Sys2Proof.Safety

/-! ### The values -/

theorem names_line (i : Fin 8) (f : Fin 7) {id : Nat} (h : id = 0x0800 + 16 * i.val + f.val) :
    Names id (.line i f) := by
  have hall : ∀ (i : Fin 8) (f : Fin 7), Names (0x0800 + 16 * i.val + f.val) (.line i f) := by decide
  rw [h]
  exact hall i f

theorem held_moved {lo hi n : Nat} (h : lo ≤ hi) : (held lo hi n).2 = decide (max lo (min hi n) ≠ n) := by
  simp only [held]
  rw [Bool.eq_iff_iff, Bool.or_eq_true]
  simp only [decide_eq_true_eq]
  omega

/-- A value `n` carried for field `f` of a line: the change it asks for, the value `x` taken and `y` in force; `d` is the
configuration the line will have before the change. -/
structure LineSetting (i : Fin 8) (d : LineCfg) (id width n x y : Nat) (ch : LineChange) (f : Fin 7) : Prop where
  names : Names id (.line i f)
  wide : (Param.line i f).width = width
  change : lineChangeOf f n = some (ch, decide (x ≠ n))
  notDial : ∀ p w, ch ≠ .dial p w
  data : LineCfg.field { d.apply ch with width := (d.apply ch).widthInForce } f = be width y

section
variable {i : Fin 8} {d : LineCfg} {id n : Nat}

theorem unchanged (n : Nat) : decide (n ≠ n) = false := by simp

theorem lineSetting_function {f : LineFunction} (hid : id = 0x0800 + 16 * i.val)
    (hf : (n, f) ∈ [(0, LineFunction.off), (1, .slaveMinute), (2, .slaveHalf), (3, .secondMark), (4, .hourMeter)]) :
    LineSetting i d id 1 n n n (.function f) 0 := by
  have hcode : LineFunction.ofCode n = some f ∧ f.code = n := by
    simp only [List.mem_cons, Prod.mk.injEq, List.not_mem_nil, or_false] at hf
    rcases hf with ⟨rfl, rfl⟩ | ⟨rfl, rfl⟩ | ⟨rfl, rfl⟩ | ⟨rfl, rfl⟩ | ⟨rfl, rfl⟩ <;> exact ⟨rfl, rfl⟩
  refine ⟨names_line i 0 hid, rfl, ?_, nofun, congrArg (be 1) hcode.2⟩
  rw [lineChangeOf, hcode.1, unchanged]
  rfl

theorem lineSetting_width (hid : id = 0x0801 + 16 * i.val) : LineSetting i d id 2 n (max 1 (min 2000 n))
    (if d.function = .secondMark then min 500 (max 1 (min 2000 n)) else max 20 (max 1 (min 2000 n)))
    (.width (max 1 (min 2000 n))) 1 := by
  refine ⟨names_line i 1 (by rw [hid]; show _ = _ + 1; omega), rfl, ?_, nofun, congrArg (be 2) ?_⟩
  · rw [lineChangeOf, held_moved (by omega)]
    rfl
  · show (if d.function = .secondMark then clampNat 1 500 _ else clampNat 20 2000 _) = _
    simp only [clampNat, LineCfg.apply]
    split <;> omega

theorem lineSetting_gap (hid : id = 0x0802 + 16 * i.val) : LineSetting i d id 2 n (max 200 (min 5000 n))
    (max 200 (min 5000 n)) (.gap (max 200 (min 5000 n))) 2 := by
  refine ⟨names_line i 2 (by rw [hid]; show _ = _ + 2; omega), rfl, ?_, nofun, rfl⟩
  rw [lineChangeOf, held_moved (by omega)]
  rfl

theorem lineSetting_hold (hid : id = 0x0803 + 16 * i.val) :
    LineSetting i d id 2 n (min 360 n) (min 360 n) (.hold (min 360 n)) 3 := by
  refine ⟨names_line i 3 (by rw [hid]; show _ = _ + 3; omega), rfl, ?_, nofun, rfl⟩
  rw [lineChangeOf, held_moved (by omega), ← Nat.zero_max (min 360 n)]
  rfl

theorem lineSetting_unit {v : Fin 6} (hid : id = 0x0804 + 16 * i.val) (hn : n = v.val + 1) :
    LineSetting i d id 1 n n n (.unit v) 4 := by
  subst hn
  refine ⟨names_line i 4 (by rw [hid]; show _ = _ + 4; omega), rfl, ?_, nofun, rfl⟩
  rw [lineChangeOf, unitOfNo_succ, unchanged]
  rfl

theorem lineSetting_modes (hid : id = 0x0805 + 16 * i.val) (hn : n < 32) :
    LineSetting i d id 1 n n n (.modes (BitVec.ofNat 5 n)) 5 := by
  refine ⟨names_line i 5 (by rw [hid]; show _ = _ + 5; omega), rfl, ?_, nofun, congrArg (be 1) ?_⟩
  · rw [lineChangeOf, if_pos hn, unchanged]
  · show (BitVec.ofNat 5 n).toNat = n
    rw [BitVec.toNat_ofNat, Nat.mod_eq_of_lt hn]

theorem lineSetting_test (hid : id = 0x0806 + 16 * i.val) (hn : n < 2) :
    LineSetting i d id 1 n n n (.test (n == 0)) 6 := by
  have hbit : firstIsTrue n = some (n == 0) ∧ encSet (n == 0) = be 1 n := by
    rcases (show n = 0 ∨ n = 1 by omega) with rfl | rfl <;> exact ⟨rfl, rfl⟩
  refine ⟨names_line i 6 (by rw [hid]; show _ = _ + 6; omega), rfl, ?_, nofun, hbit.2⟩
  rw [lineChangeOf, hbit.1, unchanged]
  rfl

end

/-! ### The answers -/

section
variable {s : State} {h : ReqHead} {i : Fin 8} {id width n x y : Nat} {ch : LineChange} {f : Fin 7} {pad : List Byte}

theorem get_line (u : State) : (Param.line i f).get (settingsInForce u)
    = LineCfg.field { projectedCfg i u with width := (projectedCfg i u).widthInForce } f := by
  show LineCfg.field (settingsInForce u).lines[i] f = _
  unfold settingsInForce
  dsimp only
  rw [Fin.getElem_fin, Vector.getElem_ofFn]

theorem opSetParam_line {d : LineCfg} (hset : LineSetting i d id width n x y ch f) (hn : n < 256 ^ width) (s : State) :
    opSetParam ⟨h, 0x13, be 2 id ++ be width n ++ pad⟩ s = if lineBusy i s then refuse .busy s else
      (takeChange i ch s, some (paramReply id (.line i f) (decide (x ≠ n)) (takeChange i ch s))) := by
  rw [opSetParam_named hset.names (List.append_assoc _ _ _) (by rw [be_length, hset.wide]), setParam_line,
    ofBe_be_of_lt hn, hset.change]

/-- A line's setting taken: the reply carries the value the line will have. -/
theorem lineSetting_taken {u : State} (hs : commissioned s)
    (hset : LineSetting i (projectedCfg i s) id width n x y ch f) (hn : n < 256 ^ width)
    (hbusy : ¬(s.lines[i].pulse.wire.isSome = true ∧ 8 ≤ s.lines[i].pending.length))
    (hu : takeChange i ch (taken s) = u) (hcfg : projectedCfg i u = (projectedCfg i s).apply ch) :
    exec (.setParam h (be 2 id ++ be width n ++ pad)) s
      = .next (replied h 0x13 (if x = n then 0x00 else 0x01) (be 2 id ++ be width y) u) := by
  have hfree : ¬lineBusy i (taken s) = true := fun hb => hbusy ((lineBusy_iff i (taken s)).mp hb)
  have hop : opSetParam ⟨h, 0x13, be 2 id ++ be width n ++ pad⟩ (taken s)
      = (u, some ⟨okOr (decide (x ≠ n)), be 2 id ++ be width y⟩) := by
    rw [opSetParam_line hset hn, if_neg hfree, hu, paramReply, get_line, hcfg, hset.data]
  refine exec_next_inj ((command_answered hs.1 (fun _ => hs.2) hop (okOr_refuses _)).trans ?_)
  rw [okOr_held]
  rfl

/-- A driven line with 8 pending changes refuses. -/
theorem lineSetting_busy (hs : commissioned s) (hset : LineSetting i (projectedCfg i s) id width n x y ch f)
    (hn : n < 256 ^ width) (hbusy : s.lines[i].pulse.wire.isSome = true ∧ 8 ≤ s.lines[i].pending.length) :
    exec (.setParam h (be 2 id ++ be width n ++ pad)) s = .next (replied h 0x13 0x13 [] (refusedOnce (taken s))) := by
  refine exec_next_inj (command_refused (st := .busy) hs.1 (fun _ => hs.2) ?_ rfl)
  rw [opSetParam_line hset hn, if_pos ((lineBusy_iff i (taken s)).mpr hbusy)]

/-- Behind a drive a setting joins the pending changes. -/
theorem projectedCfg_behind (s : State) (i : Fin 8) (ch : LineChange) :
    projectedCfg i (s.withLine i { s.lines[i] with pending := s.lines[i].pending ++ [ch] })
      = (projectedCfg i s).apply ch := by
  rw [projectedCfg, withLine_getElem, if_pos rfl]
  exact List.foldl_append

theorem projectedCfg_lineAt (s : State) (i : Fin 8) (c : LineCfg) (l : Line) (m : Count) (hl : l.pending = []) :
    projectedCfg i (lineAt s i c l m) = c := by
  rw [projectedCfg_none ((congrArg Line.pending (lineAt_line s i c l m)).trans hl), lineAt_cfgLine]

/-- A setting taken behind a drive. -/
theorem lineSetting_behind (hs : commissioned s) (hset : LineSetting i (projectedCfg i s) id width n x y ch f)
    (hn : n < 256 ^ width) (hp : s.lines[i].pulse.wire.isSome = true) (hlen : s.lines[i].pending.length < 8) :
    exec (.setParam h (be 2 id ++ be width n ++ pad)) s
      = .next (replied h 0x13 (if x = n then 0x00 else 0x01) (be 2 id ++ be width y) { taken s with
          lines := s.lines.set i { s.lines[i] with pending := s.lines[i].pending ++ [ch] } }) :=
  lineSetting_taken hs hset hn (fun hb => absurd hb.2 (by omega)) (takeChange_driven (s := taken s) hp ch)
    (projectedCfg_behind (taken s) i ch)

/-- A setting taken between pulses, where none is then called for. -/
theorem lineSetting_between {c : LineCfg} {l : Line} (hs : commissioned s)
    (hset : LineSetting i (projectedCfg i s) id width n x y ch f) (hn : n < 256 ^ width)
    (hp : s.lines[i].pulse.wire.isSome = false) (hpend : s.lines[i].pending = []) (hc : c = s.cfg.lines[i].apply ch)
    (hl : l = lineChanged s i c)
    (hq : s.lines[i].pulse.ends.isSome = true ∨ c.function = .off ∨ c.function = .secondMark
      ∨ c.function = .hourMeter ∧ tallySecs s c.selection < l.mark + 36
      ∨ c.function.cycle.isSome = true
        ∧ (s.clock.state = .unset ∨ l.cycle = none ∨ l.target = none ∨ l.target = some l.pos)) :
    exec (.setParam h (be 2 id ++ be width n ++ pad)) s
      = .next (replied h 0x13 (if x = n then 0x00 else 0x01) (be 2 id ++ be width y)
          (lineAt (taken s) i c l (if realignedBy s i c then 1 else 0))) := by
  subst hl hc
  refine lineSetting_taken hs hset hn (fun hb => absurd (hb.1.symm.trans hp) (by decide))
    (takeChange_settled (s := taken s) hset.notDial hp hq) ?_
  rw [projectedCfg_none hpend]
  exact projectedCfg_lineAt (taken s) i _ _ _ hpend

/-- A value outside a line's set is refused. -/
theorem lineValue_refused {v : Byte} (hs : commissioned s) (hid : Names id (.line i f))
    (hw : (Param.line i f).width = 1) (hbad : lineChangeOf f v.toNat = none) :
    exec (.setParam h (be 2 id ++ v :: pad)) s = .next (replied h 0x13 0x11 [] (refusedOnce (taken s))) := by
  refine exec_next_inj (command_refused (st := .badValue) hs.1 (fun _ => hs.2) ?_ rfl)
  rw [opSetParam_named (body := be 2 id ++ v :: pad) (val := [v]) (pad := pad) hid rfl hw.symm, setParam_line, ofBe_one, hbad]

end

end Sys2Proof.Proofs
end

section
/-! SUPPORT. SET_PARAM clause by clause (R201, R208). -/

namespace Sys2Proof.Proofs

open Sys2Proof Sys2Proof.Machine Sys2Proof.Safety

theorem names_window (g : Fin 16) : Names (0x0500 + g.val) (.window g) := by
  revert g
  decide

theorem names_entry (i : Fin 8) (f : Fin 6) {id : Nat} (h : id = 0x0300 + 8 * i.val + f.val) :
    Names id (.entry i f) := by
  have hall : ∀ (i : Fin 8) (f : Fin 6), Names (0x0300 + 8 * i.val + f.val) (.entry i f) := by decide
  rw [h]
  exact hall i f

theorem names_holdLen (v : Fin 6) : Names (0x0601 + v.val) (.holdLen v) := by
  revert v
  decide

theorem names_totalSel (v : Fin 6) : Names (0x0611 + v.val) (.totalSel v) := by
  revert v
  decide

theorem get_set_self {α : Type} {n : Nat} (w : Vector α n) (i : Fin n) (x : α) : (w.set i x)[i] = x := by
  rw [getElem_set_fin, if_pos rfl]

section
variable {s : State} {h : ReqHead} {pad : List Byte} {id n : Nat} {b : Byte}

/-- An identifier that the catalogue does not name. -/
theorem setParam_unknown (hs : commissioned s) (hid : id < 65536 ∧ Param.ofId id = none) :
    exec (.setParam h (be 2 id ++ pad)) s = .next (replied h 0x13 0x11 [] (refusedOnce (taken s))) := by
  refine exec_next_inj (command_refused (st := .badValue) hs.1 (fun _ => hs.2) ?_ rfl)
  unfold opSetParam
  dsimp only
  rw [rd_be (show id < 256 ^ 2 from hid.1)]
  dsimp only
  rw [hid.2]

/-- A setting without its value. -/
theorem setParam_short {p : Param} (hs : commissioned s) (hid : Names id p) (hw : 0 < p.width) :
    exec (.setParam h (be 2 id)) s = .next (replied h 0x13 0x10 [] (refusedOnce (taken s))) := by
  refine exec_next_inj (command_refused (st := .badRequest) hs.1 (fun _ => hs.2) ?_ rfl)
  have hrd := rd_be (w := 2) (show id < 256 ^ 2 from hid.1) []
  rw [List.append_nil] at hrd
  unfold opSetParam
  dsimp only
  rw [hrd]
  dsimp only
  rw [hid.2]
  exact if_pos hw

/-- A value of one byte. -/
theorem byte_refused {p : Param} (hs : commissioned s) (hid : Names id p) (hp : Param.ofLine p = false)
    (hw : p.width = 1) (hset : p.set [b] s.cfg = none) :
    exec (.setParam h (be 2 id ++ b :: pad)) s = .next (replied h 0x13 0x11 [] (refusedOnce (taken s))) :=
  setting_refused (val := [b]) (pad := pad) hs hid hp rfl hw.symm hset

theorem byte_number {p : Param} {lo hi : Nat} {f : Nat → Settings} {u : State} (hs : commissioned s)
    (hid : Names id p) (hp : Param.ofLine p = false) (hw : p.width = 1)
    (hset : ∀ b, p.set b s.cfg = some (f (held lo hi (ofBe b)).1, (held lo hi (ofBe b)).2))
    (hu : settingTakesEffect p (taken s) { taken s with cfg := f (max lo (min hi b.toNat)) } = u)
    (hget : p.get u.cfg = be 1 (max lo (min hi b.toNat))) :
    exec (.setParam h (be 2 id ++ b :: pad)) s
      = .next (replied h 0x13 (if b.toNat < lo ∨ hi < b.toNat then 0x01 else 0x00)
          (be 2 id ++ be 1 (max lo (min hi b.toNat))) u) :=
  number_taken (pad := pad) hs hid hp hw (show b.toNat < 256 ^ 1 from b.isLt) (by rw [be_one]; rfl) hset hu hget

theorem setParam_window (g : Fin 16) (hs : commissioned s) :
    exec (.setParam h (be 2 (0x0500 + g.val) ++ b :: pad)) s
      = .next (replied h 0x13 (if 100 < b.toNat then 0x01 else 0x00) (be 2 (0x0500 + g.val) ++ be 1 (min b.toNat 100))
          { taken s with cfg.windows := s.cfg.windows.set g (min b.toNat 100) }) := by
  have hmax : max 0 (min 100 b.toNat) = min b.toNat 100 := by omega
  have hex := byte_number (f := fun x => { s.cfg with windows := s.cfg.windows.set g x }) (lo := 0) (hi := 100)
    (h := h) (pad := pad) (b := b) hs (names_window g) rfl rfl (fun _ => rfl) rfl
    (congrArg (be 1) (get_set_self _ g _))
  rw [hmax] at hex
  simp only [Nat.not_lt_zero, false_or] at hex
  exact hex

theorem six_bytes {n : Nat} (hn : n < 2 ^ 48) : n < 256 ^ 6 := by omega

theorem names_station : Names 0x0901 .station := by decide

theorem setParam_station_refused (hs : commissioned s) (hn : n < 2 ^ 48) (hbit : n / 2 ^ 40 % 2 = 1) :
    exec (.setParam h (be 2 0x0901 ++ be 6 n ++ pad)) s = .next (replied h 0x13 0x11 [] (refusedOnce (taken s))) := by
  have hval : Param.set .station (be 6 n) s.cfg = none := by
    unfold Param.set
    dsimp only
    rw [ofBe_be_of_lt (six_bytes hn), if_pos hbit]
  exact setting_refused (val := be 6 n) (pad := pad) hs names_station rfl (List.append_assoc _ _ _) (be_length 6 n) hval

theorem setParam_station (hs : commissioned s) (hn : n < 2 ^ 48) (hbit : n / 2 ^ 40 % 2 = 0) :
    exec (.setParam h (be 2 0x0901 ++ be 6 n ++ pad)) s
      = .next (replied h 0x13 0x00 (be 2 0x0901 ++ be 6 n) { taken s with cfg.net.station := BitVec.ofNat 48 n }) := by
  have hval : Param.set .station (be 6 n) s.cfg = some ({ s.cfg with net.station := BitVec.ofNat 48 n }, false) := by
    unfold Param.set
    dsimp only
    rw [ofBe_be_of_lt (six_bytes hn), if_neg (by omega)]
  have hget : (BitVec.ofNat 48 n).toNat = n := by rw [BitVec.toNat_ofNat, Nat.mod_eq_of_lt hn]
  exact setting_chosen (val := be 6 n) (pad := pad) hs names_station rfl (List.append_assoc _ _ _) (be_length 6 n) hval rfl (congrArg (be 6) hget)

theorem names_mgmtU : Names 0x0903 .mgmtU := by decide

theorem setParam_mgmtU (hs : commissioned s) (hb : b.toNat ≤ 1) :
    exec (.setParam h (be 2 0x0903 ++ b :: pad)) s
      = .next (replied h 0x13 0x00 (be 2 0x0903 ++ [b]) { taken s with cfg.net.mgmtU := b == 1 }) := by
  have hval : Param.set .mgmtU [b] s.cfg = some ({ s.cfg with net.mgmtU := b == 1 }, false) := by
    unfold Param.set
    dsimp only
    rw [ofBe_one, secondIsTrue_bit hb]
    rfl
  exact setting_chosen (val := [b]) (pad := pad) hs names_mgmtU rfl rfl rfl hval rfl (encYes_bit hb)

theorem setParam_mgmtU_refused (hs : commissioned s) (hb : 1 < b.toNat) :
    exec (.setParam h (be 2 0x0903 ++ b :: pad)) s = .next (replied h 0x13 0x11 [] (refusedOnce (taken s))) := by
  refine byte_refused hs names_mgmtU rfl rfl ?_
  unfold Param.set
  dsimp only
  rw [ofBe_one, secondIsTrue_none hb]
  rfl

theorem names_offset : Names 0x0201 .offset := by decide

theorem setParam_offset (hs : commissioned s) : exec (.setParam h (be 2 0x0201 ++ b :: pad)) s
    = .next (replied h 0x13 (if b.toInt < -56 ∨ 56 < b.toInt then 0x01 else 0x00)
        (be 2 0x0201 ++ beInt 1 (clampInt (-56) 56 b.toInt))
        (calendarEvent true { taken s with cfg := { s.cfg with cal.offset := clampInt (-56) 56 b.toInt } })) := by
  have hval : Param.set .offset [b] s.cfg = some ({ s.cfg with cal.offset := clampInt (-56) 56 b.toInt },
      decide (b.toInt < -56 ∨ 56 < b.toInt)) := by
    unfold Param.set
    dsimp only
    rw [ofBe_one, ofByteSigned, BitVec.ofNat_toNat, BitVec.setWidth_eq, Bool.decide_or]
  have hcfg := (seasonal_taken (s := s) { s.cfg with cal.offset := clampInt (-56) 56 b.toInt }).1
  have hex := setting_taken (val := [b]) (pad := pad) (h := h) hs names_offset rfl rfl rfl hval rfl
    (congrArg (Param.get .offset) hcfg)
  simp only [decide_eq_true_eq] at hex
  exact hex

/-! ### Values of a line -/

/-- Every row of the statement is a setting of the line. -/
theorem lineSetting_exists {i : Fin 8} {v : Fin 6} {d : LineCfg} {width x y : Nat} {ch : LineChange}
    (hy : y = if id = 0x0801 + 16 * i.val then (if d.function = .secondMark then min 500 x else max 20 x) else x)
    (hset : id = 0x0800 + 16 * i.val ∧ width = 1 ∧ x = n
          ∧ (∃ f, (n, f) ∈ [(0, LineFunction.off), (1, .slaveMinute), (2, .slaveHalf), (3, .secondMark), (4, .hourMeter)]
            ∧ ch = .function f)
        ∨ id = 0x0801 + 16 * i.val ∧ width = 2 ∧ x = max 1 (min 2000 n) ∧ ch = .width x
        ∨ id = 0x0802 + 16 * i.val ∧ width = 2 ∧ x = max 200 (min 5000 n) ∧ ch = .gap x
        ∨ id = 0x0803 + 16 * i.val ∧ width = 2 ∧ x = min 360 n ∧ ch = .hold x
        ∨ id = 0x0804 + 16 * i.val ∧ width = 1 ∧ x = n ∧ n = v.val + 1 ∧ ch = .unit v
        ∨ id = 0x0805 + 16 * i.val ∧ width = 1 ∧ x = n ∧ n < 32 ∧ ch = .modes (BitVec.ofNat 5 n)
        ∨ id = 0x0806 + 16 * i.val ∧ width = 1 ∧ x = n ∧ n < 2 ∧ ch = .test (n == 0)) :
    ∃ f, LineSetting i d id width n x y ch f := by
  have hother {z : Nat} (hz : id = 0x0800 + 16 * i.val + z) (hne : z ≠ 1) : y = x := hy.trans (if_neg (by omega))
  rcases hset with ⟨hid, rfl, rfl, f, hf, rfl⟩ | ⟨hid, rfl, rfl, rfl⟩ | ⟨hid, rfl, rfl, rfl⟩ | ⟨hid, rfl, rfl, rfl⟩
    | ⟨hid, rfl, rfl, hv, rfl⟩ | ⟨hid, rfl, rfl, hv, rfl⟩ | ⟨hid, rfl, rfl, hv, rfl⟩
  · rw [hother (z := 0) hid (by decide)]
    exact ⟨0, lineSetting_function hid hf⟩
  · rw [hy, if_pos hid]
    exact ⟨1, lineSetting_width hid⟩
  · rw [hother (z := 2) (by omega) (by decide)]
    exact ⟨2, lineSetting_gap hid⟩
  · rw [hother (z := 3) (by omega) (by decide)]
    exact ⟨3, lineSetting_hold hid⟩
  · rw [hother (z := 4) (by omega) (by decide)]
    exact ⟨4, lineSetting_unit hid hv⟩
  · rw [hother (z := 5) (by omega) (by decide)]
    exact ⟨5, lineSetting_modes hid hv⟩
  · rw [hother (z := 6) (by omega) (by decide)]
    exact ⟨6, lineSetting_test hid hv⟩

theorem lineFunction_none {n : Nat} (hn : 4 < n) : LineFunction.ofCode n = none := by
  unfold LineFunction.ofCode
  split
  case h_6 => rfl
  all_goals omega

/-- A value outside the set of a line's setting. -/
theorem setParam_lineValue {i : Fin 8} (hs : commissioned s)
    (hb : id = 0x0800 + 16 * i.val ∧ 4 < b.toNat ∨ id = 0x0804 + 16 * i.val ∧ (b = 0 ∨ 6 < b.toNat)
      ∨ id = 0x0805 + 16 * i.val ∧ 31 < b.toNat ∨ id = 0x0806 + 16 * i.val ∧ 1 < b.toNat) :
    exec (.setParam h (be 2 id ++ b :: pad)) s = .next (replied h 0x13 0x11 [] (refusedOnce (taken s))) := by
  rcases hb with ⟨hid, hb⟩ | ⟨hid, hb⟩ | ⟨hid, hb⟩ | ⟨hid, hb⟩
  · exact lineValue_refused (f := 0) hs (names_line i 0 hid) rfl
      (by rw [lineChangeOf, lineFunction_none hb]; rfl)
  · have hno : unitOfNo b.toNat = none := by
      refine dif_neg (fun hin => ?_)
      rcases hb with rfl | h6
      · exact absurd hin.1 (by decide)
      · omega
    exact lineValue_refused (f := 4) hs (names_line i 4 (by rw [hid]; show _ = _ + 4; omega)) rfl
      (by rw [lineChangeOf, hno]; rfl)
  · exact lineValue_refused (f := 5) hs (names_line i 5 (by rw [hid]; show _ = _ + 5; omega)) rfl
      (if_neg (by omega))
  · exact lineValue_refused (f := 6) hs (names_line i 6 (by rw [hid]; show _ = _ + 6; omega)) rfl
      (by rw [lineChangeOf, firstIsTrue_none hb]; rfl)

end

end Sys2Proof.Proofs
end

section
/-! SUPPORT. SET_PARAM: the tables of numbers, of values from sets, and of the seasonal settings (R208). -/

namespace Sys2Proof.Proofs

open Sys2Proof Sys2Proof.Machine Sys2Proof.Safety

/-! ### Numbers that are only stored -/

/-- A setting that carries the number `f` stores, in `width` bytes, between `lo` and `hi`. -/
structure NumberSetting (s : State) (p : Param) (id width lo hi : Nat) (f : Nat → Settings) : Prop where
  names : Names id p
  notLine : Param.ofLine p = false
  wide : p.width = width
  set : ∀ b, p.set b s.cfg = some (f (held lo hi (ofBe b)).1, (held lo hi (ofBe b)).2)
  quiet : ∀ t u, settingTakesEffect p t u = u
  get : ∀ x, p.get (f x) = be width x

section
variable {s : State} {h : ReqHead} {pad : List Byte} {id n width lo hi : Nat} {b : Byte} {i : Fin 8} {v : Fin 6}

theorem NumberSetting.stored {p : Param} {f : Nat → Settings} {x : Nat} {c : Settings}
    (hp : NumberSetting s p id width lo hi f) (hs : commissioned s) (hn : n < 256 ^ width)
    (hx : x = max lo (min hi n)) (hc : c = f x) : exec (.setParam h (be 2 id ++ be width n ++ pad)) s
      = .next (replied h 0x13 (if n < lo ∨ hi < n then 0x01 else 0x00) (be 2 id ++ be width x)
          { taken s with cfg := c }) := by
  subst hc hx
  exact number_stored hs hp.names hp.notLine hp.wide hn (List.append_assoc _ _ _) hp.set hp.quiet hp.get

theorem wide_number (x : Nat) {c : Settings}
    (hc : id = 0x0101 ∧ lo = 100000 ∧ hi = 10000000 ∧ c = { s.cfg with clock.window := x }
      ∨ id = 0x0102 ∧ lo = 1000 ∧ hi = 500000000 ∧ c = { s.cfg with clock.step := x }
      ∨ id = 0x0103 ∧ lo = 100 ∧ hi = 100000 ∧ c = { s.cfg with clock.lock := x }) :
    ∃ p f, NumberSetting s p id 4 lo hi f ∧ c = f x := by
  rcases hc with ⟨rfl, rfl, rfl, rfl⟩ | ⟨rfl, rfl, rfl, rfl⟩ | ⟨rfl, rfl, rfl, rfl⟩
  · exact ⟨.clock 0, fun x => { s.cfg with clock.window := x },
      ⟨by decide, rfl, rfl, fun _ => rfl, fun _ _ => rfl, fun _ => rfl⟩, rfl⟩
  · exact ⟨.clock 1, fun x => { s.cfg with clock.step := x },
      ⟨by decide, rfl, rfl, fun _ => rfl, fun _ _ => rfl, fun _ => rfl⟩, rfl⟩
  · exact ⟨.clock 2, fun x => { s.cfg with clock.lock := x },
      ⟨by decide, rfl, rfl, fun _ => rfl, fun _ _ => rfl, fun _ => rfl⟩, rfl⟩

theorem plausibility_number : NumberSetting s .plausibility 0x0401 2 1 60000 (fun x => { s.cfg with plausibility := x }) :=
  ⟨by decide, rfl, rfl, fun _ => rfl, fun _ _ => rfl, fun _ => rfl⟩

theorem byte_number_setting (x : Nat) {c : Settings}
    (hc : id = 0x0104 ∧ lo = 0 ∧ hi = 12 ∧ c = { s.cfg with clock.ki := x }
      ∨ id = 0x0105 ∧ lo = 0 ∧ hi = 10 ∧ c = { s.cfg with clock.kp := x }
      ∨ id = 0x0303 + 8 * i.val ∧ lo = 0 ∧ hi = 59
        ∧ c = { s.cfg with cal.entries := s.cfg.cal.entries.set i { s.cfg.cal.entries[i] with minute := x } }
      ∨ id = 0x0304 + 8 * i.val ∧ lo = 1 ∧ hi = 15
        ∧ c = { s.cfg with cal.entries := s.cfg.cal.entries.set i { s.cfg.cal.entries[i] with crew := x } }
      ∨ id = 0x0601 + v.val ∧ lo = 0 ∧ hi = 60 ∧ c = { s.cfg with holdLen := s.cfg.holdLen.set v x }
      ∨ id = 0x0701 ∧ lo = 1 ∧ hi = 240 ∧ c = { s.cfg with overdueLen := x }
      ∨ id = 0x0702 ∧ lo = 1 ∧ hi = 60 ∧ c = { s.cfg with lapseLen := x }
      ∨ id = 0x0703 ∧ lo = 1 ∧ hi = 15 ∧ c = { s.cfg with initialCrew := x }) :
    ∃ p f, NumberSetting s p id 1 lo hi f ∧ c = f x := by
  rcases hc with ⟨rfl, rfl, rfl, rfl⟩ | ⟨rfl, rfl, rfl, rfl⟩ | ⟨hid, rfl, rfl, rfl⟩ | ⟨hid, rfl, rfl, rfl⟩
    | ⟨rfl, rfl, rfl, rfl⟩ | ⟨rfl, rfl, rfl, rfl⟩ | ⟨rfl, rfl, rfl, rfl⟩ | ⟨rfl, rfl, rfl, rfl⟩
  · exact ⟨.clock 3, fun x => { s.cfg with clock.ki := x },
      ⟨by decide, rfl, rfl, fun _ => rfl, fun _ _ => rfl, fun _ => rfl⟩, rfl⟩
  · exact ⟨.clock 4, fun x => { s.cfg with clock.kp := x },
      ⟨by decide, rfl, rfl, fun _ => rfl, fun _ _ => rfl, fun _ => rfl⟩, rfl⟩
  · exact ⟨.entry i 3,
      fun x => { s.cfg with cal.entries := s.cfg.cal.entries.set i { s.cfg.cal.entries[i] with minute := x } },
      ⟨names_entry i 3 (by rw [hid]; show _ = _ + 3; omega), rfl, rfl, fun _ => rfl, fun _ _ => rfl,
        fun x => congrArg (fun e => ScheduleEntry.field e 3) (get_set_self _ i _)⟩, rfl⟩
  · exact ⟨.entry i 4,
      fun x => { s.cfg with cal.entries := s.cfg.cal.entries.set i { s.cfg.cal.entries[i] with crew := x } },
      ⟨names_entry i 4 (by rw [hid]; show _ = _ + 4; omega), rfl, rfl, fun _ => rfl, fun _ _ => rfl,
        fun x => congrArg (fun e => ScheduleEntry.field e 4) (get_set_self _ i _)⟩, rfl⟩
  · exact ⟨.holdLen v, fun x => { s.cfg with holdLen := s.cfg.holdLen.set v x },
      ⟨names_holdLen v, rfl, rfl, fun _ => rfl, fun _ _ => rfl, fun x => congrArg (be 1) (get_set_self _ v x)⟩, rfl⟩
  · exact ⟨.overdueLen, fun x => { s.cfg with overdueLen := x },
      ⟨by decide, rfl, rfl, fun _ => rfl, fun _ _ => rfl, fun _ => rfl⟩, rfl⟩
  · exact ⟨.lapseLen, fun x => { s.cfg with lapseLen := x },
      ⟨by decide, rfl, rfl, fun _ => rfl, fun _ _ => rfl, fun _ => rfl⟩, rfl⟩
  · exact ⟨.initialCrew, fun x => { s.cfg with initialCrew := x },
      ⟨by decide, rfl, rfl, fun _ => rfl, fun _ _ => rfl, fun _ => rfl⟩, rfl⟩

/-! ### Values from sets -/

/-- A setting that carries `val` as it is stored. -/
structure ChosenSetting (s : State) (p : Param) (id : Nat) (val : List Byte) (c : Settings) : Prop where
  names : Names id p
  notLine : Param.ofLine p = false
  wide : val.length = p.width
  set : p.set val s.cfg = some (c, false)
  quiet : ∀ t u, settingTakesEffect p t u = u
  get : p.get c = val

theorem ChosenSetting.stored {p : Param} {val : List Byte} {c : Settings} (hp : ChosenSetting s p id val c)
    (hs : commissioned s) : exec (.setParam h (be 2 id ++ val ++ pad)) s
      = .next (replied h 0x13 0x00 (be 2 id ++ val) { taken s with cfg := c }) :=
  setting_chosen hs hp.names hp.notLine (List.append_assoc _ _ _) hp.wide hp.set (hp.quiet _ _) hp.get

theorem entry_field (f : Fin 6) (e : ScheduleEntry) :
    Param.get (.entry i f) { s.cfg with cal.entries := s.cfg.cal.entries.set i e } = e.field f :=
  congrArg (fun e => ScheduleEntry.field e f) (get_set_self _ i _)

theorem entry_set {f : Fin 6} {val : List Byte} {e : ScheduleEntry} {clamped : Bool}
    (hset : s.cfg.cal.entries[i].withField f val = some (e, clamped)) : Param.set (.entry i f) val s.cfg
      = some ({ s.cfg with cal.entries := s.cfg.cal.entries.set i e }, clamped) := by
  unfold Param.set
  dsimp only
  rw [hset]
  rfl

theorem chosen_setting {val : List Byte} {c : Settings}
    (hc : id = 0x0300 + 8 * i.val ∧ b.toNat ≤ 1 ∧ val = [b]
        ∧ c = { s.cfg with
            cal.entries := s.cfg.cal.entries.set i { s.cfg.cal.entries[i] with enabled := b == 1 } }
      ∨ id = 0x0301 + 8 * i.val ∧ b.toNat < 128 ∧ val = [b]
        ∧ c = { s.cfg with
            cal.entries := s.cfg.cal.entries.set i { s.cfg.cal.entries[i] with mask := BitVec.ofNat 7 b.toNat } }
      ∨ id = 0x0302 + 8 * i.val ∧ (b.toNat ≤ 23 ∨ b = 0xFF) ∧ val = [b]
        ∧ c = { s.cfg with
            cal.entries :=
              s.cfg.cal.entries.set i { s.cfg.cal.entries[i] with hour := if b = 0xFF then none else some b.toNat } }
      ∨ id = 0x0611 + v.val ∧ b.toNat < 64 ∧ val = [b]
        ∧ c = { s.cfg with totalSel := s.cfg.totalSel.set v (BitVec.ofNat 6 b.toNat) }
      ∨ id = 0x0902 ∧ n < 65536 ∧ val = be 2 n ∧ c = { s.cfg with net.mtype := BitVec.ofNat 16 n }
      ∨ id = 0x0904 ∧ n < 2 ^ 48 ∧ val = be 6 n ∧ c = { s.cfg with net.notice := BitVec.ofNat 48 n }) :
    ∃ p, ChosenSetting s p id val c := by
  rcases hc with ⟨hid, hb, rfl, rfl⟩ | ⟨hid, hb, rfl, rfl⟩ | ⟨hid, hb, rfl, rfl⟩ | ⟨rfl, hb, rfl, rfl⟩
    | ⟨rfl, hn, rfl, rfl⟩ | ⟨rfl, hn, rfl, rfl⟩
  · refine ⟨.entry i 0, names_entry i 0 hid, rfl, rfl, entry_set ?_, fun _ _ => rfl,
      (entry_field 0 _).trans (encYes_bit hb)⟩
    rw [ScheduleEntry.withField, ofBe_one, secondIsTrue_bit hb]
    rfl
  · refine ⟨.entry i 1, names_entry i 1 (by rw [hid]; show _ = _ + 1; omega), rfl, rfl, entry_set ?_, fun _ _ => rfl,
      (entry_field 1 _).trans (be_ofNat rfl hb)⟩
    rw [ScheduleEntry.withField, ofBe_one, maskOfCode_byte hb]
    rfl
  · refine ⟨.entry i 2, names_entry i 2 (by rw [hid]; show _ = _ + 2; omega), rfl, rfl, entry_set ?_, fun _ _ => rfl,
      (entry_field 2 _).trans (be_hour b)⟩
    rw [ScheduleEntry.withField, ofBe_one, hourOfCode_byte hb]
    rfl
  · refine ⟨.totalSel v, names_totalSel v, rfl, rfl, ?_, fun _ _ => rfl,
      (congrArg (fun x => be 1 (BitVec.toNat x)) (get_set_self _ v _)).trans (be_ofNat rfl hb)⟩
    unfold Param.set
    dsimp only
    rw [ofBe_one, if_pos hb]
  · refine ⟨.mtype, by decide, rfl, be_length 2 n, ?_, fun _ _ => rfl, congrArg (be 2) ?_⟩
    · unfold Param.set
      dsimp only
      rw [ofBe_be_of_lt (show n < 256 ^ 2 from hn)]
    · exact (BitVec.toNat_ofNat n 16).trans (Nat.mod_eq_of_lt hn)
  · refine ⟨.noticeDst, by decide, rfl, be_length 6 n, ?_, fun _ _ => rfl, congrArg (be 6) ?_⟩
    · unfold Param.set
      dsimp only
      rw [ofBe_be_of_lt (six_bytes hn)]
    · exact (BitVec.toNat_ofNat n 48).trans (Nat.mod_eq_of_lt hn)

/-- A whole schedule entry. -/
theorem setParam_entry {en mask hour minute crew : Byte} (hs : commissioned s) (hid : id = 0x0305 + 8 * i.val)
    (hen : en.toNat ≤ 1) (hmask : mask.toNat < 128) (hhour : hour.toNat ≤ 23 ∨ hour = 0xFF) :
    exec (.setParam h (be 2 id ++ [en, mask, hour, minute, crew] ++ pad)) s
      = .next (replied h 0x13 (if 59 < minute.toNat ∨ crew = 0 ∨ 15 < crew.toNat then 0x01 else 0x00)
          (be 2 id ++ [en, mask, hour] ++ be 1 (min 59 minute.toNat) ++ be 1 (max 1 (min 15 crew.toNat)))
          { taken s with cfg.cal.entries := s.cfg.cal.entries.set i (entryCarried en mask hour minute crew) }) := by
  have hset := entry_set (s := s) (i := i) (f := 5) (wholeEntry_carried minute crew hen hmask hhour)
  have hex := setting_stored (id := id) (h := h) (pad := pad) hs
    (names_entry i 5 (by rw [hid]; show _ = _ + 5; omega)) rfl (List.append_assoc _ _ _) rfl hset rfl
    ((entry_field 5 _).trans (entryCarried_field hour minute crew hen hmask))
  have hclamped : ((held 0 59 minute.toNat).2 || (held 1 15 crew.toNat).2) = true
      ↔ 59 < minute.toNat ∨ crew = 0 ∨ 15 < crew.toNat := by
    have hzero : crew = 0 ↔ crew.toNat < 1 := by bv_omega
    simp only [held, Bool.or_eq_true, decide_eq_true_eq, hzero, Nat.not_lt_zero, false_or]
  simp only [hclamped] at hex
  rw [← List.append_assoc (be 2 id) ([en, mask, hour] ++ _), ← List.append_assoc (be 2 id)] at hex
  exact hex

theorem setParam_entry_refused {en mask hour minute crew : Byte} (hs : commissioned s)
    (hid : id = 0x0305 + 8 * i.val) (hbad : 1 < en.toNat ∨ 127 < mask.toNat ∨ 23 < hour.toNat ∧ hour.toNat < 255) :
    exec (.setParam h (be 2 id ++ [en, mask, hour, minute, crew] ++ pad)) s
      = .next (replied h 0x13 0x11 [] (refusedOnce (taken s))) := by
  refine setting_refused hs (names_entry i 5 (by rw [hid]; show _ = _ + 5; omega)) rfl (List.append_assoc _ _ _) rfl ?_
  unfold Param.set
  dsimp only
  rw [ScheduleEntry.withField, wholeEntry_none hbad]
  rfl

theorem setParam_value_refused (hs : commissioned s)
    (hbad : id = 0x0202 ∧ 1 < b.toNat ∨ id = 0x0300 + 8 * i.val ∧ 1 < b.toNat ∨ id = 0x0301 + 8 * i.val ∧ 127 < b.toNat
      ∨ id = 0x0302 + 8 * i.val ∧ 23 < b.toNat ∧ b.toNat < 255 ∨ id = 0x0611 + v.val ∧ 63 < b.toNat) :
    exec (.setParam h (be 2 id ++ b :: pad)) s = .next (replied h 0x13 0x11 [] (refusedOnce (taken s))) := by
  rcases hbad with ⟨rfl, hb⟩ | ⟨hid, hb⟩ | ⟨hid, hb⟩ | ⟨hid, hlo, hhi⟩ | ⟨rfl, hb⟩
  · refine byte_refused (p := .enabled) hs (by decide) rfl rfl ?_
    rw [Param.set, ofBe_one, secondIsTrue_none hb]
    rfl
  · refine byte_refused (p := .entry i 0) hs (names_entry i 0 hid) rfl rfl ?_
    rw [Param.set, ScheduleEntry.withField, ofBe_one, secondIsTrue_none hb]
    rfl
  · refine byte_refused (p := .entry i 1) hs (names_entry i 1 (by rw [hid]; show _ = _ + 1; omega)) rfl rfl ?_
    rw [Param.set, ScheduleEntry.withField, ofBe_one, maskOfCode_none hb]
    rfl
  · refine byte_refused (p := .entry i 2) hs (names_entry i 2 (by rw [hid]; show _ = _ + 2; omega)) rfl rfl ?_
    rw [Param.set, ScheduleEntry.withField, ofBe_one, hourOfCode_none hlo hhi]
    rfl
  · refine byte_refused (p := .totalSel v) hs (names_totalSel v) rfl rfl ?_
    rw [Param.set, ofBe_one, if_neg (by omega)]

end

end Sys2Proof.Proofs
end

section
/-! OBLIGATIONS. SET_PARAM (R15, R22, R32, R33, R38, R104, R139, R165, R169, R170, R179, R208). -/

namespace Sys2Proof.Proofs

open Sys2Proof Sys2Proof.Machine Sys2Proof.Safety

/-! ### The seasonal settings -/

/-- A seasonal setting, with the calendar settings `f` stores. -/
structure SeasonalSetting (s : State) (p : Param) (id lo hi : Nat) (f : Nat → CalCfg) : Prop where
  names : Names id p
  notLine : Param.ofLine p = false
  wide : p.width = 1
  set : ∀ b, p.set b s.cfg
    = some ({ s.cfg with cal := f (held lo hi (ofBe b)).1 }, (held lo hi (ofBe b)).2)
  effect : ∀ t u, settingTakesEffect p t u = calendarEvent true u
  get : ∀ x, p.get { s.cfg with cal := f x } = be 1 x

section
variable {s : State} {h : ReqHead} {pad : List Byte} {id n lo hi : Nat} {b : Byte}

/-- What a seasonal setting does: stored, and taken up by the calendar at once (R32). -/
theorem seasonal_done {c : CalCfg} {x : Nat}
    (hex : exec (.setParam h (be 2 id ++ b :: pad)) s
      = .next (replied h 0x13 (if b.toNat < lo ∨ hi < b.toNat then 0x01 else 0x00) (be 2 id ++ be 1 x)
          (calendarEvent true { taken s with cfg := { s.cfg with cal := c } }))) :
    ∃ u, exec (.setParam h (be 2 id ++ b :: pad)) s
        = .next (replied h 0x13 (if b.toNat < lo ∨ hi < b.toNat then 0x01 else 0x00) (be 2 id ++ be 1 x) u)
      ∧ u.cfg = { s.cfg with cal := c }
      ∧ u.cal.flag = inForce c s.clock.sec ∧ u.cal.fields = localTime c s.clock.sec
      ∧ Only [.cfg, .cal, .nCal, .shift, .nShift, .portS, .resp, .nPortS, .nResp] (taken s) u :=
  ⟨_, hex, seasonal_taken (s := s) { s.cfg with cal := c }⟩

theorem SeasonalSetting.done {p : Param} {f : Nat → CalCfg} {x : Nat} {c : CalCfg}
    (hp : SeasonalSetting s p id lo hi f) (hs : commissioned s) (hx : x = max lo (min hi b.toNat)) (hc : c = f x) :
    ∃ u, exec (.setParam h (be 2 id ++ b :: pad)) s
        = .next (replied h 0x13 (if b.toNat < lo ∨ hi < b.toNat then 0x01 else 0x00) (be 2 id ++ be 1 x) u)
      ∧ u.cfg = { s.cfg with cal := c }
      ∧ u.cal.flag = inForce c s.clock.sec ∧ u.cal.fields = localTime c s.clock.sec
      ∧ Only [.cfg, .cal, .nCal, .shift, .nShift, .portS, .resp, .nPortS, .nResp] (taken s) u := by
  subst hc hx
  refine seasonal_done (byte_number (f := fun x => { s.cfg with cal := f x }) hs hp.names hp.notLine hp.wide hp.set
    (hp.effect _ _) ?_)
  have hcfg := (seasonal_taken (s := s) { s.cfg with cal := f (max lo (min hi b.toNat)) }).1
  exact (congrArg p.get hcfg).trans (hp.get _)

/-- The rows of the seasonal settings that carry a number. -/
theorem seasonal_setting {x : Nat} {c : CalCfg}
    (hc : id = 0x0203 ∧ lo = 0 ∧ hi = 8 ∧ c = { s.cfg.cal with amount := x }
      ∨ id = 0x0204 ∧ lo = 1 ∧ hi = 12 ∧ c = { s.cfg.cal with start.month := x }
      ∨ id = 0x0205 ∧ lo = 1 ∧ hi = 5 ∧ c = { s.cfg.cal with start.week := x }
      ∨ id = 0x0206 ∧ lo = 1 ∧ hi = 7 ∧ c = { s.cfg.cal with start.weekday := x }
      ∨ id = 0x0207 ∧ lo = 0 ∧ hi = 23 ∧ c = { s.cfg.cal with start.hour := x }
      ∨ id = 0x0208 ∧ lo = 1 ∧ hi = 12 ∧ c = { s.cfg.cal with stop.month := x }
      ∨ id = 0x0209 ∧ lo = 1 ∧ hi = 5 ∧ c = { s.cfg.cal with stop.week := x }
      ∨ id = 0x020A ∧ lo = 1 ∧ hi = 7 ∧ c = { s.cfg.cal with stop.weekday := x }
      ∨ id = 0x020B ∧ lo = 0 ∧ hi = 23 ∧ c = { s.cfg.cal with stop.hour := x }) :
    ∃ p f, SeasonalSetting s p id lo hi f ∧ c = f x := by
  rcases hc with ⟨rfl, rfl, rfl, rfl⟩ | ⟨rfl, rfl, rfl, rfl⟩ | ⟨rfl, rfl, rfl, rfl⟩ | ⟨rfl, rfl, rfl, rfl⟩
    | ⟨rfl, rfl, rfl, rfl⟩ | ⟨rfl, rfl, rfl, rfl⟩ | ⟨rfl, rfl, rfl, rfl⟩ | ⟨rfl, rfl, rfl, rfl⟩
    | ⟨rfl, rfl, rfl, rfl⟩
  · exact ⟨.amount, fun x => { s.cfg.cal with amount := x },
      ⟨by decide, rfl, rfl, fun _ => rfl, fun _ _ => rfl, fun _ => rfl⟩, rfl⟩
  · exact ⟨.start 0, fun x => { s.cfg.cal with start.month := x },
      ⟨by decide, rfl, rfl, fun _ => rfl, fun _ _ => rfl, fun _ => rfl⟩, rfl⟩
  · exact ⟨.start 1, fun x => { s.cfg.cal with start.week := x },
      ⟨by decide, rfl, rfl, fun _ => rfl, fun _ _ => rfl, fun _ => rfl⟩, rfl⟩
  · exact ⟨.start 2, fun x => { s.cfg.cal with start.weekday := x },
      ⟨by decide, rfl, rfl, fun _ => rfl, fun _ _ => rfl, fun _ => rfl⟩, rfl⟩
  · exact ⟨.start 3, fun x => { s.cfg.cal with start.hour := x },
      ⟨by decide, rfl, rfl, fun _ => rfl, fun _ _ => rfl, fun _ => rfl⟩, rfl⟩
  · exact ⟨.stop 0, fun x => { s.cfg.cal with stop.month := x },
      ⟨by decide, rfl, rfl, fun _ => rfl, fun _ _ => rfl, fun _ => rfl⟩, rfl⟩
  · exact ⟨.stop 1, fun x => { s.cfg.cal with stop.week := x },
      ⟨by decide, rfl, rfl, fun _ => rfl, fun _ _ => rfl, fun _ => rfl⟩, rfl⟩
  · exact ⟨.stop 2, fun x => { s.cfg.cal with stop.weekday := x },
      ⟨by decide, rfl, rfl, fun _ => rfl, fun _ _ => rfl, fun _ => rfl⟩, rfl⟩
  · exact ⟨.stop 3, fun x => { s.cfg.cal with stop.hour := x },
      ⟨by decide, rfl, rfl, fun _ => rfl, fun _ _ => rfl, fun _ => rfl⟩, rfl⟩

theorem names_enabled : Names 0x0202 .enabled := by decide

/-- The seasonal rule switched on or off. -/
theorem setParam_enabled (hs : commissioned s) (hb : b.toNat ≤ 1) :
    exec (.setParam h (be 2 0x0202 ++ b :: pad)) s
      = .next (replied h 0x13 (if b.toNat < 0 ∨ 1 < b.toNat then 0x01 else 0x00)
          (be 2 0x0202 ++ be 1 (max 0 (min 1 b.toNat)))
          (calendarEvent true { taken s with cfg := { s.cfg with cal.enabled := b == 1 } })) := by
  have hval : Param.set .enabled [b] s.cfg = some ({ s.cfg with cal.enabled := b == 1 }, false) := by
    rw [Param.set, ofBe_one, secondIsTrue_bit hb]
    rfl
  have hcfg := (seasonal_taken (s := s) { s.cfg with cal.enabled := b == 1 }).1
  have hget : Param.get .enabled { s.cfg with cal.enabled := b == 1 } = be 1 (max 0 (min 1 b.toNat)) := by
    rw [show max 0 (min 1 b.toNat) = b.toNat by omega, be_one]
    exact encYes_bit hb
  have hex := setting_taken (val := [b]) (pad := pad) (h := h) hs names_enabled rfl rfl rfl hval rfl
    ((congrArg (Param.get .enabled) hcfg).trans hget)
  rw [if_neg Bool.false_ne_true] at hex
  rw [if_neg (by omega)]
  exact hex

/-! ### The warning lead (R38) -/

theorem names_lead : Names 0x020C .lead := by decide

theorem leadChanged_eq (s : State) (hlead : s.cfg.cal.lead = min b.toNat 120) : leadChanged s = { s with
    cal.lastWarn := if b = 0 then none else if s.clock.state = .unset then s.cal.lastWarn
      else some (presentMinute s + (min b.toNat 120 : Nat)) } := by
  unfold leadChanged
  by_cases hb : b = 0
  · rw [if_pos hb, if_pos (by rw [hlead, hb]; rfl)]
  · have hne : ¬s.cfg.cal.lead = 0 := by
      rw [hlead]
      bv_omega
    rw [if_neg hb, if_neg hne]
    by_cases hu : s.clock.state = .unset
    · rw [if_pos hu, if_pos hu]
    · rw [if_neg hu, if_neg hu, hlead]

theorem setParam_lead (hs : commissioned s) : exec (.setParam h (be 2 0x020C ++ b :: pad)) s
    = .next (replied h 0x13 (if 120 < b.toNat then 0x01 else 0x00) (be 2 0x020C ++ be 1 (min b.toNat 120))
        { taken s with
          cfg.cal.lead := min b.toNat 120
          cal.lastWarn := if b = 0 then none else if s.clock.state = .unset then s.cal.lastWarn
            else some (minuteIndex s.cfg.cal s.clock.sec + (min b.toNat 120 : Nat)) }) := by
  have hval : Param.set .lead [b] s.cfg
      = some ({ s.cfg with cal.lead := min b.toNat 120 }, (held 0 120 b.toNat).2) := by
    have hclamp : (held 0 120 b.toNat).1 = min b.toNat 120 := by
      simp only [held, clampNat]
      omega
    rw [Param.set, ofBe_one, hclamp]
  have hlead := leadChanged_eq (b := b) { taken s with cfg := { s.cfg with cal.lead := min b.toNat 120 } } rfl
  have hex := setting_taken (val := [b]) (pad := pad) (h := h) hs names_lead rfl rfl rfl hval hlead rfl
  rw [heldClamped] at hex
  simp only [Nat.not_lt_zero, false_or] at hex
  exact hex

/-! ### The holdover limit (R15) -/

theorem names_holdLimit : Names 0x0106 (.clock 5) := by decide

theorem setParam_holdLimit (hs : commissioned s) (hn : n < 2 ^ 32) : exec (.setParam h (be 2 0x0106 ++ be 4 n ++ pad)) s
    = .next (replied h 0x13 (if n < 60 ∨ 86400 < n then 0x01 else 0x00)
        (be 2 0x0106 ++ be 4 (max 60 (min 86400 n))) (limitSet s (max 60 (min 86400 n)))) := by
  refine number_taken (f := fun x => { s.cfg with clock.holdLimit := x }) hs names_holdLimit rfl rfl
    (show n < 256 ^ 4 from hn) (List.append_assoc _ _ _) (fun _ => rfl) rfl ?_
  exact (congrArg (Param.get (.clock 5)) (limitSet_clock s _).1).trans rfl

end

/-- Settles O50: family by family of the catalogue. -/
theorem setParam : Obligations.SetParam := by
  intro s h g i v id n b pad hs
  refine ⟨fun hid => setParam_unknown hs (by revert id; decide), setParam_short hs (names_window g) Nat.one_pos,
    setParam_window g hs, setParam_station_refused hs, setParam_station hs, setParam_mgmtU hs,
    setParam_mgmtU_refused hs, ?_, fun width x y ch hn hy hset => ?_, fun _ => setParam_lineValue hs,
    fun width lo hi x c hn hx hc => ?_, fun val c hc => ?_,
    fun en mask hour minute crew hid => ⟨setParam_entry hs hid, setParam_entry_refused hs hid⟩,
    setParam_value_refused hs, fun lo hi x c hx hc => ?_, setParam_lead hs, fun t0 hn => ?_⟩
  · obtain ⟨hcfg, hflag, hfields, honly⟩ :=
      seasonal_taken (s := s) { s.cfg with cal.offset := clampInt (-56) 56 b.toInt }
    exact ⟨_, setParam_offset hs, hcfg, by rw [hcfg]; exact hflag, by rw [hcfg]; exact hfields, honly⟩
  · obtain ⟨f, hline⟩ := lineSetting_exists (d := projectedCfg i s) hy hset
    refine ⟨lineSetting_behind hs hline hn, fun hp hlen => lineSetting_busy hs hline hn ⟨hp, hlen⟩,
      fun c l tally realigned hp hpend hc htally hre hl hq => ?_⟩
    subst htally hre
    exact lineSetting_between hs hline hn hp hpend hc hl hq
  · rcases hc with ⟨rfl, hc⟩ | ⟨rfl, rfl, rfl, rfl, hc⟩ | ⟨rfl, hc⟩
    · obtain ⟨p, f, hp, hf⟩ := wide_number x hc
      exact hp.stored hs hn hx hf
    · exact plausibility_number.stored hs hn hx hc
    · obtain ⟨p, f, hp, hf⟩ := byte_number_setting x hc
      exact hp.stored hs hn hx hf
  · obtain ⟨p, hp⟩ := chosen_setting hc
    exact hp.stored hs
  · rcases hc with ⟨rfl, hb, rfl, rfl, rfl⟩ | hc
    · subst hx
      exact seasonal_done (setParam_enabled hs hb)
    · obtain ⟨p, f, hp, hf⟩ := seasonal_setting hc
      exact hp.done hs hx hf
  · have hlive : live s = true := hs.1.1
    obtain ⟨hcfg, hclock, hcnt⟩ := limitSet_clock s (max 60 (min 86400 n))
    refine ⟨_, setParam_holdLimit hs hn, hcfg, fun hst hm => ?_, limitSet_other, hclock, limitSet_only s _⟩
    obtain ⟨hclass, hnotice⟩ := limitSet_holdover (limit := max 60 (min 86400 n)) hlive hst hm
    refine ⟨hclass, hcnt.trans ?_, fun hor => hnotice (fun hboth => ?_)⟩
    · simp only [holdoverLimitDue_iff hlive hst hm]
    · rcases hor with htaken | hless
      · exact absurd (htaken.symm.trans hboth.1) (by decide)
      · omega

end Sys2Proof.Proofs
end

section
/-! SUPPORT. A trip report judged, room made for its record, and the record placed (R87 to R99). -/

namespace Sys2Proof.Proofs

open Sys2Proof Sys2Proof.Machine Sys2Proof.Safety

/-! ### The judgement (R87, R89) -/

/-- A source restart by its slot: the number lies behind the slot's (R87). -/
def goesBack (slot : SourceSlot) (no : BitVec 16) : Bool := slot.used && 32768 ≤ (no - slot.lastNo).toNat

/-- The state number is still in the list for its source (R89). -/
def numberListed (r : TripReport) (s : State) : Bool :=
  s.recorder.list.any (fun y => y.source == r.source && y.stateNo == r.stateNo)

/-- The restart flag of a new record. -/
def restarts (r : TripReport) (s : State) : Bool :=
  goesBack s.recorder.slots[r.source] r.stateNo || numberListed r s

/-- The epoch of a new record. -/
def nextEpoch (r : TripReport) (s : State) : BitVec 8 :=
  s.recorder.slots[r.source].epoch + (if restarts r s then 1 else 0)

/-- A report that makes a record: from an unused slot, ahead of its slot, or a restart. -/
def makesRecord (slot : SourceSlot) (no : BitVec 16) : Prop :=
  slot.used = false ∨ 1 ≤ (no - slot.lastNo).toNat ∧ (no - slot.lastNo).toNat ≤ 32767
    ∨ 32768 ≤ (no - slot.lastNo).toNat ∧ no.toNat ≤ 1

theorem judge_record {slot : SourceSlot} {no : BitVec 16} (h : makesRecord slot no) :
    judge slot no = if goesBack slot no then .restarted else .fresh := by
  unfold judge goesBack
  cases hu : slot.used with
  | false => rfl
  | true =>
    have hor : 1 ≤ (no - slot.lastNo).toNat ∧ (no - slot.lastNo).toNat ≤ 32767
        ∨ 32768 ≤ (no - slot.lastNo).toNat ∧ no.toNat ≤ 1 :=
      h.resolve_left (fun hf => absurd (hu.symm.trans hf) (by decide))
    simp only [Bool.not_true, Bool.false_eq_true, if_false, Bool.true_and, decide_eq_true_eq]
    rcases hor with ⟨hlo, hhi⟩ | ⟨hback, hno⟩
    · rw [if_neg (by omega), if_pos hhi, if_neg (by omega)]
    · rw [if_neg (by omega), if_neg (by omega), if_pos hno, if_pos hback]

/-- The state once the report is judged: restarts and fallbacks counted. -/
def judgedState (j : Judgement) (r : TripReport) (s : State) : State :=
  if (recordStamp s.cfg.plausibility r).2 = .fallback then
    (restartOf j r s).2.countRec (fun c => { c with fallback := c.fallback + 1 })
  else (restartOf j r s).2

/-- The record placed at the tail, its slot updated (R90, R94). -/
def placed (r : TripReport) (epoch : BitVec 8) (x : TripRecord) (s : State) : State :=
  ({ s with recorder.list := s.recorder.list ++ [x], recorder.nextSeq := seqNext s.recorder.nextSeq }.withSlot r.source
    (s.recorder.slots[r.source].taken r.stateNo epoch (some x.seq))).countRec
    (fun c => { c with records := c.records + 1 })

/-- The record a report makes. -/
def recordOf (r : TripReport) (s : State) : TripRecord :=
  newRecord r (restarts r s) (nextEpoch r s) (recordStamp s.cfg.plausibility r) s

theorem restartOf_eq (r : TripReport) (s : State) (b : Bool) :
    (restartOf (if b then .restarted else .fresh) r s).1 = (b || numberListed r s)
      ∧ Only [.nRecorder] s (restartOf (if b then .restarted else .fresh) r s).2
      ∧ (restartOf (if b then .restarted else .fresh) r s).2.cnt.recorder = { s.cnt.recorder with
          restart := s.cnt.recorder.restart + (if b then 1 else 0)
          wrap := s.cnt.recorder.wrap + (if numberListed r s && !b then 1 else 0) } := by
  refine ⟨?_, only_restartOf _ r s, ?_⟩
  · cases b with
    | true => rfl
    | false =>
      unfold restartOf numberListed
      rw [if_neg (by decide), Bool.false_or]
      split
      next h => exact h.symm
      next h => exact (Bool.not_eq_true _ ▸ h).symm
  · unfold restartOf numberListed
    cases b with
    | true => simp
    | false =>
      by_cases h : (s.recorder.list.any fun x => x.source == r.source && x.stateNo == r.stateNo) = true
      · simp [h]
      · simp [h]

/-- What the judgement counts, and that it changes nothing else. -/
structure Judged (r : TripReport) (s t : State) : Prop where
  only : Only [.nRecorder] s t
  cnt : t.cnt.recorder = { s.cnt.recorder with
    restart := s.cnt.recorder.restart + (if goesBack s.recorder.slots[r.source] r.stateNo then 1 else 0)
    wrap := s.cnt.recorder.wrap
      + (if numberListed r s && !goesBack s.recorder.slots[r.source] r.stateNo then 1 else 0)
    fallback := t.cnt.recorder.fallback }

/-- A report that makes a record, taken step by step (R85). -/
theorem tripReport_record {r : TripReport} {s : State} (h : makesRecord s.recorder.slots[r.source] r.stateNo) :
    ∃ s2, Judged r s s2 ∧ tripReport r s = match makeRoom s2 with
      | none => loseReport r (nextEpoch r s) s2
      | some s3 => handOn r (newRecord r (restarts r s) (nextEpoch r s) (recordStamp s.cfg.plausibility r) s3)
          (placed r (nextEpoch r s) (newRecord r (restarts r s) (nextEpoch r s) (recordStamp s.cfg.plausibility r) s3)
            s3) := by
  have hj := judge_record h
  generalize hb : goesBack s.recorder.slots[r.source] r.stateNo = b at hj
  obtain ⟨hflag, honly, hcnt⟩ := restartOf_eq r s b
  have hcfg := honly.cfg (by decide)
  have hrec := honly.recorder (by decide)
  refine ⟨judgedState (if b then .restarted else .fresh) r s, ⟨?_, ?_⟩, ?_⟩
  · unfold judgedState
    split
    · exact honly.trans (only_countRec _ _)
    · exact honly
  · unfold judgedState
    split
    · rw [countRec_cnt, hcnt, hb]
    · rw [hcnt, hb]
  · have hrest : restarts r s = (restartOf (if b then .restarted else .fresh) r s).1 := by rw [hflag, ← hb]; rfl
    have hreport : tripReport r s = recordReport (if b then .restarted else .fresh) r s := by
      unfold tripReport
      rw [hj]
      cases b <;> rfl
    rw [hreport, nextEpoch, hrest]
    unfold recordReport judgedState
    generalize restartOf (if b then .restarted else .fresh) r s = p at *
    obtain ⟨flag, s1⟩ := p
    dsimp only at hcfg hrec ⊢
    rw [hcfg, hrec]
    have hepoch (e : BitVec 8) : (if flag = true then e + 1 else e) = e + (if flag = true then 1 else 0) := by
      cases flag
      · exact (BitVec.add_zero e).symm
      · rfl
    rw [hepoch]
    generalize (if (recordStamp s.cfg.plausibility r).2 = TripOrigin.fallback then
      s1.countRec (fun c => { c with fallback := c.fallback + 1 }) else s1) = s2
    cases makeRoom s2 <;> rfl

/-! ### Room in the list (R97, R98) -/

/-- What making room leaves as it was. -/
structure Roomed (s t : State) : Prop where
  only : Only [.recorder, .nRecorder] s t
  nextSeq : t.recorder.nextSeq = s.recorder.nextSeq
  slot : ∀ k : Fin 64, ∃ q, t.recorder.slots[k] = { s.recorder.slots[k] with latest := q }
  cnt : ∃ n, t.cnt.recorder = { s.cnt.recorder with overwrite := n }
  found : ∀ (g : Fin 16) (q : BitVec 32), s.ann[g].ref = some q →
    findRecord q t.recorder.list = findRecord q s.recorder.list

theorem Roomed.refl (s : State) : Roomed s s :=
  ⟨Only.refl _ s, rfl, fun _ => ⟨_, rfl⟩, ⟨_, rfl⟩, fun _ _ _ => rfl⟩

theorem removeRecord_slot (r : TripRecord) (s : State) (k : Fin 64) : (removeRecord r s).recorder.slots[k]
    = if k = r.source ∧ s.recorder.slots[r.source].latest = some r.seq then
        { s.recorder.slots[k] with latest := none }
      else s.recorder.slots[k] := by
  unfold removeRecord
  dsimp only
  by_cases hl : s.recorder.slots[r.source].latest = some r.seq
  · rw [if_pos hl]
    show (s.recorder.slots.set r.source _)[k] = _
    rw [getElem_set_fin]
    by_cases hk : k = r.source
    · rw [if_pos hk, if_pos ⟨hk, hl⟩, hk]
    · rw [if_neg hk, if_neg (fun h => hk h.1)]
  · rw [if_neg hl, if_neg (fun h => hl h.2)]
    rfl

theorem removeRecord_cnt (r : TripRecord) (s : State) : (removeRecord r s).cnt.recorder
    = { s.cnt.recorder with overwrite := s.cnt.recorder.overwrite + 1 } := by
  unfold removeRecord
  dsimp only
  split <;> rfl

theorem roomed_removeRecord {r : TripRecord} {s : State} (h : mayGiveWay s r = true) : Roomed s (removeRecord r s) := by
  obtain ⟨-, -, hfree⟩ := (mayGiveWay_iff s r).mp h
  refine ⟨only_removeRecord r s, removeRecord_nextSeq r s, fun k => ?_, ⟨_, removeRecord_cnt r s⟩, fun g q hq => ?_⟩
  · rw [removeRecord_slot]
    split
    · exact ⟨_, rfl⟩
    · exact ⟨_, rfl⟩
  · rw [removeRecord_list]
    exact findRecord_erase (fun e => hfree g (hq.trans (congrArg some e.symm))) _

theorem roomed_makeRoom {s t : State} (h : makeRoom s = some t) : Roomed s t := by
  obtain ⟨-, rfl⟩ | ⟨-, x, hx, rfl⟩ := makeRoom_cases h
  · exact Roomed.refl _
  · exact roomed_removeRecord (List.find?_some hx)

theorem makeRoom_room {s : State} (h : s.recorder.list.length < 512) : makeRoom s = some s := if_pos h

theorem makeRoom_full {s : State} (h : ¬s.recorder.list.length < 512) :
    makeRoom s = (s.recorder.list.find? (mayGiveWay s)).map (fun r => removeRecord r s) := if_neg h

theorem makeRoom_none {s : State} (hfull : 512 ≤ s.recorder.list.length)
    (h : ∀ y ∈ s.recorder.list, mayGiveWay s y = false) : makeRoom s = none := by
  have hnone : s.recorder.list.find? (mayGiveWay s) = none :=
    List.find?_eq_none.mpr (fun y hy => Bool.not_eq_true _ ▸ h y hy)
  rw [makeRoom_full (Nat.not_lt.mpr hfull), hnone]
  rfl

/-- The first record from the head that may give way does. -/
theorem makeRoom_first {s : State} {before after : List TripRecord} {x : TripRecord}
    (hfull : 512 ≤ s.recorder.list.length) (hlist : s.recorder.list = before ++ x :: after)
    (hx : mayGiveWay s x = true) (hbefore : ∀ y ∈ before, mayGiveWay s y = false) :
    makeRoom s = some (removeRecord x s) ∧ (removeRecord x s).recorder.list = before ++ after := by
  have hnone : before.find? (mayGiveWay s) = none :=
    List.find?_eq_none.mpr (fun y hy => Bool.not_eq_true _ ▸ hbefore y hy)
  have hfind : s.recorder.list.find? (mayGiveWay s) = some x := by
    rw [hlist, List.find?_append, hnone, List.find?_cons_of_pos hx]
    rfl
  have hnotin : x ∉ before := fun hin => absurd ((hbefore x hin).symm.trans hx) (by decide)
  refine ⟨?_, ?_⟩
  · rw [makeRoom_full (Nat.not_lt.mpr hfull), hfind]
    rfl
  · rw [removeRecord_list, hlist, List.erase_append_right _ hnotin, List.erase_cons_head]

/-- Where a record may give way, room is made. -/
theorem makeRoom_some {s : State} {x : TripRecord}
    (h : s.recorder.list.length < 512 ∨ x ∈ s.recorder.list ∧ mayGiveWay s x = true) : ∃ t, makeRoom s = some t := by
  by_cases hroom : s.recorder.list.length < 512
  · exact ⟨s, makeRoom_room hroom⟩
  · obtain ⟨hin, hx⟩ := h.resolve_left hroom
    have hfind : (s.recorder.list.find? (mayGiveWay s)).isSome = true := by
      rw [List.find?_isSome]
      exact ⟨x, hin, hx⟩
    obtain ⟨y, hy⟩ := Option.isSome_iff_exists.mp hfind
    exact ⟨removeRecord y s, by rw [makeRoom_full hroom, hy]; rfl⟩

end Sys2Proof.Proofs
end

section
/-! SUPPORT. A TRIP record taken by its group (R107 to R112). -/

namespace Sys2Proof.Proofs

open Sys2Proof Sys2Proof.Machine Sys2Proof.Safety

/-! ### The record at the tail of the list -/

/-- A change to the records of one number changes a record of that number at the tail. -/
theorem updRecord_tail {f : TripRecord → TripRecord} {x : TripRecord} {q : BitVec 32} (h : x.seq = q)
    (l : List TripRecord) : updRecord q f (l ++ [x]) = updRecord q f l ++ [f x] := by
  rw [updRecord, List.map_append, List.map_singleton, if_pos h]
  rfl

/-- The list `k` holds the records of `l`, flags aside, and then `y`. -/
def Tail (l : List TripRecord) (y : TripRecord) (k : List TripRecord) : Prop :=
  ∃ l', k = l' ++ [y] ∧ l'.map TripRecord.seq = l.map TripRecord.seq

theorem Tail.upd {l k : List TripRecord} {y : TripRecord} {f : TripRecord → TripRecord} (h : Tail l y k)
    (hf : KeepsRecord f) : Tail l (f y) (updRecord y.seq f k) := by
  obtain ⟨l', rfl, hl⟩ := h
  exact ⟨updRecord y.seq f l', updRecord_tail rfl l', (updRecord_seqs hf.seq _ _).trans hl⟩

theorem Tail.last {l k : List TripRecord} {y : TripRecord} (h : Tail l y k) : k.getLast? = some y := by
  obtain ⟨l', rfl, -⟩ := h
  exact List.getLast?_concat

theorem Tail.seqs {l k : List TripRecord} {y : TripRecord} (h : Tail l y k) :
    k.map TripRecord.seq = l.map TripRecord.seq ++ [y.seq] := by
  obtain ⟨l', rfl, hl⟩ := h
  rw [List.map_append, hl]
  rfl

/-! ### The decision of a group (R111) -/

theorem complete_tally (ev : HandoverEvent) (closing : Stamp) (crew : Nat) (incoming : Option (BitVec 16))
    (rep : Option HeldAccept) (s : State) : (complete ev closing crew incoming rep s).tally = (creditAll s).tally := by
  unfold complete
  dsimp only
  rw [countShift_tally, (only_notice _ _ _).tally (by decide), (only_requestAllCheckpoints _ _).tally (by decide)]

theorem completeAccept_tally (a : HeldAccept) (s : State) : (completeAccept a s).tally = (creditAll s).tally :=
  complete_tally _ _ _ _ _ s

/-- A decision adds its group, and may complete a held accept. -/
theorem shiftDecision_cases (g : Fin 16) (s : State) :
    shiftDecision g s = groupAdded g s ∨ ∃ a, shiftDecision g s = completeAccept a (groupAdded g s) := by
  by_cases hst : s.shift.state = .acceptHeld
  · cases ha : s.shift.accept with
    | none =>
      refine .inl ?_
      unfold shiftDecision
      dsimp only
      split
      next a hst' ha' => exact absurd (ha.symm.trans ha') (by simp)
      next => rfl
    | some a =>
      cases hs : anySettling s with
      | true => exact .inl (shiftDecision_settling hs)
      | false => exact .inr ⟨a, shiftDecision_completes hst ha hs⟩
  · exact .inl (shiftDecision_quiet hst)

/-- What a decision leaves of a unit: its record, credited where a held accept completes. -/
theorem shiftDecision_unit (g : Fin 16) (u : Fin 6) (s : State) :
    (shiftDecision g s).tally[u] = s.tally[u] ∨ (shiftDecision g s).tally[u] = s.tally[u].credit s.clock.m := by
  have hadded : (groupAdded g s).tally = s.tally := rfl
  have hclock : (groupAdded g s).clock = s.clock := rfl
  have hcompletes (a : HeldAccept) :
      (completeAccept a (groupAdded g s)).tally[u] = s.tally[u].credit s.clock.m := by
    rw [completeAccept_tally, creditAll_unit, hadded, hclock]
  rcases shiftDecision_cases g s with h | ⟨a, h⟩ <;> rw [h]
  · exact .inl (by rw [hadded])
  · exact .inr (hcompletes a)

/-- A unit's record but for its run times and the start of its interval. -/
structure SameDuty (a b : UnitRec) : Prop where
  mode : b.mode = a.mode
  test : b.test = a.test
  trips : b.trips = a.trips
  stops : b.stops = a.stops
  hold : b.hold = a.hold

theorem SameDuty.refl (a : UnitRec) : SameDuty a a := ⟨rfl, rfl, rfl, rfl, rfl⟩

theorem shiftDecision_duty (g : Fin 16) (u : Fin 6) (s : State) :
    SameDuty s.tally[u] (shiftDecision g s).tally[u] := by
  rcases shiftDecision_unit g u s with h | h
  · rw [h]
    exact SameDuty.refl _
  · rw [h]
    exact ⟨credit_mode _ _, credit_test _ _, credit_trips _ _, credit_stops _ _, credit_hold _ _⟩

/-! ### The group -/

/-- A record at the tail taken by its group: the group then, the unit's counters, and the record's flags. -/
structure GroupTook (g : Fin 16) (l : List TripRecord) (y : TripRecord) (s t : State) (x : Group) (cnt : AnnCnt) : Prop
    where
  only : Only groupParts s t
  ann : t.ann = s.ann.set g x
  nAnn : t.cnt.ann = cnt
  list : Tail l y t.recorder.list
  nextSeq : t.recorder.nextSeq = s.recorder.nextSeq
  duty : ∀ u : Fin 6, SameDuty s.tally[u] t.tally[u]
  shift : s.shift.state ≠ .acceptHeld →
    t.shift.list = s.shift.list ∧ t.shift.openRec.trips = s.shift.openRec.trips

/-- The group with the record counted. -/
def groupCounted (x : Group) : Group := { x with trips := min (x.trips + 1) 65535 }

section
variable {s : State} {x : TripRecord} {l : List TripRecord}

/-- Only the group, its counters and the list move. -/
theorem groupTook_quietly {t : State} {y : TripRecord} {z : Group} {cnt : AnnCnt}
    (honly : Only [.ann, .nAnn, .recorder] s t) (hann : t.ann = s.ann.set x.group z) (hcnt : t.cnt.ann = cnt)
    (hlist : Tail l y t.recorder.list) (hseq : t.recorder.nextSeq = s.recorder.nextSeq) :
    GroupTook x.group l y s t z cnt := by
  have htally := honly.tally (by decide)
  have hshift := honly.shift (by decide)
  refine ⟨honly.mono (by decide), hann, hcnt, hlist, hseq, fun u => ?_, fun _ => ?_⟩
  · rw [htally]
    exact SameDuty.refl _
  · rw [hshift]
    exact ⟨rfl, rfl⟩

theorem groupRecord_masked (hm : maskedGroup s x.group = true) (hl : Tail l x s.recorder.list) :
    Only [.ann, .nAnn, .recorder] s (groupRecord x s)
      ∧ GroupTook x.group l { x with acked := true, earlier := false } s (groupRecord x s)
        (groupCounted s.ann[x.group]) { s.cnt.ann with masked := s.cnt.ann.masked + 1 } := by
  have heq : groupRecord x s = (setFlags x.seq true false
      (s.withGroup x.group (groupCounted s.ann[x.group]))).countAnn (fun c => { c with masked := c.masked + 1 }) :=
    if_pos hm
  have honly : Only [.ann, .nAnn, .recorder] s (groupRecord x s) := by
    rw [heq]
    exact ((only_withGroup s _ _).mono (by decide)).trans
      (((only_setFlags _ _ _ _).mono (by decide)).trans ((only_countAnn _ _).mono (by decide)))
  refine ⟨honly, groupTook_quietly honly ?_ ?_ ?_ ?_⟩ <;> rw [heq]
  · rfl
  · rfl
  · exact hl.upd (keepsRecord_flags true false)
  · rfl

theorem groupRecord_unmasked (hm : maskedGroup s x.group = false) :
    groupRecord x s = unmaskedRecord x (s.withGroup x.group (groupCounted s.ann[x.group])) :=
  if_neg (show ¬maskedGroup s x.group = true by rw [hm]; exact Bool.false_ne_true)

theorem counted_ann (s : State) (g : Fin 16) (z : Group) : (s.withGroup g z).ann[g] = z :=
  (getElem_set_fin s.ann g g z).trans (if_pos rfl)

/-- A QUIET group with a settle window takes the record as candidate (R108). -/
theorem groupRecord_settles (hm : maskedGroup s x.group = false) (hst : s.ann[x.group].state = .quiet)
    (hw : s.cfg.windows[x.group] ≠ 0) (hl : Tail l x s.recorder.list) :
    GroupTook x.group l { x with acked := false, earlier := false } s (groupRecord x s)
      { groupCounted s.ann[x.group] with
        state := .settling, ref := some x.seq, deadline := some (s.now.addMs s.cfg.windows[x.group]) } s.cnt.ann := by
  have heq : groupRecord x s = (setFlags x.seq false false
      (s.withGroup x.group (groupCounted s.ann[x.group]))).withGroup x.group { groupCounted s.ann[x.group] with
        state := .settling, ref := some x.seq, deadline := some (s.now.addMs s.cfg.windows[x.group]) } := by
    rw [groupRecord_unmasked hm]
    unfold unmaskedRecord
    dsimp only
    rw [counted_ann, show (groupCounted s.ann[x.group]).state = .quiet from hst]
    exact if_neg hw
  have honly : Only [.ann, .nAnn, .recorder] s (groupRecord x s) := by
    rw [heq]
    exact ((only_withGroup s _ _).mono (by decide)).trans
      (((only_setFlags _ _ _ _).mono (by decide)).trans ((only_withGroup _ _ _).mono (by decide)))
  refine groupTook_quietly honly ?_ ?_ ?_ ?_ <;> rw [heq]
  · exact Vector.set_set ..
  · rfl
  · exact hl.upd (keepsRecord_flags false false)
  · rfl

/-- A SETTLING group keeps the earlier candidate (R109). -/
theorem groupRecord_settling (hm : maskedGroup s x.group = false) (hst : s.ann[x.group].state = .settling)
    (hl : Tail l x s.recorder.list) :
    GroupTook x.group l { x with acked := false, earlier := false } s (groupRecord x s)
      { groupCounted s.ann[x.group] with
        ref := if beforeRef x s.ann[x.group] s.recorder.list then some x.seq else s.ann[x.group].ref } s.cnt.ann := by
  have heq : groupRecord x s = (setFlags x.seq false false s).withGroup x.group { groupCounted s.ann[x.group] with
        ref := if beforeRef x s.ann[x.group] s.recorder.list then some x.seq else s.ann[x.group].ref } := by
    rw [groupRecord_unmasked hm]
    unfold unmaskedRecord
    dsimp only
    have hstate : (groupCounted s.ann[x.group]).state = .settling := hst
    rw [counted_ann, hstate]
    dsimp only
    rw [show beforeRef x (groupCounted s.ann[x.group]) = beforeRef x s.ann[x.group] from rfl]
    by_cases hb : beforeRef x s.ann[x.group] s.recorder.list = true
    · rw [if_pos hb]
      refine (if_pos hb).trans ?_
      exact congrArg (fun v => ({ setFlags x.seq false false s with ann := v } : State)) (Vector.set_set ..)
    · rw [if_neg hb, ← hstate]
      exact if_neg hb
  have honly : Only [.ann, .nAnn, .recorder] s (groupRecord x s) := by
    rw [heq]
    exact ((only_setFlags _ _ _ s).mono (by decide)).trans ((only_withGroup _ _ _).mono (by decide))
  refine groupTook_quietly honly ?_ ?_ ?_ ?_ <;> rw [heq]
  · rfl
  · rfl
  · exact hl.upd (keepsRecord_flags false false)
  · rfl

/-- After the decision a record is counted and compared with the first-out (R112). -/
theorem groupRecord_decided (hm : maskedGroup s x.group = false)
    (hst : s.ann[x.group].state = .announced ∨ s.ann[x.group].state = .acked) (hl : Tail l x s.recorder.list) :
    GroupTook x.group l { x with
        acked := s.ann[x.group].state == .acked, earlier := beforeRef x s.ann[x.group] s.recorder.list }
      s (groupRecord x s) (groupCounted s.ann[x.group]) { s.cnt.ann with
        afterDecision := s.cnt.ann.afterDecision + 1
        earlier := s.cnt.ann.earlier + (if beforeRef x s.ann[x.group] s.recorder.list then 1 else 0) } := by
  have hcount (b : Bool) (n : Count) : (if b then n + 1 else n) = n + (if b then 1 else 0) := by
    cases b
    · exact (BitVec.add_zero n).symm
    · rfl
  have heq : groupRecord x s = (setFlags x.seq (s.ann[x.group].state == .acked)
      (beforeRef x s.ann[x.group] s.recorder.list) (s.withGroup x.group (groupCounted s.ann[x.group]))).countAnn
      (fun c => { c with
        afterDecision := c.afterDecision + 1
        earlier := if beforeRef x s.ann[x.group] s.recorder.list then c.earlier + 1 else c.earlier }) := by
    rw [groupRecord_unmasked hm]
    unfold unmaskedRecord
    dsimp only
    rw [counted_ann]
    rcases hst with hst | hst
    · rw [show (groupCounted s.ann[x.group]).state = .announced from hst, hst]
      rfl
    · rw [show (groupCounted s.ann[x.group]).state = .acked from hst, hst]
      rfl
  have honly : Only [.ann, .nAnn, .recorder] s (groupRecord x s) := by
    rw [heq]
    exact ((only_withGroup s _ _).mono (by decide)).trans
      (((only_setFlags _ _ _ _).mono (by decide)).trans ((only_countAnn _ _).mono (by decide)))
  refine groupTook_quietly honly ?_ ?_ ?_ ?_ <;> rw [heq]
  · rfl
  · rw [countAnn_cnt]
    simp only [hcount]
    rfl
  · exact hl.upd (keepsRecord_flags _ _)
  · rfl

/-- A QUIET group without a settle window decides at once (R108, R111). -/
theorem groupRecord_decides (hm : maskedGroup s x.group = false) (hst : s.ann[x.group].state = .quiet)
    (hw : s.cfg.windows[x.group] = 0) (hl : Tail l x s.recorder.list) :
    GroupTook x.group l { x with acked := false, earlier := false, firstOut := true } s (groupRecord x s)
      { groupCounted s.ann[x.group] with state := .announced, ref := some x.seq, deadline := none }
      { s.cnt.ann with decided := s.cnt.ann.decided + 1 } := by
  let u : State := (setFlags x.seq false false (s.withGroup x.group (groupCounted s.ann[x.group]))).withGroup x.group
    { groupCounted s.ann[x.group] with state := .settling, ref := some x.seq, deadline := none }
  have heq : groupRecord x s = groupDecides x.group u := by
    rw [groupRecord_unmasked hm]
    unfold unmaskedRecord
    dsimp only
    rw [counted_ann, show (groupCounted s.ann[x.group]).state = .quiet from hst]
    exact if_pos hw
  have hu : u.ann[x.group] = { groupCounted s.ann[x.group] with
      state := .settling, ref := some x.seq, deadline := none } := counted_ann _ _ _
  have hlu : Tail l { x with acked := false, earlier := false } u.recorder.list :=
    hl.upd (keepsRecord_flags false false)
  have hcnt : u.cnt.ann = s.cnt.ann := rfl
  have hann : u.ann = s.ann.set x.group { groupCounted s.ann[x.group] with
      state := .settling, ref := some x.seq, deadline := none } := Vector.set_set ..
  have hseq : u.recorder.nextSeq = s.recorder.nextSeq := rfl
  have htally : u.tally = s.tally := rfl
  have hshift : u.shift = s.shift := rfl
  clear_value u
  have hdecided := decideGroup_announced x.group u
  have hd := only_firstOutNotice x.group (decideGroup x.group u)
  have hrec := hdecided.recorder x.seq (by rw [hu])
  have hcount : (firstOutNotice x.group (decideGroup x.group u)).cnt.ann
      = { s.cnt.ann with decided := s.cnt.ann.decided + 1 } := by
    rw [hd.nAnn (by decide), ← hcnt]
    rfl
  have hs := only_shiftDecision x.group (firstOutNotice x.group (decideGroup x.group u))
  refine ⟨only_groupRecord x s, ?_, ?_, ?_, ?_, fun v => ?_, fun hne => ?_⟩ <;> rw [heq, groupDecides]
  · rw [hs.ann (by decide), hdecided.ann, hu, hann, Vector.set_set]
  · rw [hs.nAnn (by decide), hcount]
  · rw [hs.recorder (by decide), hrec]
    exact hlu.upd keepsRecord_firstOut
  · rw [hs.recorder (by decide), hrec]
    exact hseq
  · have hduty := shiftDecision_duty x.group v (firstOutNotice x.group (decideGroup x.group u))
    rw [hdecided.only.tally (by decide), htally] at hduty
    exact hduty
  · have hstate : (firstOutNotice x.group (decideGroup x.group u)).shift = s.shift :=
      (hdecided.only.shift (by decide)).trans hshift
    rw [shiftDecision_quiet (by rw [hstate]; exact hne), groupAdded, hstate]
    exact ⟨rfl, rfl⟩

end

end Sys2Proof.Proofs
end

section
/-! SUPPORT. A placed record handed on to the shift, its unit and its group (R100). -/

namespace Sys2Proof.Proofs

open Sys2Proof Sys2Proof.Machine Sys2Proof.Safety

/-! ### The trip stop of a unit (R131) -/

/-- A unit after a trip stop of running mode `k`. -/
structure Stopped (u v : UnitRec) (m : Elapsed) (holdLen : Nat) (k : Fin 5) : Prop where
  mode : v.mode = .standstill
  test : v.test = false
  trips : v.trips = min (u.trips + 1) 4294967295
  stops : v.stops[k] = min (u.stops[k] + 1) 4294967295
  hold : 0 < holdLen → v.hold = some (m + BitVec.ofNat 48 (holdLen * 1000))

theorem Stopped.of_duty {u v w : UnitRec} {m : Elapsed} {n : Nat} {k : Fin 5} (h : Stopped u v m n k)
    (hw : SameDuty v w) : Stopped u w m n k :=
  ⟨hw.mode.trans h.mode, hw.test.trans h.test, hw.trips.trans h.trips, by rw [hw.stops]; exact h.stops,
    fun hn => hw.hold.trans (h.hold hn)⟩

theorem stopped_tripStop (u : UnitRec) (m : Elapsed) (n : Nat) (k : Fin 5) :
    Stopped u ({ u with trips := satInc u.trips }.tripStop m n k) m n k := by
  refine ⟨rfl, rfl, ?_, ?_, fun hn => if_pos hn⟩
  · exact credit_trips _ _
  · show ((UnitRec.credit _ m).stops.set k (satInc (UnitRec.credit _ m).stops[k]))[k] = _
    rw [getElem_set_fin, if_pos rfl, credit_stops]
    rfl

theorem tripStop_tally {i : Fin 6} {k : Fin 5} {s : State} (h : s.tally[i].mode.running = some k) :
    (tripStop i s).tally[i] = s.tally[i].tripStop s.clock.m s.cfg.holdLen[i] k := by
  unfold tripStop
  dsimp only
  rw [h]
  dsimp only
  rw [countTally_tally, (only_requestCheckpoint _ _ _).tally (by decide), withUnit_tally, getElem_set_fin, if_pos rfl]

theorem stopped_tallyTrip {i : Fin 6} {k : Fin 5} {s : State} (h : s.tally[i].mode.running = some k) :
    Stopped s.tally[i] (tallyTrip i true s).tally[i] s.clock.m s.cfg.holdLen[i] k := by
  have hcounted : (s.withUnit i { s.tally[i] with trips := satInc s.tally[i].trips }).tally[i]
      = { s.tally[i] with trips := satInc s.tally[i].trips } := by
    rw [withUnit_tally, getElem_set_fin, if_pos rfl]
  have hmode : (s.withUnit i { s.tally[i] with trips := satInc s.tally[i].trips }).tally[i].mode.running = some k := by
    rw [hcounted]
    exact h
  have heq : tallyTrip i true s = tripStop i (s.withUnit i { s.tally[i] with trips := satInc s.tally[i].trips }) := rfl
  rw [heq, tripStop_tally hmode, hcounted]
  exact stopped_tripStop _ _ _ _

/-- The trip stop a report asks for, where its unit runs. -/
def stopsUnit (r : TripReport) (s t : State) : Prop :=
  ∀ (u : Fin 6) (k : Fin 5), r.kind = .trip → r.unit = some u → r.unitStop = true → s.tally[u].mode.running = some k →
    Stopped s.tally[u] t.tally[u] s.clock.m s.cfg.holdLen[u] k

/-- The report at its unit, where it names one. -/
def atUnit (r : TripReport) (s : State) : State :=
  match r.unit with
  | some u => tallyTrip u r.unitStop s
  | none => s

theorem only_atUnit (r : TripReport) (s : State) : Only [.tally, .nTally, .store, .nStore] s (atUnit r s) :=
  only_tallyTripOpt r.unit r.unitStop s

theorem atUnit_stops (r : TripReport) (s : State) : stopsUnit r s (atUnit r s) := by
  intro u k _ hunit hstop hk
  have heq : atUnit r s = tallyTrip u true s := by
    unfold atUnit
    rw [hunit, hstop]
  rw [heq]
  exact stopped_tallyTrip hk

/-- A state with the same units, time and hold lengths is stopped alike. -/
theorem stopsUnit_of_eq {r : TripReport} {s t u : State} (h : stopsUnit r t u) (htally : t.tally = s.tally)
    (hclock : t.clock = s.clock) (hcfg : t.cfg = s.cfg) : stopsUnit r s u := by
  intro v k hkind hunit hstop hk
  rw [← htally, ← hclock, ← hcfg]
  exact h v k hkind hunit hstop (by rw [htally]; exact hk)

theorem stopsUnit_of_duty {r : TripReport} {s t u : State} (h : stopsUnit r s t)
    (hu : ∀ v : Fin 6, SameDuty t.tally[v] u.tally[v]) : stopsUnit r s u :=
  fun v k hkind hunit hstop hk => (h v k hkind hunit hstop hk).of_duty (hu v)

/-! ### What a group takes -/

/-- A record but for the flags its group gives it. -/
def Flagged (x y : TripRecord) : Prop :=
  ∃ acked earlier first, y = { x with acked := acked, earlier := earlier, firstOut := first }

/-- Whatever a group makes of a record, it is taken. -/
theorem groupRecord_took {s : State} {x : TripRecord} {l : List TripRecord} (hl : Tail l x s.recorder.list) :
    ∃ y z cnt, GroupTook x.group l y s (groupRecord x s) z cnt ∧ Flagged x y := by
  have hdecided (hm : maskedGroup s x.group = false)
      (hst : s.ann[x.group].state = .announced ∨ s.ann[x.group].state = .acked) :
      ∃ y z cnt, GroupTook x.group l y s (groupRecord x s) z cnt ∧ Flagged x y :=
    ⟨_, _, _, groupRecord_decided hm hst hl, _, _, _, rfl⟩
  cases hm : maskedGroup s x.group with
  | true => exact ⟨_, _, _, (groupRecord_masked hm hl).2, _, _, _, rfl⟩
  | false =>
    cases hst : s.ann[x.group].state with
    | quiet =>
      by_cases hw : s.cfg.windows[x.group] = 0
      · exact ⟨_, _, _, groupRecord_decides hm hst hw hl, _, _, _, rfl⟩
      · exact ⟨_, _, _, groupRecord_settles hm hst hw hl, _, _, _, rfl⟩
    | settling => exact ⟨_, _, _, groupRecord_settling hm hst hl, _, _, _, rfl⟩
    | announced => exact hdecided hm (.inl hst)
    | acked => exact hdecided hm (.inr hst)

/-- A notice beside it changes nothing of what a group took. -/
theorem GroupTook.notice {g : Fin 16} {l : List TripRecord} {y : TripRecord} {s t u : State} {z : Group} {cnt : AnnCnt}
    (h : GroupTook g l y s t z cnt) (hu : Only noticeParts t u) : GroupTook g l y s u z cnt := by
  have hrec := hu.recorder (by decide)
  have hshift := hu.shift (by decide)
  have htally := hu.tally (by decide)
  refine ⟨h.only.trans (hu.mono (by decide)), (hu.ann (by decide)).trans h.ann, (hu.nAnn (by decide)).trans h.nAnn,
    by rw [hrec]; exact h.list, by rw [hrec]; exact h.nextSeq, fun v => by rw [htally]; exact h.duty v,
    fun hst => by rw [hshift]; exact h.shift hst⟩

/-! ### Handing on -/

/-- The state in which a TRIP record reaches its group: it is counted in its shift and at its unit. -/
def beforeGroup (r : TripReport) (x : TripRecord) (s : State) : State :=
  atUnit r (countShiftTrip x.shiftNo x.late s)

theorem only_beforeGroup (r : TripReport) (x : TripRecord) (s : State) :
    Only [.shift, .tally, .nTally, .store, .nStore] s (beforeGroup r x s) :=
  ((only_countShiftTrip _ _ s).mono (by decide)).trans ((only_atUnit r _).mono (by decide))

theorem beforeGroup_shift (r : TripReport) (x : TripRecord) (s : State) :
    (beforeGroup r x s).shift = (countShiftTrip x.shiftNo x.late s).shift := (only_atUnit r _).shift (by decide)

theorem beforeGroup_stops (r : TripReport) (x : TripRecord) (s : State) : stopsUnit r s (beforeGroup r x s) :=
  have honly := only_countShiftTrip x.shiftNo x.late s
  stopsUnit_of_eq (atUnit_stops r _) (honly.tally (by decide)) (honly.clock (by decide)) (honly.cfg (by decide))

theorem handOn_clear {r : TripReport} (hk : r.kind = .clear) (x : TripRecord) (s : State) :
    Only noticeParts s (handOn r x s) := by
  unfold handOn
  rw [hk]
  exact Only.ite _ (Only.refl _ s) (only_notice _ _ s)

/-- A TRIP record handed on: the group takes it, and a TRIP notice stands beside. -/
theorem handOn_trip {r : TripReport} (hk : r.kind = .trip) (x : TripRecord) (s : State) :
    Only noticeParts (groupRecord x (beforeGroup r x s)) (handOn r x s)
      ∧ (maskedGroup (groupRecord x (beforeGroup r x s)) r.group = true →
        handOn r x s = groupRecord x (beforeGroup r x s)) := by
  have heq : handOn r x s = if maskedGroup (groupRecord x (beforeGroup r x s)) r.group then
      groupRecord x (beforeGroup r x s) else
      notice 0x80 (((findRecord x.seq (groupRecord x (beforeGroup r x s)).recorder.list).getD x).encode)
        (groupRecord x (beforeGroup r x s)) := by
    unfold handOn
    rw [if_pos hk]
    rfl
  rw [heq]
  exact ⟨Only.ite _ (Only.refl _ _) (only_notice _ _ _), fun hm => if_pos hm⟩

end Sys2Proof.Proofs
end

section
/-! SUPPORT. What a trip report that makes a record leaves, placed and handed on, or lost (R90 to R99). -/

namespace Sys2Proof.Proofs

open Sys2Proof Sys2Proof.Machine Sys2Proof.Safety

/-! ### The record handed on -/

/-- What handing a record on leaves of the recorder, the shift and the units. -/
structure Handed (r : TripReport) (x : TripRecord) (l : List TripRecord) (s t : State) : Prop where
  slots : t.recorder.slots = s.recorder.slots
  cnt : t.cnt.recorder = s.cnt.recorder
  nextSeq : t.recorder.nextSeq = s.recorder.nextSeq
  list : ∃ y, Tail l y t.recorder.list ∧ Flagged x y
  stop : stopsUnit r s t
  shift : r.kind = .trip → s.shift.state ≠ .acceptHeld →
    t.shift.list = (countShiftTrip x.shiftNo x.late s).shift.list
      ∧ t.shift.openRec.trips = (countShiftTrip x.shiftNo x.late s).shift.openRec.trips

theorem tail_append (l : List TripRecord) (x : TripRecord) : Tail l x (l ++ [x]) := ⟨l, rfl, rfl⟩

theorem Tail.any {l k : List TripRecord} {y : TripRecord} (h : Tail l y k) (p : TripRecord → Bool) :
    k.getLast?.any p = p y := by
  rw [h.last]
  rfl

theorem countShiftTrip_state (no : Nat) (late : Bool) (s : State) :
    (countShiftTrip no late s).shift.state = s.shift.state := by
  unfold countShiftTrip
  split <;> rfl

theorem handOn_handed {r : TripReport} {x : TripRecord} {l : List TripRecord} {s : State}
    (hl : s.recorder.list = l ++ [x]) : Handed r x l s (handOn r x s) := by
  have htail : Tail l x s.recorder.list := hl ▸ tail_append l x
  cases hk : r.kind with
  | clear =>
    have honly := handOn_clear hk x s
    have hrec := honly.recorder (by decide)
    refine ⟨handOn_slots r x s, honly.nRecorder (by decide), by rw [hrec], ⟨x, by rw [hrec]; exact htail, ?_⟩, ?_, ?_⟩
    · exact ⟨_, _, _, rfl⟩
    · exact fun _ _ hkind => absurd (hk.symm.trans hkind) (by decide)
    · exact fun hkind => absurd (hk.symm.trans hkind) (by decide)
  | trip =>
    have hb := only_beforeGroup r x s
    have hrec := hb.recorder (by decide)
    obtain ⟨y, z, cnt, htook, hflag⟩ := groupRecord_took (s := beforeGroup r x s) (x := x) (l := l)
      (by rw [hrec]; exact htail)
    have hall := htook.notice (handOn_trip hk x s).1
    refine ⟨handOn_slots r x s, (hall.only.nRecorder (by decide)).trans (hb.nRecorder (by decide)), ?_,
      ⟨y, hall.list, hflag⟩, stopsUnit_of_duty (beforeGroup_stops r x s) hall.duty, fun _ hst => ?_⟩
    · rw [hall.nextSeq, hrec]
    · have hstate : (beforeGroup r x s).shift.state ≠ .acceptHeld := by
        rw [beforeGroup_shift, countShiftTrip_state]
        exact hst
      rw [← beforeGroup_shift r x s]
      exact hall.shift hstate

/-! ### The record placed -/

/-- The record placed: `s` before the report, `s3` with room made, `s4` with the record at the tail. -/
structure Placed (r : TripReport) (s s3 s4 : State) : Prop where
  only : Only [.recorder, .nRecorder] s s4
  list : s4.recorder.list = s3.recorder.list ++ [recordOf r s]
  found : ∀ (g : Fin 16) (q : BitVec 32), s.ann[g].ref = some q →
    findRecord q s3.recorder.list = findRecord q s.recorder.list
  slot : s4.recorder.slots[r.source]
    = s.recorder.slots[r.source].taken r.stateNo (nextEpoch r s) (some s.recorder.nextSeq)
  others : ∀ k : Fin 64, k ≠ r.source → s4.recorder.slots[k] = s3.recorder.slots[k]
  nextSeq : s4.recorder.nextSeq = seqNext s.recorder.nextSeq
  cnt : ∃ n, s4.cnt.recorder = { s.cnt.recorder with
    restart := s.cnt.recorder.restart + (if goesBack s.recorder.slots[r.source] r.stateNo then 1 else 0)
    wrap := s.cnt.recorder.wrap
      + (if numberListed r s && !goesBack s.recorder.slots[r.source] r.stateNo then 1 else 0)
    fallback := n
    overwrite := s3.cnt.recorder.overwrite
    records := s.cnt.recorder.records + 1 }

theorem newRecord_eq {r : TripReport} {s t : State} (honly : Only [.recorder, .nRecorder] s t)
    (hseq : t.recorder.nextSeq = s.recorder.nextSeq) (b : Bool) (e : BitVec 8) (st : Stamp × TripOrigin) :
    newRecord r b e st t = newRecord r b e st s := by
  unfold newRecord
  dsimp only
  rw [honly.shift (by decide), honly.tally (by decide), hseq]

theorem placed_placed {r : TripReport} {s s2 s3 : State} (hj : Judged r s s2) (hroom : makeRoom s2 = some s3) :
    Placed r s s3 (placed r (nextEpoch r s) (recordOf r s) s3) := by
  have hr := roomed_makeRoom hroom
  have hrec := hj.only.recorder (by decide)
  obtain ⟨q, hq⟩ := hr.slot r.source
  obtain ⟨n, hn⟩ := hr.cnt
  have hset (k : Fin 64) : (placed r (nextEpoch r s) (recordOf r s) s3).recorder.slots[k]
      = if k = r.source then s3.recorder.slots[r.source].taken r.stateNo (nextEpoch r s) (some (recordOf r s).seq)
        else s3.recorder.slots[k] := getElem_set_fin ..
  refine ⟨?_, rfl, fun g p hp => ?_, ?_, fun k hk => (hset k).trans (if_neg hk), ?_, ⟨s3.cnt.recorder.fallback, ?_⟩⟩
  · refine ((hj.only.mono (by decide)).trans hr.only).trans ?_
    exact ((only_set_recorder _ _).seq (only_withSlot _ _ _) (by decide) (by decide)).trans
      ((only_countRec _ _).mono (by decide))
  · rw [hr.found g p (by rw [hj.only.ann (by decide)]; exact hp), hrec]
  · rw [hset, if_pos rfl, hq, hrec]
    rfl
  · show seqNext s3.recorder.nextSeq = _
    rw [hr.nextSeq, hrec]
  · have heq : (placed r (nextEpoch r s) (recordOf r s) s3).cnt.recorder
        = { s3.cnt.recorder with records := s3.cnt.recorder.records + 1 } := rfl
    rw [heq, hn, hj.cnt]

/-- A report that makes a record is lost at a full list, or placed and handed on. -/
theorem tripReport_cases {r : TripReport} {s : State} (h : makesRecord s.recorder.slots[r.source] r.stateNo) :
    ∃ s2, Judged r s s2 ∧
      (makeRoom s2 = none ∧ tripReport r s = loseReport r (nextEpoch r s) s2
        ∨ ∃ s3 s4, makeRoom s2 = some s3 ∧ Placed r s s3 s4 ∧ tripReport r s = handOn r (recordOf r s) s4) := by
  obtain ⟨s2, hj, heq⟩ := tripReport_record h
  refine ⟨s2, hj, ?_⟩
  cases hroom : makeRoom s2 with
  | none => exact .inl ⟨rfl, by rw [heq, hroom]⟩
  | some s3 =>
    have hr := roomed_makeRoom hroom
    refine .inr ⟨s3, _, rfl, placed_placed hj hroom, ?_⟩
    have hx := newRecord_eq (r := r) ((hj.only.mono (by decide)).trans hr.only)
      (hr.nextSeq.trans (by rw [hj.only.recorder (by decide)])) (restarts r s) (nextEpoch r s)
      (recordStamp s.cfg.plausibility r)
    rw [heq, hroom]
    dsimp only
    rw [hx]
    rfl

/-! ### A lost report (R99) -/

/-- The recorder with a lost report's number used up. -/
def lostState (r : TripReport) (epoch : BitVec 8) (s : State) : State :=
  let u := (s.withSlot r.source (s.recorder.slots[r.source].taken r.stateNo epoch none)).countRec
    (fun c => { c with lost := c.lost + 1 })
  { u with recorder.nextSeq := seqNext u.recorder.nextSeq }

theorem loseReport_eq (r : TripReport) (epoch : BitVec 8) (s : State) : loseReport r epoch s
    = if r.kind = .trip then groupLost r.group (atUnit r (lostState r epoch s)) else lostState r epoch s := rfl

theorem only_lostState (r : TripReport) (epoch : BitVec 8) (s : State) :
    Only [.recorder, .nRecorder] s (lostState r epoch s) :=
  ((only_withSlot s _ _).seq (only_countRec _ _) (by decide) (by decide)).trans
    ((only_set_recorder _ _).mono (by decide))

/-- What a lost report leaves. -/
structure Lost (r : TripReport) (epoch : BitVec 8) (s t : State) : Prop where
  only : Only [.recorder, .nRecorder, .ann, .tally, .nTally, .store, .nStore] s t
  list : t.recorder.list = s.recorder.list
  slot : t.recorder.slots[r.source] = s.recorder.slots[r.source].taken r.stateNo epoch none
  nextSeq : t.recorder.nextSeq = seqNext s.recorder.nextSeq
  cnt : t.cnt.recorder = { s.cnt.recorder with lost := s.cnt.recorder.lost + 1 }
  ann : t.ann = if r.kind = .trip then s.ann.set r.group { s.ann[r.group] with lost := true } else s.ann
  stop : stopsUnit r s t

theorem loseReport_lost (r : TripReport) (epoch : BitVec 8) (s : State) : Lost r epoch s (loseReport r epoch s) := by
  have h := only_lostState r epoch s
  have hu := only_atUnit r (lostState r epoch s)
  have hslot : (loseReport r epoch s).recorder.slots[r.source]
      = s.recorder.slots[r.source].taken r.stateNo epoch none := by
    rw [loseReport_slots, getElem_set_fin, if_pos rfl]
  cases hk : r.kind with
  | clear =>
    have heq : loseReport r epoch s = lostState r epoch s := by
      rw [loseReport_eq, hk]
      exact if_neg (by decide)
    rw [heq] at hslot ⊢
    exact ⟨h.mono (by decide), rfl, hslot, rfl, rfl, (if_neg (by rw [hk]; decide)).symm,
      fun _ _ hkind => absurd (hk.symm.trans hkind) (by decide)⟩
  | trip =>
    have heq : loseReport r epoch s = groupLost r.group (atUnit r (lostState r epoch s)) := by
      rw [loseReport_eq, if_pos hk]
    have hg : Only [.ann] (atUnit r (lostState r epoch s)) (groupLost r.group (atUnit r (lostState r epoch s))) :=
      only_withGroup _ _ _
    have hrec : (groupLost r.group (atUnit r (lostState r epoch s))).recorder = (lostState r epoch s).recorder :=
      (hg.recorder (by decide)).trans (hu.recorder (by decide))
    have hann : (atUnit r (lostState r epoch s)).ann = s.ann := hu.ann (by decide)
    rw [heq] at hslot ⊢
    refine ⟨(h.mono (by decide)).trans ((hu.mono (by decide)).trans (hg.mono (by decide))), by rw [hrec]; rfl, hslot,
      by rw [hrec]; rfl, (hg.nRecorder (by decide)).trans (hu.nRecorder (by decide)), ?_, ?_⟩
    · rw [groupLost, withGroup_ann, hann, if_pos hk]
    · have hstop := stopsUnit_of_eq (atUnit_stops r (lostState r epoch s)) (h.tally (by decide)) (h.clock (by decide))
        (h.cfg (by decide))
      exact stopsUnit_of_duty hstop (fun v => SameDuty.refl _)

/-! ### What every such report leaves -/

/-- Placed or lost: the slot, the numbering, the counts of R89, and the unit. -/
structure Taken (r : TripReport) (s t : State) : Prop where
  slot : ∃ q, t.recorder.slots[r.source] = s.recorder.slots[r.source].taken r.stateNo (nextEpoch r s) q
  restart : t.cnt.recorder.restart
    = s.cnt.recorder.restart + (if goesBack s.recorder.slots[r.source] r.stateNo then 1 else 0)
  wrap : t.cnt.recorder.wrap = s.cnt.recorder.wrap
    + (if numberListed r s && !goesBack s.recorder.slots[r.source] r.stateNo then 1 else 0)
  repeats : t.cnt.recorder.repeats = s.cnt.recorder.repeats
  stale : t.cnt.recorder.stale = s.cnt.recorder.stale
  nextSeq : t.recorder.nextSeq = seqNext s.recorder.nextSeq
  stop : stopsUnit r s t

theorem Placed.taken {r : TripReport} {s s3 s4 t : State} (h : Placed r s s3 s4)
    (ht : Handed r (recordOf r s) s3.recorder.list s4 t) : Taken r s t := by
  obtain ⟨n, hn⟩ := h.cnt
  refine ⟨⟨_, by rw [ht.slots]; exact h.slot⟩, ?_, ?_, ?_, ?_, ht.nextSeq.trans h.nextSeq, ?_⟩
  · rw [ht.cnt, hn]
  · rw [ht.cnt, hn]
  · rw [ht.cnt, hn]
  · rw [ht.cnt, hn]
  · exact stopsUnit_of_eq ht.stop (h.only.tally (by decide)) (h.only.clock (by decide)) (h.only.cfg (by decide))

theorem Lost.taken {r : TripReport} {s s2 t : State} (hj : Judged r s s2) (ht : Lost r (nextEpoch r s) s2 t) :
    Taken r s t := by
  have hrec := hj.only.recorder (by decide)
  refine ⟨⟨none, by rw [ht.slot, hrec]⟩, ?_, ?_, ?_, ?_, by rw [ht.nextSeq, hrec], ?_⟩
  · rw [ht.cnt, hj.cnt]
  · rw [ht.cnt, hj.cnt]
  · rw [ht.cnt, hj.cnt]
  · rw [ht.cnt, hj.cnt]
  · exact stopsUnit_of_eq ht.stop (hj.only.tally (by decide)) (hj.only.clock (by decide)) (hj.only.cfg (by decide))

theorem tripReport_taken {r : TripReport} {s : State} (h : makesRecord s.recorder.slots[r.source] r.stateNo) :
    Taken r s (tripReport r s) := by
  obtain ⟨s2, hj, ⟨-, heq⟩ | ⟨s3, s4, -, hp, heq⟩⟩ := tripReport_cases h <;> rw [heq]
  · exact (loseReport_lost r _ s2).taken hj
  · exact hp.taken (handOn_handed hp.list)

end Sys2Proof.Proofs
end

section
/-! OBLIGATION O23. A trip report that makes a record. -/

namespace Sys2Proof.Proofs

open Sys2Proof Sys2Proof.Machine Sys2Proof.Safety

/-! ### The record at the tail -/

section
variable {r : TripReport} {s s3 s4 : State}

theorem compensated_cls (t : Stamp) (n : Nat) : (compensated t n).cls = t.cls := by
  unfold compensated
  generalize t.sec.toNat * 1000000000 + t.ns - n = m
  rfl

theorem recordStamp_cls (n : Nat) (r : TripReport) : (recordStamp n r).1.cls = r.stamp.cls := by
  unfold recordStamp
  split
  · exact compensated_cls _ _
  · split
    · rfl
    · exact compensated_cls _ _

/-- The fields a report gives its record. -/
theorem placed_fields (h : Placed r s s3 s4) : (handOn r (recordOf r s) s4).recorder.list.getLast?.any (fun y =>
      y.seq == s.recorder.nextSeq && y.kind == r.kind && y.source == r.source && y.group == r.group
        && y.unit == r.unit && y.code == r.code && y.stateNo == r.stateNo && y.port == r.port
        && y.stamp == (recordStamp s.cfg.plausibility r).1 && y.stamp.cls == r.stamp.cls
        && y.mode == r.unit.map (fun u => s.tally[u].mode) && y.restart == restarts r s
        && y.epoch == nextEpoch r s) = true := by
  obtain ⟨y, htail, a, e, f, rfl⟩ := (handOn_handed h.list).list
  rw [htail.any]
  simp only [recordOf, newRecord, recordStamp_cls, beq_self_eq_true, Bool.and_true]

theorem placed_counts (h : Placed r s s3 s4) :
    (handOn r (recordOf r s) s4).recorder.slots[r.source].latest = some s.recorder.nextSeq
      ∧ (handOn r (recordOf r s) s4).cnt.recorder.records = s.cnt.recorder.records + 1
      ∧ (handOn r (recordOf r s) s4).cnt.recorder.lost = s.cnt.recorder.lost
      ∧ (handOn r (recordOf r s) s4).cnt.recorder.overwrite = s3.cnt.recorder.overwrite := by
  have ht := handOn_handed (r := r) h.list
  obtain ⟨n, hn⟩ := h.cnt
  rw [ht.slots, h.slot, ht.cnt, hn]
  exact ⟨rfl, rfl, rfl, rfl⟩

/-- A CLEAR record is created acknowledged and reaches no group, shift or unit (R96). -/
theorem placed_clear (h : Placed r s s3 s4) (hk : r.kind = .clear) : (handOn r (recordOf r s) s4).ann = s.ann
      ∧ (handOn r (recordOf r s) s4).shift = s.shift ∧ (handOn r (recordOf r s) s4).cnt.ann = s.cnt.ann
      ∧ (handOn r (recordOf r s) s4).recorder.list.getLast?.any (fun y => y.acked && !y.earlier && !y.firstOut)
        = true := by
  have hc := handOn_clear hk (recordOf r s) s4
  refine ⟨(hc.ann (by decide)).trans (h.only.ann (by decide)), (hc.shift (by decide)).trans (h.only.shift (by decide)),
    (hc.nAnn (by decide)).trans (h.only.nAnn (by decide)), ?_⟩
  rw [hc.recorder (by decide), h.list, (tail_append _ _).any]
  simp only [recordOf, newRecord, hk, beq_self_eq_true, Bool.not_false, Bool.and_true]

/-! ### The shift it is counted in (R95, R147) -/

theorem placed_shiftNo (h : Placed r s s3 s4) {no : Nat} {late : Bool}
    (hat : attribution s.shift (recordStamp s.cfg.plausibility r).1 = (no, late)) :
    (handOn r (recordOf r s) s4).recorder.list.getLast?.any (fun y => y.shiftNo == no && y.late == late) = true
      ∧ (r.kind = .trip → s.shift.state ≠ .acceptHeld →
        (handOn r (recordOf r s) s4).shift.list = (countShiftTrip no late s).shift.list
          ∧ (handOn r (recordOf r s) s4).shift.openRec.trips = (countShiftTrip no late s).shift.openRec.trips) := by
  have ht := handOn_handed (r := r) h.list
  have hshift := h.only.shift (by decide)
  have hno : (recordOf r s).shiftNo = no := congrArg Prod.fst hat
  have hlate : (recordOf r s).late = late := congrArg Prod.snd hat
  have hcounted : (countShiftTrip no late s4).shift = (countShiftTrip no late s).shift := by
    unfold countShiftTrip
    rw [hshift]
    split <;> rfl
  refine ⟨?_, fun hk hst => ?_⟩
  · obtain ⟨y, htail, a, e, f, rfl⟩ := ht.list
    rw [htail.any]
    simp only [hno, hlate, beq_self_eq_true, Bool.and_true]
  · have hs := ht.shift hk (by rw [hshift]; exact hst)
    rw [hno, hlate, hcounted] at hs
    exact hs

theorem attribution_late {u : ShiftUnit} {l : List ClosedShift} {c : ClosedShift} {t : Stamp} (hl : u.list = l ++ [c])
    (h : earlierThan t u.openRec.opened = true) : attribution u t = (c.base.number, true) := by
  unfold attribution
  rw [hl, List.getLast?_concat]
  exact if_pos h

theorem attribution_open {u : ShiftUnit} {t : Stamp}
    (h : u.list = [] ∨ earlierThan t u.openRec.opened = false) : attribution u t = (u.openRec.number, false) := by
  unfold attribution
  rcases h with h | h
  · rw [h]
    rfl
  · split
    · exact if_neg (by rw [h]; decide)
    · rfl

theorem countShiftTrip_open (s : State) : (countShiftTrip s.shift.openRec.number false s).shift.list = s.shift.list
    ∧ (countShiftTrip s.shift.openRec.number false s).shift.openRec.trips
      = min (s.shift.openRec.trips + 1) 4294967295 := by
  rw [countShiftTrip, if_pos rfl]
  exact ⟨rfl, rfl⟩

theorem countShiftTrip_closed {l : List ClosedShift} {c : ClosedShift} (hl : s.shift.list = l ++ [c])
    (hne : c.base.number ≠ s.shift.openRec.number) (hfirst : ∀ y ∈ l, y.base.number ≠ c.base.number) :
    (countShiftTrip c.base.number true s).shift.list = l ++ [{ c with
        base.trips := min (c.base.trips + 1) 4294967295, base.late := min (c.base.late + 1) 4294967295 }]
      ∧ (countShiftTrip c.base.number true s).shift.openRec.trips = s.shift.openRec.trips := by
  rw [countShiftTrip, if_neg hne]
  refine ⟨?_, rfl⟩
  dsimp only
  rw [hl, List.map_append, List.map_singleton, if_pos rfl, if_pos rfl]
  refine congrArg (· ++ _) ((List.map_congr_left fun y hy => if_neg (hfirst y hy)).trans (List.map_id l))

/-! ### The group it reaches -/

/-- A TRIP record's group, its counters and the record's flags, from what the group made of it. -/
theorem placed_took (hk : r.kind = .trip) {y : TripRecord} {z : Group} {cnt : AnnCnt}
    (htook : GroupTook r.group s3.recorder.list y (beforeGroup r (recordOf r s) s4)
      (groupRecord (recordOf r s) (beforeGroup r (recordOf r s) s4)) z cnt) :
    (handOn r (recordOf r s) s4).ann[r.group] = z ∧ (handOn r (recordOf r s) s4).cnt.ann = cnt
      ∧ Tail s3.recorder.list y (handOn r (recordOf r s) s4).recorder.list := by
  have hall := htook.notice (handOn_trip hk (recordOf r s) s4).1
  refine ⟨?_, hall.nAnn, hall.list⟩
  rw [hall.ann, getElem_set_fin, if_pos rfl]

/-- The state that reaches the group differs from the one before the report in nothing the group reads. -/
theorem placed_reaches (h : Placed r s s3 s4) :
    Only [.recorder, .nRecorder, .shift, .tally, .nTally, .store, .nStore] s (beforeGroup r (recordOf r s) s4)
      ∧ Tail s3.recorder.list (recordOf r s) (beforeGroup r (recordOf r s) s4).recorder.list := by
  have hb := only_beforeGroup r (recordOf r s) s4
  refine ⟨(h.only.mono (by decide)).trans (hb.mono (by decide)), ?_⟩
  rw [hb.recorder (by decide), h.list]
  exact tail_append _ _

theorem placed_group_others (h : Placed r s s3 s4) (hk : r.kind = .trip) {j : Fin 16} (hj : j ≠ r.group) :
    (handOn r (recordOf r s) s4).ann[j] = s.ann[j] := by
  obtain ⟨hb, hl⟩ := placed_reaches h
  obtain ⟨y, z, cnt, htook, -⟩ := groupRecord_took hl
  have hann := (htook.notice (handOn_trip hk (recordOf r s) s4).1).ann
  rw [hann, getElem_set_fin, if_neg (show j ≠ (recordOf r s).group from hj), hb.ann (by decide)]

end

end Sys2Proof.Proofs
end

section
/-! OBLIGATION O23, concluded: what the group makes of the record, and the statement. -/

namespace Sys2Proof.Proofs

open Sys2Proof Sys2Proof.Machine Sys2Proof.Safety

/-! ### State by state, what the group makes of the record (R107 to R112) -/

section
variable {r : TripReport} {s s3 s4 : State}

theorem maskedGroup_of_cfg {s t : State} (h : t.cfg = s.cfg) (g : Fin 16) : maskedGroup t g = maskedGroup s g := by
  rw [maskedGroup, maskedGroup, h]

theorem placed_masked (h : Placed r s s3 s4) (hk : r.kind = .trip) (hm : maskedGroup s r.group = true) :
    (handOn r (recordOf r s) s4).ann[r.group] = groupCounted s.ann[r.group]
      ∧ (handOn r (recordOf r s) s4).cnt.ann = { s.cnt.ann with masked := s.cnt.ann.masked + 1 }
      ∧ (handOn r (recordOf r s) s4).resp.noticeNo = s.resp.noticeNo
      ∧ (handOn r (recordOf r s) s4).recorder.list.getLast?.any (fun y => y.acked && !y.earlier && !y.firstOut)
        = true := by
  obtain ⟨hb, hl⟩ := placed_reaches h
  have hm6 := (maskedGroup_of_cfg (hb.cfg (by decide)) r.group).trans hm
  obtain ⟨honly, htook⟩ := groupRecord_masked (x := recordOf r s) hm6 hl
  obtain ⟨hann, hcnt, hlist⟩ := placed_took hk htook
  have hnoNotice := (handOn_trip hk (recordOf r s) s4).2
    ((maskedGroup_of_cfg (honly.cfg (by decide)) r.group).trans hm6)
  refine ⟨hann.trans ?_, hcnt.trans ?_, ?_, (hlist.any _).trans rfl⟩
  · rw [hb.ann (by decide)]
    rfl
  · rw [hb.nAnn (by decide)]
  · rw [hnoNotice, honly.resp (by decide), hb.resp (by decide)]

theorem placed_settles (h : Placed r s s3 s4) (hk : r.kind = .trip) (hm : maskedGroup s r.group = false)
    (hst : s.ann[r.group].state = .quiet) (hw : s.cfg.windows[r.group] ≠ 0) :
    (handOn r (recordOf r s) s4).ann[r.group] = { groupCounted s.ann[r.group] with
        state := .settling, ref := some s.recorder.nextSeq
        deadline := some { s.now with m := s.clock.m + BitVec.ofNat 48 s.cfg.windows[r.group] } }
      ∧ (handOn r (recordOf r s) s4).cnt.ann = s.cnt.ann
      ∧ (handOn r (recordOf r s) s4).recorder.list.getLast?.any (fun y => !y.acked && !y.earlier && !y.firstOut)
        = true := by
  obtain ⟨hb, hl⟩ := placed_reaches h
  have hcfg := hb.cfg (by decide)
  have hann6 := hb.ann (by decide)
  have hnow : (beforeGroup r (recordOf r s) s4).now = s.now := by rw [State.now, State.now, hb.clock (by decide)]
  obtain ⟨hann, hcnt, hlist⟩ := placed_took hk (groupRecord_settles (x := recordOf r s)
    ((maskedGroup_of_cfg hcfg r.group).trans hm) (by rw [hann6]; exact hst) (by rw [hcfg]; exact hw) hl)
  refine ⟨hann.trans ?_, hcnt.trans (hb.nAnn (by decide)), (hlist.any _).trans rfl⟩
  rw [hann6, hcfg, hnow]
  rfl

theorem placed_decides (h : Placed r s s3 s4) (hk : r.kind = .trip) (hm : maskedGroup s r.group = false)
    (hst : s.ann[r.group].state = .quiet) (hw : s.cfg.windows[r.group] = 0) :
    (handOn r (recordOf r s) s4).ann[r.group] = { groupCounted s.ann[r.group] with
        state := .announced, ref := some s.recorder.nextSeq, deadline := none }
      ∧ (handOn r (recordOf r s) s4).cnt.ann = { s.cnt.ann with decided := s.cnt.ann.decided + 1 }
      ∧ (handOn r (recordOf r s) s4).recorder.list.getLast?.any (fun y => !y.acked && !y.earlier && y.firstOut)
        = true := by
  obtain ⟨hb, hl⟩ := placed_reaches h
  have hcfg := hb.cfg (by decide)
  have hann6 := hb.ann (by decide)
  obtain ⟨hann, hcnt, hlist⟩ := placed_took hk (groupRecord_decides (x := recordOf r s)
    ((maskedGroup_of_cfg hcfg r.group).trans hm) (by rw [hann6]; exact hst) (by rw [hcfg]; exact hw) hl)
  refine ⟨hann.trans ?_, hcnt.trans ?_, (hlist.any _).trans rfl⟩
  · rw [hann6]
    rfl
  · rw [hb.nAnn (by decide)]

/-- The reference that the group's comparison finds is the one in the list before the report. -/
theorem placed_beforeRef (h : Placed r s s3 s4) {c : TripRecord}
    (hc : (s.ann[r.group].ref.bind fun q => findRecord q s.recorder.list) = some c) :
    beforeRef (recordOf r s) s.ann[r.group] (beforeGroup r (recordOf r s) s4).recorder.list
      = earlierThan (recordStamp s.cfg.plausibility r).1 c.stamp := by
  obtain ⟨q, hq, hfind⟩ := Option.bind_eq_some_iff.mp hc
  have hold : findRecord q s3.recorder.list = some c := (h.found _ q hq).trans hfind
  have hlist : (beforeGroup r (recordOf r s) s4).recorder.list = s3.recorder.list ++ [recordOf r s] := by
    rw [(only_beforeGroup r _ s4).recorder (by decide), h.list]
  have hnew : findRecord q (s3.recorder.list ++ [recordOf r s]) = some c := by
    unfold findRecord at hold ⊢
    rw [List.find?_append, hold]
    rfl
  unfold beforeRef
  rw [hq, hlist, Option.bind_some, hnew]
  rfl

theorem placed_settling (h : Placed r s s3 s4) (hk : r.kind = .trip) (hm : maskedGroup s r.group = false)
    {c : TripRecord} (hc : (s.ann[r.group].ref.bind fun q => findRecord q s.recorder.list) = some c)
    (hst : s.ann[r.group].state = .settling) :
    (handOn r (recordOf r s) s4).ann[r.group] = { groupCounted s.ann[r.group] with
        ref := if earlierThan (recordStamp s.cfg.plausibility r).1 c.stamp then some s.recorder.nextSeq
          else s.ann[r.group].ref }
      ∧ (handOn r (recordOf r s) s4).cnt.ann = s.cnt.ann
      ∧ (handOn r (recordOf r s) s4).recorder.list.getLast?.any (fun y => !y.acked && !y.earlier && !y.firstOut)
        = true := by
  obtain ⟨hb, hl⟩ := placed_reaches h
  have hann6 := hb.ann (by decide)
  have hbefore := placed_beforeRef h hc
  obtain ⟨hann, hcnt, hlist⟩ := placed_took hk (groupRecord_settling (x := recordOf r s)
    ((maskedGroup_of_cfg (hb.cfg (by decide)) r.group).trans hm) (by rw [hann6]; exact hst) hl)
  refine ⟨hann.trans ?_, hcnt.trans (hb.nAnn (by decide)), (hlist.any _).trans rfl⟩
  rw [hann6, ← hbefore]
  rfl

theorem placed_decided (h : Placed r s s3 s4) (hk : r.kind = .trip) (hm : maskedGroup s r.group = false)
    {c : TripRecord} (hc : (s.ann[r.group].ref.bind fun q => findRecord q s.recorder.list) = some c)
    (hst : s.ann[r.group].state = .announced ∨ s.ann[r.group].state = .acked) :
    (handOn r (recordOf r s) s4).ann[r.group] = groupCounted s.ann[r.group]
      ∧ (handOn r (recordOf r s) s4).cnt.ann = { s.cnt.ann with
          afterDecision := s.cnt.ann.afterDecision + 1
          earlier := s.cnt.ann.earlier
            + (if earlierThan (recordStamp s.cfg.plausibility r).1 c.stamp then 1 else 0) }
      ∧ (handOn r (recordOf r s) s4).recorder.list.getLast?.any (fun y =>
          y.acked == (s.ann[r.group].state == .acked)
            && y.earlier == earlierThan (recordStamp s.cfg.plausibility r).1 c.stamp && !y.firstOut) = true := by
  obtain ⟨hb, hl⟩ := placed_reaches h
  have hann6 := hb.ann (by decide)
  have hbefore := placed_beforeRef h hc
  obtain ⟨hann, hcnt, hlist⟩ := placed_took hk (groupRecord_decided (x := recordOf r s)
    ((maskedGroup_of_cfg (hb.cfg (by decide)) r.group).trans hm) (by rw [hann6]; exact hst) hl)
  refine ⟨hann.trans ?_, hcnt.trans ?_, (hlist.any _).trans ?_⟩
  · rw [hann6]
    rfl
  · rw [hann6, hb.nAnn (by decide), ← hbefore]
    rfl
  · rw [hann6, ← hbefore]
    simp only [recordOf, newRecord, beq_self_eq_true, Bool.not_false, Bool.and_true]

/-- A record earlier than the open shift belongs to the newest closed one. -/
theorem placed_late (h : Placed r s s3 s4) {l : List ClosedShift} {c : ClosedShift} (hl : s.shift.list = l ++ [c])
    (hearlier : earlierThan (recordStamp s.cfg.plausibility r).1 s.shift.openRec.opened = true) :
    (handOn r (recordOf r s) s4).recorder.list.getLast?.any (fun y => y.shiftNo == c.base.number && y.late) = true
      ∧ (r.kind = .trip → c.base.number ≠ s.shift.openRec.number → (∀ y ∈ l, y.base.number ≠ c.base.number) →
        s.shift.state ≠ .acceptHeld →
        (handOn r (recordOf r s) s4).shift.list = l ++ [{ c with
            base.trips := min (c.base.trips + 1) 4294967295, base.late := min (c.base.late + 1) 4294967295 }]
          ∧ (handOn r (recordOf r s) s4).shift.openRec.trips = s.shift.openRec.trips) := by
  obtain ⟨hrecord, hcounted⟩ := placed_shiftNo h (attribution_late hl hearlier)
  refine ⟨by simpa only [beq_true] using hrecord, fun hk hne hfirst hst => ?_⟩
  obtain ⟨hlist, htrips⟩ := hcounted hk hst
  obtain ⟨hclosed, hopen⟩ := countShiftTrip_closed hl hne hfirst
  exact ⟨hlist.trans hclosed, htrips.trans hopen⟩

/-- Any other record belongs to the open shift. -/
theorem placed_open (h : Placed r s s3 s4) (hopen : s.shift.list = []
      ∨ earlierThan (recordStamp s.cfg.plausibility r).1 s.shift.openRec.opened = false) :
    (handOn r (recordOf r s) s4).recorder.list.getLast?.any
        (fun y => y.shiftNo == s.shift.openRec.number && !y.late) = true
      ∧ (r.kind = .trip → s.shift.state ≠ .acceptHeld →
        (handOn r (recordOf r s) s4).shift.list = s.shift.list
          ∧ (handOn r (recordOf r s) s4).shift.openRec.trips = min (s.shift.openRec.trips + 1) 4294967295) := by
  obtain ⟨hrecord, hcounted⟩ := placed_shiftNo h (attribution_open hopen)
  refine ⟨by simpa only [beq_false] using hrecord, fun hk hst => ?_⟩
  obtain ⟨hlist, htrips⟩ := hcounted hk hst
  obtain ⟨hsame, hone⟩ := countShiftTrip_open s
  exact ⟨hlist.trans hsame, htrips.trans hone⟩

end

/-! ### Room, made or not -/

theorem Judged.mayGiveWay {r : TripReport} {s s2 : State} (h : Judged r s s2) (x : TripRecord) :
    mayGiveWay s2 x = Machine.mayGiveWay s x := by
  rw [Machine.mayGiveWay, Machine.mayGiveWay, referred, referred, h.only.shift (by decide), h.only.ann (by decide)]

theorem mayGiveWay_of {s : State} {x : TripRecord} (hack : x.acked = true) (hno : x.shiftNo < s.shift.openRec.number)
    (hfree : ∀ g : Fin 16, s.ann[g].ref ≠ some x.seq) : mayGiveWay s x = true :=
  (mayGiveWay_iff s x).mpr ⟨hack, hno, hfree⟩

/-- A record that is not acknowledged, of the open shift, or referred to by a group may not give way. -/
theorem mayGiveWay_false {s : State} {y : TripRecord}
    (h : y.acked = false ∨ s.shift.openRec.number ≤ y.shiftNo ∨ ∃ g : Fin 16, s.ann[g].ref = some y.seq) :
    mayGiveWay s y = false := by
  rw [← Bool.not_eq_true, mayGiveWay_iff]
  rintro ⟨hack, hno, hfree⟩
  rcases h with h | h | ⟨g, hg⟩
  · exact absurd (h.symm.trans hack) (by decide)
  · omega
  · exact hfree g hg

section
variable {r : TripReport} {s : State}

/-- With room, or a record that may give way, the record is placed and handed on. -/
theorem tripReport_placed {x : TripRecord} (h : makesRecord s.recorder.slots[r.source] r.stateNo)
    (hroom : s.recorder.list.length < 512 ∨ x ∈ s.recorder.list ∧ mayGiveWay s x = true) :
    ∃ s3 s4, Placed r s s3 s4 ∧ tripReport r s = handOn r (recordOf r s) s4 := by
  obtain ⟨s2, hj, ⟨hnone, -⟩ | ⟨s3, s4, -, hp, heq⟩⟩ := tripReport_cases h
  · obtain ⟨u, hu⟩ := makeRoom_some (s := s2) (x := x) (by
      rw [hj.only.recorder (by decide), hj.mayGiveWay]
      exact hroom)
    exact absurd (hnone.symm.trans hu) (by simp)
  · exact ⟨s3, s4, hp, heq⟩

/-- With room in the list nothing gives way. -/
theorem tripReport_room (h : makesRecord s.recorder.slots[r.source] r.stateNo)
    (hroom : s.recorder.list.length < 512) :
    (tripReport r s).recorder.list.length = s.recorder.list.length + 1
      ∧ (tripReport r s).cnt.recorder.overwrite = s.cnt.recorder.overwrite := by
  obtain ⟨s2, hj, hcase⟩ := tripReport_cases h
  have hrec := hj.only.recorder (by decide)
  have hmade : makeRoom s2 = some s2 := makeRoom_room (by rw [hrec]; exact hroom)
  obtain ⟨hnone, -⟩ | ⟨s3, s4, hsome, hp, heq⟩ := hcase
  · exact absurd (hnone.symm.trans hmade) (by simp)
  · obtain rfl : s2 = s3 := Option.some.inj (hmade.symm.trans hsome)
    obtain ⟨y, htail, -⟩ := (handOn_handed (r := r) hp.list).list
    have hlen := congrArg List.length htail.seqs
    rw [List.length_map, List.length_append, List.length_map, hrec] at hlen
    rw [heq, (placed_counts hp).2.2.2, hj.cnt]
    exact ⟨hlen, rfl⟩

/-- In a full list the first record that may gives way (R98). -/
theorem tripReport_overwrites {before after : List TripRecord} {x : TripRecord}
    (h : makesRecord s.recorder.slots[r.source] r.stateNo) (hfull : 512 ≤ s.recorder.list.length)
    (hlist : s.recorder.list = before ++ x :: after) (hx : mayGiveWay s x = true)
    (hbefore : ∀ y ∈ before, mayGiveWay s y = false) :
    (tripReport r s).recorder.list.map TripRecord.seq
        = (before ++ after).map TripRecord.seq ++ [s.recorder.nextSeq]
      ∧ (tripReport r s).cnt.recorder.overwrite = s.cnt.recorder.overwrite + 1
      ∧ (x.source ≠ r.source → s.recorder.slots[x.source].latest = some x.seq →
          (tripReport r s).recorder.slots[x.source].latest = none) := by
  obtain ⟨s2, hj, hcase⟩ := tripReport_cases h
  have hrec := hj.only.recorder (by decide)
  obtain ⟨hmade, hkept⟩ := makeRoom_first (s := s2) (x := x) (before := before) (after := after)
    (by rw [hrec]; exact hfull) (by rw [hrec]; exact hlist) ((hj.mayGiveWay x).trans hx)
    (fun y hy => (hj.mayGiveWay y).trans (hbefore y hy))
  obtain ⟨hnone, -⟩ | ⟨s3, s4, hsome, hp, heq⟩ := hcase
  · exact absurd (hnone.symm.trans hmade) (by simp)
  · obtain rfl : removeRecord x s2 = s3 := Option.some.inj (hmade.symm.trans hsome)
    have ht := handOn_handed (r := r) hp.list
    obtain ⟨y, htail, a, e, f, rfl⟩ := ht.list
    rw [heq, (placed_counts hp).2.2.2, removeRecord_cnt, hj.cnt, htail.seqs, hkept]
    refine ⟨rfl, rfl, fun hne hlatest => ?_⟩
    rw [ht.slots, hp.others _ hne, removeRecord_slot, if_pos ⟨rfl, by rw [hrec]; exact hlatest⟩]

/-- Where none may give way the report is lost (R99). -/
theorem tripReport_lost (h : makesRecord s.recorder.slots[r.source] r.stateNo) (hfull : 512 ≤ s.recorder.list.length)
    (hnone : ∀ y ∈ s.recorder.list, mayGiveWay s y = false) :
    ∃ s2, Judged r s s2 ∧ Lost r (nextEpoch r s) s2 (tripReport r s) := by
  obtain ⟨s2, hj, hcase⟩ := tripReport_cases h
  have hrec := hj.only.recorder (by decide)
  have hmade : makeRoom s2 = none := makeRoom_none (by rw [hrec]; exact hfull)
    (fun y hy => (hj.mayGiveWay y).trans (hnone y (hrec ▸ hy)))
  obtain ⟨-, heq⟩ | ⟨s3, s4, hsome, -, -⟩ := hcase
  · exact ⟨s2, hj, heq ▸ loseReport_lost r _ s2⟩
  · exact absurd (hmade.symm.trans hsome) (by simp)

end

/-- Settles O23. The report is judged once; every clause is then read off the three ways it can go: placed with room,
placed where another record gave way, or lost. -/
theorem tripReportMakesRecord : Obligations.TripReportMakesRecord := by
  unfold Obligations.TripReportMakesRecord
  intro r s t before after x slot d back same ht hslot hd hback hsame hok
  subst hslot hd
  obtain rfl : back = goesBack s.recorder.slots[r.source] r.stateNo := hback
  obtain rfl : same = numberListed r s := hsame
  have hmakes : makesRecord s.recorder.slots[r.source] r.stateNo := hok
  have htaken := tripReport_taken hmakes
  have hway (hack : x.acked = true) (hno : x.shiftNo < s.shift.openRec.number)
      (hfree : ∀ g : Fin 16, s.ann[g].ref ≠ some x.seq) : mayGiveWay s x = true := mayGiveWay_of hack hno hfree
  obtain ⟨q, hq⟩ := htaken.slot
  rw [← ht] at htaken hq
  refine ⟨by rw [hq]; rfl, htaken.restart, htaken.wrap, by rw [hq]; rfl, by rw [hq]; rfl, htaken.repeats, htaken.stale,
    fun hroom => ?_, fun hroom => ?_, fun hfull hlist hack hno hfree hbefore => ?_, fun hfull hnone => ?_,
    htaken.nextSeq, by rw [hq]; rfl, by rw [hq]; rfl, fun u k hk hunit hstop hrun => ?_⟩
  · obtain ⟨s3, s4, hp, heq⟩ := tripReport_placed (x := x) hmakes (hroom.imp_right fun ⟨hlist, hack, hno, hfree⟩ =>
      ⟨by rw [hlist]; exact List.mem_append_right _ List.mem_cons_self, hway hack hno hfree⟩)
    obtain ⟨hlatest, hrecords, hlost, -⟩ := placed_counts hp
    rw [ht, heq]
    refine ⟨placed_fields hp, hlatest, hrecords, hlost, placed_clear hp, fun l c hl hearlier => ?_, fun hopen => ?_,
      fun g z e c hk hg hz he => ?_⟩
    · exact placed_late hp hl hearlier
    · exact placed_open hp hopen
    · subst hg hz he
      refine ⟨fun j hj => placed_group_others hp hk hj, placed_masked hp hk, placed_settles hp hk, placed_decides hp hk,
        fun hm hc => ⟨placed_settling hp hk hm hc, placed_decided hp hk hm hc⟩⟩
  · rw [ht]
    exact tripReport_room hmakes hroom
  · rw [ht]
    exact tripReport_overwrites hmakes hfull hlist (hway hack hno hfree) (fun y hy => mayGiveWay_false (hbefore y hy))
  · obtain ⟨s2, hj, hl⟩ := tripReport_lost hmakes hfull (fun y hy => mayGiveWay_false (hnone y hy))
    rw [← ht] at hl
    have hrec := hj.only.recorder (by decide)
    refine ⟨hl.list.trans (by rw [hrec]), by rw [hl.slot]; rfl, by rw [hl.cnt, hj.cnt], by rw [hl.cnt, hj.cnt], ?_,
      (hl.only.shift (by decide)).trans (hj.only.shift (by decide)), (hj.only.mono (by decide)).trans hl.only⟩
    rw [hl.ann, hj.only.ann (by decide)]
  · obtain ⟨hmode, htest, htrips, hstops, hhold⟩ := htaken.stop u k hk hunit hstop hrun
    exact ⟨hmode, htest, htrips, hstops, hhold⟩

end Sys2Proof.Proofs
end
